-- ==== Sys2Proof/Word.lean ====
section
/-! DEFINITION. The byte, the identifiers of the CDC-24 and the few words shared by commands and records
(spec/00_scope.md, Section 6; spec/11, R198). An identifier is a number below its count: `D01` is dock
door 0, `E01` evaporator 0, station address 1 is station 0, and zone `Z0` is zone 0. -/

namespace Sys2Proof

/-- One byte of a frame. -/
abbrev Byte := BitVec 8

/-- Zones Z0 (the dock hall) and Z1 to Z6 (the freezer rooms). -/
abbrev ZoneId := Fin 7
/-- Dock doors D01 to D24, numbered from 0. -/
abbrev DoorId := Fin 24
/-- Portals P01 to P12, numbered from 0. -/
abbrev PortalId := Fin 12
/-- Evaporators E01 to E16, numbered from 0. -/
abbrev EvapId := Fin 16
/-- Probes T01 to T24, numbered from 0. -/
abbrev ProbeId := Fin 24
/-- Field stations: address 1 to 62, numbered from 0. -/
abbrev StationId := Fin 62
/-- Product classes C0 to C7. -/
abbrev ClassId := Fin 8
/-- Routing rule entries 0 to 31. -/
abbrev RuleId := Fin 32

/-- The two master ports: Port A (role PLANT) and Port B (role WAREHOUSE). -/
inductive Port where
  | plant
  | warehouse
deriving DecidableEq, Repr

/-- The port that is not this one. -/
def Port.other : Port → Port
  | .plant => .warehouse
  | .warehouse => .plant

/-- A door as the requests and notices name it: a dock door or a portal (R198). -/
inductive DoorRef where
  | dock (d : DoorId)
  | portal (p : PortalId)
deriving DecidableEq, Repr

end Sys2Proof
end

