-- ==== Sys2Proof/Syntax.lean ====
section
/-! DEFINITION. The commands of the CDC-24: one constructor per row of spec/opcode_table.json, in the table's order.

* A REQUEST (PING to FETCH_NOTICES, R185) is a frame that passed the receiver of port `p` (R199): its `tag`, and the
  bytes of its `body` as they came on the line. The code is the row's own. Which bodies are well formed is R200's
  affair and is decided by `exec`, not by the syntax.
* A REPORT (DOCK_REPORT to PROBE_REPORT) is a report frame of that kind that passed checks 1, 2 and 4 of R202: its address
  and the bytes of its body.
* An EXPIRY names the element whose deadline is reached. It is the event of R16 and does nothing while the deadline is
  absent or still ahead.
* `ms` is the reading of a free-running millisecond clock at the event: the supply monitor's (R13) for the supply and reset
  events, the loop's (R19) for ROUND_START, the receiver's (R199) for the bytes of a damaged frame. -/

namespace Sys2Proof

/-- The commands, one per row of spec/opcode_table.json. -/
inductive Instr where
  /-- SUPPLY_FALL (R13). -/
  | supplyFall (ms : Nat)
  /-- SUPPLY_RISE (R13). -/
  | supplyRise (ms : Nat)
  /-- DIP_FILTER_EXPIRY (R13). -/
  | dipFilterExpiry (ms : Nat)
  /-- RIDE_THROUGH_LIMIT (R13). -/
  | rideThroughLimit (ms : Nat)
  /-- WARM_RESTART (R15). -/
  | warmRestart (ms : Nat)
  /-- COLD_START (R14). -/
  | coldStart (ms : Nat)
  /-- RESET_ASSERT (R14). -/
  | resetAssert
  /-- RESET_RELEASE (R14). -/
  | resetRelease (ms : Nat)
  /-- DEVICE_TIME_TICK (R16). -/
  | deviceTimeTick
  /-- BANK_WRITE_COMPLETE (R11). -/
  | bankWriteComplete (matched : Bool)
  /-- RECEIVER_GAP_TIMEOUT (R199). -/
  | receiverGapTimeout (p : Port) (arrived : List (Nat × Byte)) (ms : Nat)
  /-- FRAME_DISCARDED (R199). -/
  | frameDiscarded (p : Port) (arrived : List (Nat × Byte))
  /-- UNKNOWN_REQUEST_CODE (R185). -/
  | unknownRequestCode (p : Port) (code tag : Byte) (body : List Byte)
  /-- PING (R188). -/
  | ping (p : Port) (tag : Byte) (body : List Byte)
  /-- READ_SETTINGS (R189). -/
  | readSettings (p : Port) (tag : Byte) (body : List Byte)
  /-- WRITE_SETTINGS (R5). -/
  | writeSettings (p : Port) (tag : Byte) (body : List Byte)
  /-- LOCKOUT (R10). -/
  | lockout (p : Port) (tag : Byte) (body : List Byte)
  /-- READ_STATION (R36). -/
  | readStation (p : Port) (tag : Byte) (body : List Byte)
  /-- READ_ZONE (R58). -/
  | readZone (p : Port) (tag : Byte) (body : List Byte)
  /-- ZONE_BULK (R49). -/
  | zoneBulk (p : Port) (tag : Byte) (body : List Byte)
  /-- ZONE_BULK_RELEASE (R51). -/
  | zoneBulkRelease (p : Port) (tag : Byte) (body : List Byte)
  /-- ZONE_PULLDOWN (R52). -/
  | zonePulldown (p : Port) (tag : Byte) (body : List Byte)
  /-- ZONE_RELEASE (R54). -/
  | zoneRelease (p : Port) (tag : Byte) (body : List Byte)
  /-- READ_DOOR (R90). -/
  | readDoor (p : Port) (tag : Byte) (body : List Byte)
  /-- CLAIM_DOOR (R71). -/
  | claimDoor (p : Port) (tag : Byte) (body : List Byte)
  /-- UNCLAIM_DOOR (R72). -/
  | unclaimDoor (p : Port) (tag : Byte) (body : List Byte)
  /-- HOLD_DOOR (R73). -/
  | holdDoor (p : Port) (tag : Byte) (body : List Byte)
  /-- UNHOLD_DOOR (R73). -/
  | unholdDoor (p : Port) (tag : Byte) (body : List Byte)
  /-- SEAL (R63). -/
  | sealDoor (p : Port) (tag : Byte) (body : List Byte)
  /-- RESEAL (R63). -/
  | reseal (p : Port) (tag : Byte) (body : List Byte)
  /-- RELEASE_DOOR (R64). -/
  | releaseDoor (p : Port) (tag : Byte) (body : List Byte)
  /-- OPEN_DOOR (R74). -/
  | openDoor (p : Port) (tag : Byte) (body : List Byte)
  /-- CLOSE_DOOR (R78). -/
  | closeDoor (p : Port) (tag : Byte) (body : List Byte)
  /-- MANIFEST_BEGIN (R93). -/
  | manifestBegin (p : Port) (tag : Byte) (body : List Byte)
  /-- MANIFEST_ENTRY (R94). -/
  | manifestEntry (p : Port) (tag : Byte) (body : List Byte)
  /-- MANIFEST_COMMIT (R98). -/
  | manifestCommit (p : Port) (tag : Byte) (body : List Byte)
  /-- MANIFEST_CLEAR (R100). -/
  | manifestClear (p : Port) (tag : Byte) (body : List Byte)
  /-- READ_MANIFEST (R102). -/
  | readManifest (p : Port) (tag : Byte) (body : List Byte)
  /-- MOVE (R111). -/
  | move (p : Port) (tag : Byte) (body : List Byte)
  /-- CANCEL_MOVE (R117). -/
  | cancelMove (p : Port) (tag : Byte) (body : List Byte)
  /-- REMOVE_PALLET (R129). -/
  | removePallet (p : Port) (tag : Byte) (body : List Byte)
  /-- READ_PALLET (R130). -/
  | readPallet (p : Port) (tag : Byte) (body : List Byte)
  /-- FIND_PALLETS (R130). -/
  | findPallets (p : Port) (tag : Byte) (body : List Byte)
  /-- READ_STAGING (R121). -/
  | readStaging (p : Port) (tag : Byte) (body : List Byte)
  /-- DEFROST_REQUEST (R152). -/
  | defrostRequest (p : Port) (tag : Byte) (body : List Byte)
  /-- FORCE_DEFROST (R156). -/
  | forceDefrost (p : Port) (tag : Byte) (body : List Byte)
  /-- CANCEL_DEFROST (R158). -/
  | cancelDefrost (p : Port) (tag : Byte) (body : List Byte)
  /-- SET_HEAT_SLOTS (R161). -/
  | setHeatSlots (p : Port) (tag : Byte) (body : List Byte)
  /-- READ_EVAPORATOR (R173). -/
  | readEvaporator (p : Port) (tag : Byte) (body : List Byte)
  /-- READ_DEFROST (R173). -/
  | readDefrost (p : Port) (tag : Byte) (body : List Byte)
  /-- ACK_ALARM (R179). -/
  | ackAlarm (p : Port) (tag : Byte) (body : List Byte)
  /-- READ_ALARMS (R184). -/
  | readAlarms (p : Port) (tag : Byte) (body : List Byte)
  /-- FETCH_NOTICES (R192). -/
  | fetchNotices (p : Port) (tag : Byte) (body : List Byte)
  /-- SUPERVISION_DEADLINE (R193). -/
  | supervisionDeadline (p : Port)
  /-- ROUND_START (R19). -/
  | roundStart (ms : Nat)
  /-- POLL (R20). -/
  | poll
  /-- REPORT_WINDOW_EXPIRY (R21). -/
  | reportWindowExpiry
  /-- BAD_REPORT (R202). -/
  | badReport (bytes : List Byte)
  /-- DOCK_REPORT (R30). -/
  | dockReport (a : StationId) (body : List Byte)
  /-- PORTAL_REPORT (R31). -/
  | portalReport (a : StationId) (body : List Byte)
  /-- EVAP_REPORT (R32). -/
  | evapReport (a : StationId) (body : List Byte)
  /-- PROBE_REPORT (R33). -/
  | probeReport (a : StationId) (body : List Byte)
  /-- FRESHNESS_EXPIRY (R41). -/
  | freshnessExpiry (t : ProbeId)
  /-- STALE_HOLD_OFF_EXPIRY (R42). -/
  | staleHoldOffExpiry (z : ZoneId)
  /-- WARM_DEADLINE_EXPIRY (R45). -/
  | warmDeadlineExpiry (z : ZoneId)
  /-- RECOVERY_DEADLINE_EXPIRY (R46). -/
  | recoveryDeadlineExpiry (z : ZoneId)
  /-- ZONE_EXPOSURE_INTERVAL_EXPIRY (R47). -/
  | zoneExposureIntervalExpiry (z : ZoneId)
  /-- BULK_DEADLINE_EXPIRY (R51). -/
  | bulkDeadlineExpiry (z : ZoneId)
  /-- SEAL_DEADLINE_EXPIRY (R63). -/
  | sealDeadlineExpiry (d : DoorId)
  /-- TRAVEL_DEADLINE_EXPIRY (R66). -/
  | travelDeadlineExpiry (d : DoorId)
  /-- PORTAL_TRAVEL_DEADLINE_EXPIRY (R82). -/
  | portalTravelDeadlineExpiry (q : PortalId)
  /-- OPEN_DEADLINE_EXPIRY (R79). -/
  | openDeadlineExpiry (d : DoorId)
  /-- GRANT_DEADLINE_EXPIRY (R84). -/
  | grantDeadlineExpiry (q : PortalId)
  /-- DOOR_EXPOSURE_INTERVAL_EXPIRY (R89). -/
  | doorExposureIntervalExpiry (d : DoorId)
  /-- ENTRY_DEADLINE_EXPIRY (R96). -/
  | entryDeadlineExpiry (d : DoorId)
  /-- MOVE_EXPIRY (R116). -/
  | moveExpiry (id : Nat)
  /-- BACKSTOP_DEADLINE_EXPIRY (R151). -/
  | backstopDeadlineExpiry (e : EvapId)
  /-- OVERDUE_DEADLINE_EXPIRY (R153). -/
  | overdueDeadlineExpiry (e : EvapId)
  /-- GATHER_WINDOW_EXPIRY (R155). -/
  | gatherWindowExpiry (z : ZoneId)
  /-- PUMPDOWN_DEADLINE_EXPIRY (R159). -/
  | pumpdownDeadlineExpiry (z : ZoneId)
  /-- HEAT_DEADLINE_EXPIRY (R162). -/
  | heatDeadlineExpiry (e : EvapId)
  /-- DRIP_DEADLINE_EXPIRY (R164). -/
  | dripDeadlineExpiry (z : ZoneId)
  /-- REFREEZE_MAXIMUM_EXPIRY (R164). -/
  | refreezeMaximumExpiry (z : ZoneId)
  /-- SUSPENSION_DEADLINE_EXPIRY (R169). -/
  | suspensionDeadlineExpiry (z : ZoneId)
deriving DecidableEq, Repr

end Sys2Proof
end

