-- ==== Sys2Proof/Decode.lean ====
section
/-! DEFINITION. Table words. spec/opcode_table.json gives no row any bits or fields: the CDC-24 has commands and events, not
encoded instructions. (The bytes of its request and report frames are read by Machine/Frames.lean and Machine/Operands.lean.) -/

namespace Sys2Proof

/-- The command a table word spells: none, since no row of the table gives bits. -/
def decodeTableWord (_nbits _w : Nat) : Option Instr := none

end Sys2Proof
end

