-- ==== Sys2Proof/Config.lean ====
section
/-! DEFINITION. The values the spec leaves open: opaque constants with no body, so that no proof can see what they are.
Each is named in a row of notes/assumptions. -/

namespace Sys2Proof

/-- FREE VALUE (notes/assumptions/1.md). R194 sends the device time of the silent port's last valid request. The spec does not say
what is sent when the port has taken no valid request since the cold start. -/
opaque Config.noRequestTime : Nat

/-- FREE VALUE (notes/assumptions/2.md). R43, R51, R115, R122, R164 and R194 make two deliveries that "are not ordered".
`Config.firstDelivery k` says, at the `k`-th such pair, whether the delivery named first is taken first. -/
opaque Config.firstDelivery : Nat → Bool

/-- FREE VALUE (notes/assumptions/3.md). The byte of station kind NONE: Section 11.5 numbers DOCK, PORTAL, EVAP and PROBE 1 to 4 and gives
no byte for NONE. It is one of the 252 others. -/
opaque Config.noneKindIndex : Fin 252

/-- FREE VALUE (notes/assumptions/25.md). On a full alarm table step 1 of R180 removes a record in CLEARED_UNACK, and the last paragraph of
R180 says that no record of CRITICAL severity is ever displaced. Does step 1 take a CRITICAL record in CLEARED_UNACK? -/
opaque Config.displacesCritical : Bool

/-- FREE VALUE (notes/assumptions/26.md). R53 asks for a door report "since the door last took a state from a report". Does the report that
the state is taken from, delivered at that same event, count as one? -/
opaque Config.stateReportCounts : Bool

end Sys2Proof
end

