-- ==== Sys2Proof/Machine/Records.lean ====
section
/-! DEFINITION. The records of the CDC-24 as plain data: the configuration records of R4 and the records the nine blocks
hold (spec/00_scope.md, Section 3). Temperatures are signed tenths (`Int`), device times and deadlines whole seconds (`Nat`),
an absent field is `none`. -/

namespace Sys2Proof.Machine

open Sys2Proof

/-! ### Configuration records (R4) -/

/-- Station kinds (Section 1.1). -/
inductive StationKind where
  | none | dock | portal | evap | probe
deriving DecidableEq, Repr

/-- STATION record. -/
structure StationCfg where
  kind : StationKind
  inService : Bool
  lockout : Bool
deriving DecidableEq, Repr

/-- ZONE record. -/
structure ZoneCfg where
  inService : Bool
  setpoint : Int
  highOffset : Int
  allowance : Int
  staleTime : Nat
  alarmDelay : Nat
  recoveryTime : Nat
deriving DecidableEq, Repr

/-- PROBE record. `channel` 0 to 3 is channel 1 to 4. -/
structure ProbeCfg where
  inService : Bool
  lockout : Bool
  zone : Option ZoneId
  station : Option StationId
  channel : Fin 4
deriving DecidableEq, Repr

/-- DOCK DOOR record. -/
structure DockCfg where
  inService : Bool
  lockout : Bool
  station : Option StationId
  sealLimit : Nat
  weight : Nat
deriving DecidableEq, Repr

/-- DOOR HANDLING record. -/
structure HandlingCfg where
  openLimit : Nat
  precool : Int
  assumedTemp : Int
deriving DecidableEq, Repr

/-- PORTAL record. -/
structure PortalCfg where
  inService : Bool
  lockout : Bool
  zone : Option ZoneId
  station : Option StationId
  grantTime : Nat
  weight : Nat
deriving DecidableEq, Repr

/-- EVAPORATOR record. -/
structure EvapCfg where
  inService : Bool
  lockout : Bool
  zone : Option ZoneId
  station : Option StationId
  trigger : Nat
  backstopHours : Nat
deriving DecidableEq, Repr

/-- DEFROST record. -/
structure DefrostCfg where
  gatherWindow : Nat
  pumpdownTime : Nat
  dripTime : Nat
  terminationTemp : Int
  fanStartTemp : Int
  refreezeMax : Nat
  maxHeat : Nat
  maxDeferral : Nat
  suspendLimit : Nat
  maxSuspended : Nat
  fallbackSlots : Nat
deriving DecidableEq, Repr

/-- The action of a route: STORE(z), CROSS or QUARANTINE(z) (R4). -/
inductive Action where
  | store (z : ZoneId)
  | cross
  | quarantine (z : ZoneId)
deriving DecidableEq, Repr

/-- STAGING record. -/
structure StagingCfg where
  capacity : Nat
  reduction : Nat
  inboundLimit : Nat
  moveLimit : Nat
  entryDeadline : Nat
  bulkTime : Nat
  exposureInterval : Nat
  defaultAction : Action
  defaultDwell : Nat
  quarantineZone : ZoneId
deriving DecidableEq, Repr

/-- CLASS record. -/
structure ClassCfg where
  rate : Nat
  critical : Int
  warnLimit : Nat
  holdLimit : Nat
deriving DecidableEq, Repr

/-- ROUTING RULE record; `none` is ANY. -/
structure RuleCfg where
  valid : Bool
  consignee : Option Nat
  cls : Option ClassId
  action : Action
  dwell : Nat
deriving DecidableEq, Repr

/-- The whole configuration: the working copy, and what each bank holds. -/
structure Settings where
  stations : Vector StationCfg 62
  zones : Vector ZoneCfg 7
  probes : Vector ProbeCfg 24
  docks : Vector DockCfg 24
  handling : Vector HandlingCfg 24
  portals : Vector PortalCfg 12
  evaps : Vector EvapCfg 16
  defrost : DefrostCfg
  staging : StagingCfg
  classes : Vector ClassCfg 8
  rules : Vector RuleCfg 32
  portPlant : Nat
  portWarehouse : Nat
deriving DecidableEq, Repr

/-- One configuration record with its key, as WRITE SETTINGS carries it (R201). -/
inductive Record where
  | station (a : StationId) (c : StationCfg)
  | zone (z : ZoneId) (c : ZoneCfg)
  | probe (t : ProbeId) (c : ProbeCfg)
  | dock (d : DoorId) (c : DockCfg)
  | handling (d : DoorId) (c : HandlingCfg)
  | portal (q : PortalId) (c : PortalCfg)
  | evap (e : EvapId) (c : EvapCfg)
  | defrost (c : DefrostCfg)
  | staging (c : StagingCfg)
  | cls (k : ClassId) (c : ClassCfg)
  | rule (k : RuleId) (c : RuleCfg)
  | port (p : Port) (interval : Nat)
deriving DecidableEq, Repr

/-- The name of one configuration record, as READ SETTINGS gives it (R189). -/
inductive RecordKey where
  | station (a : StationId)
  | zone (z : ZoneId)
  | probe (t : ProbeId)
  | dock (d : DoorId)
  | handling (d : DoorId)
  | portal (q : PortalId)
  | evap (e : EvapId)
  | defrost
  | staging
  | cls (k : ClassId)
  | rule (k : RuleId)
  | port (p : Port)
deriving DecidableEq, Repr

/-- The element a LOCKOUT names (R10). -/
inductive LockTarget where
  | station (a : StationId)
  | probe (t : ProbeId)
  | dock (d : DoorId)
  | portal (q : PortalId)
  | evap (e : EvapId)
deriving DecidableEq, Repr

/-! ### Supply monitor, start cause and Settings Store (Chapter 1) -/

/-- States of the supply monitor (R13). -/
inductive SupplyState where
  | normal | dipPending | rideThrough | down
deriving DecidableEq, Repr

/-- Whether the part operates (R13, R14): `running`; `suspended` from the entry to RIDE_THROUGH until the restart; `stopped`
with its records lost, in DOWN and from an assertion of the reset input until the cold start. -/
inductive Service where
  | running | suspended | stopped
deriving DecidableEq, Repr

/-- The supply monitor and the reset input (R13, R14). Times are milliseconds of the monitor's clock. -/
structure Supply where
  state : SupplyState
  dipStart : Option Nat
  /-- The supply has been above 20.0 V since this time; none while it is below. -/
  risen : Option Nat
  resetAsserted : Bool
  /-- The reset was released away from NORMAL and the part waits for the supply to qualify (R14). -/
  resetWait : Bool
  /-- When the reset input was last released. -/
  released : Nat
  service : Service
  /-- Device time at which service was suspended (R172). -/
  suspendedAt : Nat
deriving DecidableEq, Repr

inductive Cause where
  | coldPower | coldReset | warm
deriving DecidableEq, Repr

inductive StoreStatus where
  | good | oneBank | storeFault
deriving DecidableEq, Repr

/-- The start-cause record (R17). -/
structure StartCause where
  cause : Cause
  status : StoreStatus
  startTime : Nat
  warmCount : Nat
  lastDip : Nat
deriving DecidableEq, Repr

/-- The status words of R187, in the order of their codes (R198). -/
inductive Status where
  | ok | okClamped | deferred | portBusy | badRequest | notPermitted | unknownId | stale | held | busyState | notReady
  | unloaded | trailerWarm | trailerFull | zoneClosed | zoneDefrost | defrostRunning | noCredit | routeMismatch | tableFull
  | duplicate | loadFault | storeFault
deriving DecidableEq, Repr

inductive BankId where
  | one | two
deriving DecidableEq, Repr

/-- One nonvolatile bank (Section 1.4). `valid` says that its check value matches its contents. -/
structure Bank where
  valid : Bool
  seq : Nat
  data : Settings
deriving DecidableEq, Repr

/-- The request a write operation answers: port, tag and request code. -/
structure Requester where
  port : Port
  tag : Byte
  code : Nat
deriving DecidableEq, Repr

/-- A write operation (R11). A repair write and one that lost its response at a dip have no requester. `status` and `body` are the
response it gives if the bank write succeeds. -/
structure WriteOp where
  requester : Option Requester
  status : Status
  body : List Byte
deriving DecidableEq, Repr

/-- The bank write in progress (R11): `second` marks the second attempt, `stopped` one that a dip stopped. -/
structure BankWrite where
  op : WriteOp
  bank : BankId
  seq : Nat
  copy : Settings
  second : Bool
  stopped : Bool
deriving DecidableEq, Repr

/-- The nonvolatile side of the Settings Store (Section 1.4). -/
structure Store where
  bank1 : Bank
  bank2 : Bank
  lastBank : BankId
  lastSeq : Nat
  current : Option BankWrite
  waiting : List WriteOp
deriving DecidableEq, Repr

/-! ### Field loop (Chapter 2) -/

inductive Link where
  | offline | online
deriving DecidableEq, Repr

/-- The loop-held fields of a station record (Section 2.1). -/
structure Station where
  link : Link
  miss : Nat
  good : Nat
  lastReport : Option Nat
  sectionTaken : Option Nat
deriving DecidableEq, Repr

inductive Drive where
  | none | open | close
deriving DecidableEq, Repr

inductive SealOut where
  | inflate | deflate
deriving DecidableEq, Repr

inductive Lamp where
  | off | red | amber | green
deriving DecidableEq, Repr

/-- The output image of a station by kind (R23). -/
inductive Image where
  | none
  | dock (drive : Drive) (sealOut : SealOut) (lamp : Lamp)
  | portal (openCommand : Bool)
  | evap (fan : Bool) (valveOpen : Bool) (heater : Bool)
  | probe
deriving DecidableEq, Repr

/-- A poll that has been sent and whose report window is open (R20). -/
structure InFlight where
  addr : StationId
  image : Image
  /-- The station left operation after the poll: its report is discarded without accounting (R19). -/
  discard : Bool
deriving DecidableEq, Repr

/-- The Field Loop Controller. `round` lists the stations the present round has yet to poll. -/
structure Loop where
  stations : Vector Station 62
  roundStart : Option Nat
  round : List StationId
  inFlight : Option InFlight
deriving DecidableEq, Repr

inductive Position where
  | closed | opened | between
deriving DecidableEq, Repr

inductive SealState where
  | released | proven | neither
deriving DecidableEq, Repr

inductive Direction where
  | inward | outward
deriving DecidableEq, Repr

/-- One pass of an event section (R25): pallet identifier and direction. -/
structure Pass where
  id : Nat
  dir : Direction
deriving DecidableEq, Repr

/-- The event section of a DOCK or PORTAL report: its flag is the open button or the approach (R25, R26). -/
structure EventSection where
  number : Nat
  flag : Bool
  passes : List Pass
deriving DecidableEq, Repr

/-- Contents of a DOCK report (R25), temperatures as sent. -/
structure DockReport where
  presence : Bool
  position : Position
  sealState : SealState
  temp : Option Int
  events : EventSection
deriving DecidableEq, Repr

/-- Contents of a PORTAL report (R26). -/
structure PortalReport where
  position : Position
  events : EventSection
deriving DecidableEq, Repr

/-- Contents of an EVAP report (R27). -/
structure EvapReport where
  coil : Option Int
  current : Bool
  fan : Bool
deriving DecidableEq, Repr

inductive ProbeFlag where
  | ok | fault | absent
deriving DecidableEq, Repr

/-- One channel entry of a PROBE report (R28). -/
structure ProbeEntry where
  flag : ProbeFlag
  temp : Int
deriving DecidableEq, Repr

/-! ### Zones (Chapter 3) -/

inductive Mode where
  | open | bulk | bulkPending | draining | pulldown | outOfService
deriving DecidableEq, Repr

/-- The held fields of a zone record (Section 3.1). `pointer` names an evaporator: 0 is E01. -/
structure Zone where
  temp : Int
  stale : Bool
  holdOff : Option Nat
  mode : Mode
  bulkDl : Option Nat
  recoveryDl : Option Nat
  warmDl : Option Nat
  exposureDl : Option Nat
  pointer : EvapId
deriving DecidableEq, Repr

/-- The held fields of a probe (Section 3.1). `expiryDue` is the model's own: the freshness expiry of the present reading has not
been taken yet (R41 takes it once). -/
structure Probe where
  last : Option Int
  freshUntil : Option Nat
  expiryDue : Bool
deriving DecidableEq, Repr

/-- Causes of a ZONE_MODE notice (R57). -/
inductive ModeCause where
  | request | batchLeftHeat | deadline | drained | revoked | settings
deriving DecidableEq, Repr

/-- Causes of a BULK_REVOKED notice (R57). -/
inductive RevokeCause where
  | pulldown | forceDefrost | portSilent
deriving DecidableEq, Repr

/-! ### Doors (Chapter 4) -/

inductive DockState where
  | vacant | arrived | inflating | sealed | opening | open | closing | releasing | breach | sealFault | fault | lockedOut
deriving DecidableEq, Repr

inductive PortalState where
  | closed | granted | open | held | deferred | blocked | fault | lockedOut
deriving DecidableEq, Repr

inductive Claim where
  | none | inbound | outbound | plantHold
deriving DecidableEq, Repr

/-- Origin of a pending request (R76). -/
inductive Origin where
  | openDoor | button | approach
deriving DecidableEq, Repr

structure PendingReq where
  origin : Origin
  time : Nat
deriving DecidableEq, Repr

/-- The last report of a dock door, with its report time (Section 4.1). -/
structure DockLast where
  presence : Bool
  position : Position
  sealState : SealState
  temp : Option Int
  time : Nat
deriving DecidableEq, Repr

/-- The last report of a portal (Section 4.1). -/
structure PortalLast where
  position : Position
  time : Nat
deriving DecidableEq, Repr

/-- A dock door record (Section 4.1). `sealOut` is the seal field of its output image; drive and lamp follow from the other fields
(Section 4.2, R81). -/
structure Dock where
  state : DockState
  firstPending : Bool
  claim : Claim
  trailer : Option Nat
  returnMark : Bool
  revision : Nat
  capture : Option Nat
  captureStart : Option Nat
  sealDl : Option Nat
  travelDl : Option Nat
  openDl : Option Nat
  extensions : Nat
  pending : Option PendingReq
  refusal : Bool
  consistent : Nat
  last : Option DockLast
  settleFrom : Option Nat
  carry : Nat
  exposureDl : Option Nat
  sealOut : SealOut
  /-- A door report was delivered since the door last took a state from a report (R53). -/
  heard : Bool
deriving DecidableEq, Repr

/-- A portal record (Section 4.1). -/
structure Portal where
  state : PortalState
  firstPending : Bool
  claim : Claim
  revision : Nat
  openCommand : Bool
  grantDl : Option Nat
  travelDl : Option Nat
  pending : Option PendingReq
  consistent : Nat
  last : Option PortalLast
  settleFrom : Option Nat
  carry : Nat
  /-- A door report was delivered since the door last took a state from a report (R53). -/
  heard : Bool
deriving DecidableEq, Repr

/-- How a pending request ended (R76). -/
inductive RequestEnd where
  | granted
  | cancelled
  | refused (st : Status)
deriving DecidableEq, Repr

/-- Causes of a DOOR_AUTO_CLOSE notice (R79, R80). -/
inductive CloseCause where
  | openLimit | forceDefrost | suspendLimit
deriving DecidableEq, Repr

/-! ### Manifests (Chapter 5) -/

inductive SlotState where
  | empty | loading | loaded | committed | loadFault
deriving DecidableEq, Repr

inductive LoadCause where
  | sequence | duplicateId | excessEntry | shortCommit | deadline | idInTable
deriving DecidableEq, Repr

structure Entry where
  seq : Nat
  id : Nat
  consignee : Nat
  cls : ClassId
  temp : Int
deriving DecidableEq, Repr

structure FaultRecord where
  cause : LoadCause
  detail : Nat
  time : Nat
deriving DecidableEq, Repr

/-- A manifest slot (Section 5.1). -/
structure Slot where
  state : SlotState
  count : Option Nat
  next : Option Nat
  entries : List Entry
  deadline : Option Nat
  fault : Option FaultRecord
  committed : Nat
deriving DecidableEq, Repr

/-! ### Pallets (Chapters 6 and 7) -/

inductive Loc where
  | trailer (d : DoorId)
  | hall
  | zone (z : ZoneId)
deriving DecidableEq, Repr

/-- Destination of a move: HALL, ZONE(z) or DOOR(d). -/
inductive Dest where
  | door (d : DoorId)
  | hall
  | zone (z : ZoneId)
deriving DecidableEq, Repr

inductive PalletStatus where
  | waiting | standing | moving | loaded
deriving DecidableEq, Repr

/-- A route snapshot (R105): the action carries its zone; `source` none is DEFAULT. -/
structure Route where
  action : Action
  dwell : Nat
  quarantineZone : ZoneId
  source : Option RuleId
deriving DecidableEq, Repr

/-- The move sub-record (Section 6.1). -/
structure Move where
  origin : Loc
  dest : Dest
  granted : Nat
  expiry : Nat
  reserved : Bool
deriving DecidableEq, Repr

/-- A pallet record (Section 6.1) with its thermal fields (Section 7.2). -/
structure Pallet where
  id : Nat
  loc : Loc
  status : PalletStatus
  consignee : Nat
  cls : ClassId
  route : Route
  hallEntry : Option Nat
  dwellRaised : Bool
  move : Option Move
  estimate : Int
  remainder : Int
  updated : Nat
  exposure : Nat
  warned : Bool
  quarantined : Bool
deriving DecidableEq, Repr

inductive CancelCause where
  | request | quarantine | trailerGone
deriving DecidableEq, Repr

/-! ### Defrost (Chapter 8) -/

inductive MemberOutcome where
  | temp | time | cut | lost
deriving DecidableEq, Repr

/-- Evaporator sub-states (R148). The outcome of HEAT_DONE stands in the batch's member entry. -/
inductive SubState where
  | idle | demand | gather | pumpdown | waitSlot | heating | heatDone | drip | refreeze | fault
deriving DecidableEq, Repr

inductive FaultCause where
  | station | heater
deriving DecidableEq, Repr

/-- The held fields of an evaporator (Section 8.1). -/
structure Evap where
  sub : SubState
  faultCause : Option FaultCause
  frost : Nat
  demandTime : Option Nat
  overdueDl : Option Nat
  lastEnd : Nat
  backstopDl : Option Nat
  heatStart : Option Nat
  heatDl : Option Nat
  heatUsed : Nat
  noCurrent : Nat
  stuck : Nat
  last : Option EvapReport
deriving DecidableEq, Repr

inductive BatchKind where
  | normal | forced
deriving DecidableEq, Repr

inductive Phase where
  | gather | forceWait | pumpdown | heat | drip | refreeze
deriving DecidableEq, Repr

structure Member where
  evap : EvapId
  outcome : Option MemberOutcome
  fanStarted : Bool
deriving DecidableEq, Repr

/-- A batch (Section 8.1); its zone is its place in the table of batches. -/
structure Batch where
  kind : BatchKind
  phase : Phase
  members : List Member
  deadline : Option Nat
  opened : Nat
  suspendLimit : Nat
  suspendCount : Nat
  suspended : Bool
  suspendedSince : Option Nat
  suspensionDl : Option Nat
  withdrawn : Bool
deriving DecidableEq, Repr

inductive BatchEnd where
  | complete | cancelled | emptied
deriving DecidableEq, Repr

/-- The answers to the defrost question (R166). -/
inductive Answer where
  | proceed | proceedSuspended | deferred | refused
deriving DecidableEq, Repr

/-! ### Alarms (Chapter 9) -/

/-- The alarm kinds of R175, in its order. -/
inductive AlarmKind where
  | sealFail | sealBreach | doorFault | zoneWarm | zoneStale | probeFault | palletWarn | palletHold | hallDwell
  | trailerLeftLoaded | defrostIncomplete | defrostOverdue | defrostRoomWarm | refreezeLate | heaterFault | heaterStuck
  | defrostAborted | stationOffline | portSilent
deriving DecidableEq, Repr

inductive Subject where
  | zone (z : ZoneId)
  | door (d : DoorRef)
  | evap (e : EvapId)
  | probe (t : ProbeId)
  | station (a : StationId)
  | pallet (id : Nat)
  | port (p : Port)
deriving DecidableEq, Repr

inductive AlarmState where
  | activeUnack | activeAck | clearedUnack
deriving DecidableEq, Repr

/-- An alarm record (Section 9.1); severity and latching are fixed by its kind. -/
structure Alarm where
  number : Nat
  kind : AlarmKind
  subject : Subject
  state : AlarmState
  raised : Nat
  lastRepeat : Nat
  repeats : Nat
deriving DecidableEq, Repr

/-- The alarm table (Section 9.1). -/
structure AlarmTable where
  records : List Alarm
  nextNumber : Nat
  full : Bool
  changes : Nat
  relay : Bool
deriving DecidableEq, Repr

/-- Causes of an ALARM_CLEARED notice (R183). -/
inductive ClearCause where
  | conditionEnded | ack | displaced
deriving DecidableEq, Repr

/-! ### Ports and notices (Chapter 10) -/

/-- One entry of DEPARTURE or TRAILER_LEFT (R128). -/
structure LeftEntry where
  id : Nat
  exposure : Nat
  quarantined : Bool
deriving DecidableEq, Repr

/-- One part of DEPARTURE or TRAILER_LEFT (R128). -/
structure LeftPart where
  door : DoorId
  trailer : Option Nat
  returnMark : Bool
  time : Nat
  part : Nat
  parts : Nat
  entries : List LeftEntry
deriving DecidableEq, Repr

/-- What every notice of a move's end carries (R115). -/
structure MoveEnd where
  id : Nat
  origin : Loc
  dest : Dest
  granted : Nat
  loc : Loc
deriving DecidableEq, Repr

/-- What DEFROST_END carries for one member (R165). -/
structure MemberEnd where
  evap : EvapId
  outcome : Option MemberOutcome
  heatUsed : Nat
  frost : Nat
deriving DecidableEq, Repr

/-- The notices of Section 10.3 with the fields their placing rules give. -/
inductive NoticeBody where
  | start (cause : Cause) (status : StoreStatus) (time : Nat)
  | portSilent (p : Port) (lastRequest : Nat)
  | portRestored (p : Port) (time : Nat)
  | zoneMode (z : ZoneId) (before after : Mode) (bulkDl : Option Nat) (cause : ModeCause)
  | bulkRevoked (z : ZoneId) (cause : RevokeCause) (bulkDl : Option Nat)
  | sealSlow (d : DoorId) (capture sealLimit : Nat)
  | precoolUnverified (d : DoorId) (trailer : Option Nat)
  | doorRequestEnd (door : DoorRef) (origin : Origin) (time : Nat) (outcome : RequestEnd)
  | doorAutoClose (door : DoorRef) (cause : CloseCause) (extensions : Option Nat)
  | manifestFault (d : DoorId) (trailer : Option Nat) (cause : LoadCause) (detail count : Nat)
  | moveDone (m : MoveEnd)
  | moveExpired (m : MoveEnd)
  | moveCancelled (m : MoveEnd) (cause : CancelCause)
  | unknownPallet (id : Nat) (dir : Direction) (door : DoorRef)
  | locationJump (id : Nat) (door : DoorRef) (dir : Direction) (old new : Loc)
  | passUnplanned (id : Nat) (door : DoorRef) (dir : Direction) (new : Loc)
  | passOffPath (id : Nat) (door : DoorRef) (dir : Direction) (new : Loc) (dest : Dest)
  | departure (part : LeftPart)
  | trailerLeft (part : LeftPart)
  | palletWarn (id : Nat) (loc : Loc) (cls : ClassId) (exposure limit : Nat)
  | palletHold (id : Nat) (loc : Loc) (status : PalletStatus) (cls : ClassId) (exposure limit : Nat)
  | defrostEnd (z : ZoneId) (kind : BatchKind) (cause : BatchEnd) (opened ended suspendCount : Nat) (members : List MemberEnd)
  | alarmRaised (number : Nat) (kind : AlarmKind) (subject : Subject) (after : Option AlarmState) (raised lastRepeat repeats : Nat)
      (notStored : Bool)
  | alarmAcked (number : Nat) (kind : AlarmKind) (subject : Subject) (by_ : Port)
  | alarmCleared (number : Nat) (kind : AlarmKind) (subject : Subject) (after : Option AlarmState) (cause : ClearCause)
deriving DecidableEq, Repr

/-- A notice in a queue (Section 10.3). -/
structure Notice where
  number : Nat
  time : Nat
  body : NoticeBody
deriving DecidableEq, Repr

/-- The receiver of a master port (R199). The bytes held are those after the start byte, oldest first; `at_` is the
time of the last byte in milliseconds. -/
inductive Receiver where
  | hunt
  | header (bytes : List Byte) (at_ : Nat)
  | body (length : Nat) (bytes : List Byte) (at_ : Nat)
deriving DecidableEq, Repr

/-- A master port (Chapter 10). `lastRequest` is the device time of its last valid request (R194). -/
structure PortRec where
  silent : Bool
  supervisionDl : Option Nat
  inService : Option Byte
  queue : List Notice
  overflow : Bool
  nextNumber : Nat
  lastRequest : Option Nat
  receiver : Receiver
deriving DecidableEq, Repr

/-- A response frame (R187): request code, tag, status and the bytes of its body. -/
structure Response where
  code : Nat
  tag : Byte
  status : Status
  body : List Byte
deriving DecidableEq, Repr

/-- What the part sends during one command: a response on a port or a poll on the field loop. -/
inductive Output where
  | response (p : Port) (r : Response)
  | poll (a : StationId) (kind : StationKind) (image : Image) (sectionTaken : Option Nat)
deriving DecidableEq, Repr

/-- Every record of the part. -/
structure Part where
  supply : Supply
  cause : StartCause
  time : Nat
  cfg : Settings
  store : Store
  loop : Loop
  zones : Vector Zone 7
  probes : Vector Probe 24
  docks : Vector Dock 24
  portals : Vector Portal 12
  slots : Vector Slot 24
  pallets : List Pallet
  credits : Nat
  evaps : Vector Evap 16
  batches : Vector (Option Batch) 7
  heatCommanded : Nat
  heatInForce : Nat
  alarms : AlarmTable
  portPlant : PortRec
  portWarehouse : PortRec
  /-- The frames sent by the last command, oldest first: the part's output, not a record of the spec. -/
  out : List Output
  /-- The model's own counter of unordered deliveries (notes/assumptions/2.md). -/
  draws : Nat
deriving DecidableEq, Repr

end Sys2Proof.Machine
end

