-- ==== Sys2Proof/Machine/Codes.lean ====
section
/-! DEFINITION. The field encodings of R198 and R201: bytes of numbers, temperatures, marks, optional fields and identifiers, and the
one-byte codes of the states, modes, causes and outcomes (the position in the list where the spec first gives the set,
counted from 1). -/

namespace Sys2Proof.Machine

open Sys2Proof

/-! ### Numbers -/

/-- Unsigned, one byte. -/
def putU8 (n : Nat) : List Byte := [BitVec.ofNat 8 n]

/-- Unsigned, two bytes, most significant first (R197). -/
def putU16 (n : Nat) : List Byte := [BitVec.ofNat 8 (n / 256), BitVec.ofNat 8 n]

/-- Unsigned, four bytes, most significant first. -/
def putU32 (n : Nat) : List Byte :=
  [BitVec.ofNat 8 (n / 16777216), BitVec.ofNat 8 (n / 65536), BitVec.ofNat 8 (n / 256), BitVec.ofNat 8 n]

/-- Signed, two's complement, two bytes: a temperature in tenths or an estimate in hundredths. -/
def putI16 (z : Int) : List Byte := putU16 (z % 65536).toNat

/-- Signed, two's complement, four bytes: the remainder. -/
def putI32 (z : Int) : List Byte := putU32 (z % 4294967296).toNat

/-- A mark: 0 clear, 1 set. -/
def putMark (b : Bool) : List Byte := putU8 b.toNat

/-- An optional field of `width` bytes: the presence byte, then the field, whose bytes are 0 when absent. -/
def putOpt (width : Nat) (enc : α → List Byte) : Option α → List Byte
  | none => 0 :: List.replicate width 0
  | some a => 1 :: enc a

/-- An optional device time. -/
def putTime? (t : Option Nat) : List Byte := putOpt 4 putU32 t

/-! ### Identifiers -/

def zoneCode (z : ZoneId) : Nat := z.val

/-- 1 to 24 for D01 to D24, 33 to 44 for P01 to P12. -/
def DoorRef.code : DoorRef → Nat
  | .dock d => d.val + 1
  | .portal p => p.val + 33

/-- Element numbers count from 1. -/
def elemCode {n : Nat} (i : Fin n) : Nat := i.val + 1

def Port.code : Port → Nat
  | .plant => 1
  | .warehouse => 2

def putZone (z : ZoneId) : List Byte := putU8 (zoneCode z)
def putElem {n : Nat} (i : Fin n) : List Byte := putU8 (elemCode i)
def putDoor (d : DoorRef) : List Byte := putU8 (DoorRef.code d)
def putPort (p : Port) : List Byte := putU8 (Port.code p)

/-- Location: kind byte 1 TRAILER, 2 HALL, 3 ZONE, then the door or zone byte. -/
def putLoc : Loc → List Byte
  | .trailer d => putU8 1 ++ putElem d
  | .hall => [2, 0]
  | .zone z => putU8 3 ++ putZone z

def putDest : Dest → List Byte
  | .door d => putU8 1 ++ putElem d
  | .hall => [2, 0]
  | .zone z => putU8 3 ++ putZone z

/-- Route action byte and action zone byte, 0xFF for none (pallet status record). -/
def putAction : Action → List Byte
  | .store z => putU8 1 ++ putZone z
  | .cross => [2, 255]
  | .quarantine z => putU8 3 ++ putZone z

/-! ### Codes of named values -/

/-- Status codes are numbered from 0 in the order of the status table (R198). -/
def Status.code : Status → Nat
  | .ok => 0 | .okClamped => 1 | .deferred => 2 | .portBusy => 3 | .badRequest => 4 | .notPermitted => 5 | .unknownId => 6
  | .stale => 7 | .held => 8 | .busyState => 9 | .notReady => 10 | .unloaded => 11 | .trailerWarm => 12 | .trailerFull => 13
  | .zoneClosed => 14 | .zoneDefrost => 15 | .defrostRunning => 16 | .noCredit => 17 | .routeMismatch => 18 | .tableFull => 19
  | .duplicate => 20 | .loadFault => 21 | .storeFault => 22

/-- The byte of station kind NONE: a free value, and none of the four bytes of Section 11.5 (notes/assumptions/3.md). -/
def noneKindCode : Nat := if Config.noneKindIndex.val = 0 then 0 else Config.noneKindIndex.val + 4

/-- The kind byte of Section 11.5, wherever a station kind appears (R198). -/
def StationKind.code : StationKind → Nat
  | .dock => 1 | .portal => 2 | .evap => 3 | .probe => 4 | .none => noneKindCode

def Cause.code : Cause → Nat
  | .coldPower => 1 | .coldReset => 2 | .warm => 3

def StoreStatus.code : StoreStatus → Nat
  | .good => 1 | .oneBank => 2 | .storeFault => 3

def Link.code : Link → Nat
  | .offline => 1 | .online => 2

def Drive.code : Drive → Nat
  | .none => 1 | .open => 2 | .close => 3

def SealOut.code : SealOut → Nat
  | .inflate => 1 | .deflate => 2

def Lamp.code : Lamp → Nat
  | .off => 1 | .red => 2 | .amber => 3 | .green => 4

/-- ON is 1 and OFF is 2 in the order of R23; so are OPEN and CLOSED of the liquid valve. -/
def onCode (b : Bool) : Nat := if b then 1 else 2

def Position.code : Position → Nat
  | .closed => 1 | .opened => 2 | .between => 3

def SealState.code : SealState → Nat
  | .released => 1 | .proven => 2 | .neither => 3

def Direction.code : Direction → Nat
  | .inward => 1 | .outward => 2

def Mode.code : Mode → Nat
  | .open => 1 | .bulk => 2 | .bulkPending => 3 | .draining => 4 | .pulldown => 5 | .outOfService => 6

def ModeCause.code : ModeCause → Nat
  | .request => 1 | .batchLeftHeat => 2 | .deadline => 3 | .drained => 4 | .revoked => 5 | .settings => 6

def RevokeCause.code : RevokeCause → Nat
  | .pulldown => 1 | .forceDefrost => 2 | .portSilent => 3

def DockState.code : DockState → Nat
  | .vacant => 1 | .arrived => 2 | .inflating => 3 | .sealed => 4 | .opening => 5 | .open => 6 | .closing => 7
  | .releasing => 8 | .breach => 9 | .sealFault => 10 | .fault => 11 | .lockedOut => 12

def PortalState.code : PortalState → Nat
  | .closed => 1 | .granted => 2 | .open => 3 | .held => 4 | .deferred => 5 | .blocked => 6 | .fault => 7 | .lockedOut => 8

def Claim.code : Claim → Nat
  | .none => 1 | .inbound => 2 | .outbound => 3 | .plantHold => 4

def Origin.code : Origin → Nat
  | .openDoor => 1 | .button => 2 | .approach => 3

/-- GRANTED 1, CANCELLED 2; a refusal is sent as its status code, which is 4 or more (notes/assumptions/4.md). -/
def RequestEnd.code : RequestEnd → Nat
  | .granted => 1 | .cancelled => 2 | .refused st => Status.code st

def CloseCause.code : CloseCause → Nat
  | .openLimit => 1 | .forceDefrost => 2 | .suspendLimit => 3

def SlotState.code : SlotState → Nat
  | .empty => 1 | .loading => 2 | .loaded => 3 | .committed => 4 | .loadFault => 5

def LoadCause.code : LoadCause → Nat
  | .sequence => 1 | .duplicateId => 2 | .excessEntry => 3 | .shortCommit => 4 | .deadline => 5 | .idInTable => 6

def PalletStatus.code : PalletStatus → Nat
  | .waiting => 1 | .standing => 2 | .moving => 3 | .loaded => 4

def CancelCause.code : CancelCause → Nat
  | .request => 1 | .quarantine => 2 | .trailerGone => 3

def MemberOutcome.code : MemberOutcome → Nat
  | .temp => 1 | .time => 2 | .cut => 3 | .lost => 4

def SubState.code : SubState → Nat
  | .idle => 1 | .demand => 2 | .gather => 3 | .pumpdown => 4 | .waitSlot => 5 | .heating => 6 | .heatDone => 7 | .drip => 8
  | .refreeze => 9 | .fault => 10

def FaultCause.code : FaultCause → Nat
  | .station => 1 | .heater => 2

def BatchKind.code : BatchKind → Nat
  | .normal => 1 | .forced => 2

def Phase.code : Phase → Nat
  | .gather => 1 | .forceWait => 2 | .pumpdown => 3 | .heat => 4 | .drip => 5 | .refreeze => 6

def BatchEnd.code : BatchEnd → Nat
  | .complete => 1 | .cancelled => 2 | .emptied => 3

def AlarmKind.code : AlarmKind → Nat
  | .sealFail => 1 | .sealBreach => 2 | .doorFault => 3 | .zoneWarm => 4 | .zoneStale => 5 | .probeFault => 6 | .palletWarn => 7
  | .palletHold => 8 | .hallDwell => 9 | .trailerLeftLoaded => 10 | .defrostIncomplete => 11 | .defrostOverdue => 12
  | .defrostRoomWarm => 13 | .refreezeLate => 14 | .heaterFault => 15 | .heaterStuck => 16 | .defrostAborted => 17
  | .stationOffline => 18 | .portSilent => 19

/-- The state after in ALARM_RAISED and ALARM_CLEARED: 1 to 3 as below, 4 REMOVED (Section 11.4). -/
def AlarmState.code : AlarmState → Nat
  | .activeUnack => 1 | .activeAck => 2 | .clearedUnack => 3

def ClearCause.code : ClearCause → Nat
  | .conditionEnded => 1 | .ack => 2 | .displaced => 3

/-- Relay: ENERGISED 1, DE-ENERGISED 2. -/
def relayCode (energised : Bool) : Nat := if energised then 1 else 2

/-- Port state: ACTIVE 1, SILENT 2. -/
def portStateCode (silent : Bool) : Nat := if silent then 2 else 1

/-- R175: the severity of each kind. -/
def AlarmKind.critical : AlarmKind → Bool
  | .sealBreach | .doorFault | .zoneWarm | .zoneStale | .palletHold | .defrostRoomWarm | .heaterFault | .heaterStuck
  | .defrostAborted | .stationOffline => true
  | .sealFail | .probeFault | .palletWarn | .hallDwell | .trailerLeftLoaded | .defrostIncomplete | .defrostOverdue
  | .refreezeLate | .portSilent => false

/-- R175: the latching of each kind. -/
def AlarmKind.latched : AlarmKind → Bool
  | .doorFault | .zoneWarm | .zoneStale | .probeFault | .defrostOverdue | .stationOffline | .portSilent => false
  | .sealFail | .sealBreach | .palletWarn | .palletHold | .hallDwell | .trailerLeftLoaded | .defrostIncomplete
  | .defrostRoomWarm | .refreezeLate | .heaterFault | .heaterStuck | .defrostAborted => true

/-- Severity: WARNING 1, CRITICAL 2. -/
def severityCode (k : AlarmKind) : Nat := if AlarmKind.critical k then 2 else 1

/-- Latching: LATCHED 1, SELF_CLEARING 2. -/
def latchingCode (k : AlarmKind) : Nat := if AlarmKind.latched k then 1 else 2

/-- Subject type and the four subject bytes of ALARM_RAISED (Section 11.4). -/
def putSubject : Subject → List Byte
  | .zone z => putU8 1 ++ putU32 (zoneCode z)
  | .door d => putU8 2 ++ putU32 (DoorRef.code d)
  | .evap e => putU8 3 ++ putU32 (elemCode e)
  | .probe t => putU8 4 ++ putU32 (elemCode t)
  | .station a => putU8 5 ++ putU32 (elemCode a)
  | .pallet id => putU8 6 ++ putU32 id
  | .port p => putU8 7 ++ putU32 (Port.code p)

/-! ### Reading bytes back: each reader takes its field from the front, or refuses it (R200) -/

/-- A reader of one field. -/
abbrev Reader (α : Type) := List Byte → Option (α × List Byte)

def getU8 : Reader Nat
  | b :: r => some (b.toNat, r)
  | [] => none

def getU16 : Reader Nat
  | a :: b :: r => some (a.toNat * 256 + b.toNat, r)
  | _ => none

def getU32 : Reader Nat
  | a :: b :: c :: d :: r => some (a.toNat * 16777216 + b.toNat * 65536 + c.toNat * 256 + d.toNat, r)
  | _ => none

/-- A signed 16-bit number. -/
def getI16 : Reader Int := fun l => do
  let (n, r) ← getU16 l
  some (if n < 32768 then (n : Int) else (n : Int) - 65536, r)

def getMark : Reader Bool
  | b :: r => if b = 0 then some (false, r) else if b = 1 then some (true, r) else none
  | [] => none

/-- A number from `lo` to `lo + n - 1` as an identifier below `n`. -/
def getId (lo n : Nat) : Reader (Fin n) := fun l => do
  let (k, r) ← getU8 l
  if h : lo ≤ k ∧ k - lo < n then some (⟨k - lo, h.2⟩, r) else none

def getZone : Reader ZoneId := getId 0 7

/-- A freezer room: Z1 to Z6. -/
def getRoom : Reader ZoneId := fun l => do
  let (z, r) ← getZone l
  if z = 0 then none else some (z, r)

def getStation : Reader StationId := getId 1 62

def getDoor : Reader DoorRef := fun l => do
  let (k, r) ← getU8 l
  if h : 1 ≤ k ∧ k - 1 < 24 then some (.dock ⟨k - 1, h.2⟩, r)
  else if h : 33 ≤ k ∧ k - 33 < 12 then some (.portal ⟨k - 33, h.2⟩, r)
  else none

def getPort : Reader Port := fun l => do
  let (k, r) ← getU8 l
  if k = 1 then some (.plant, r) else if k = 2 then some (.warehouse, r) else none

/-- An optional field of `width` bytes; the bytes of an absent field are 0 (R198). -/
def getOpt (width : Nat) (rd : Reader α) : Reader (Option α)
  | b :: r =>
    if b = 0 then
      if r.take width = List.replicate width 0 then some (none, r.drop width) else none
    else if b = 1 then (rd r).map fun x => (some x.1, x.2)
    else none
  | [] => none

/-- The action zone byte of the pallet status record: a zone, or 0xFF for none. -/
def getActionZone : Reader (Option ZoneId) := fun l => do
  let (k, r) ← getU8 l
  if k = 255 then some (none, r) else (getZone l).map fun x => (some x.1, x.2)

/-- An action as it is encoded (R201): each of its two bytes holds a defined value. `none` is a STORE or QUARANTINE with no zone or a CROSS
with one, which is no action: check 2 of R5, as is a zone that is no freezer room. -/
def getAction : Reader (Option Action) := fun l => do
  let (k, r) ← getU8 l
  let (z, r) ← getActionZone r
  if k = 1 then some (z.map .store, r)
  else if k = 2 then some (if z = none then some .cross else none, r)
  else if k = 3 then some (z.map .quarantine, r)
  else none

/-- A destination: a dock door, HALL (second byte 0) or a freezer room. -/
def getDest : Reader Dest := fun l => do
  let (k, r) ← getU8 l
  if k = 1 then (getId 1 24 r).map fun x => (.door x.1, x.2)
  else if k = 2 then
    match r with
    | z :: r => if z = 0 then some (.hall, r) else none
    | [] => none
  else if k = 3 then (getRoom r).map fun x => (.zone x.1, x.2)
  else none

/-- The whole body must have been read. -/
def finish (x : Option (α × List Byte)) : Option α :=
  match x with
  | some (a, []) => some a
  | _ => none

end Sys2Proof.Machine
end

