-- ==== Sys2Proof/Machine/Frames.lean ====
section
/-! DEFINITION. Frames on the three lines (R197, R199, R202): the CRC, the receiver of a master port, the response and poll frames the
part sends, the report frame it takes, and the notice records of a FETCH NOTICES response (Section 11.4). -/

namespace Sys2Proof.Machine

open Sys2Proof

/-! ### CRC (R197) -/

/-- One bit of the division by x^16 + x^12 + x^5 + 1. -/
def crcBit (c : BitVec 16) : BitVec 16 := if c.msb then (c <<< 1) ^^^ 0x1021#16 else c <<< 1

def crcByte (c : BitVec 16) (b : Byte) : BitVec 16 :=
  let c := c ^^^ (b.zeroExtend 16 <<< 8)
  crcBit (crcBit (crcBit (crcBit (crcBit (crcBit (crcBit (crcBit c)))))))

/-- The CRC of the bytes from the length field to the last body byte, initial value 0xFFFF. -/
def crc16 (l : List Byte) : BitVec 16 := l.foldl crcByte 0xFFFF#16

/-- The CRC as sent, most significant byte first. -/
def crcBytes (l : List Byte) : List Byte := putU16 (crc16 l).toNat

/-! ### Master port frames (Section 11.2) -/

/-- Start byte of a master port frame. -/
def startByte : Byte := 0xA6

/-- A master port frame: start, length, content, CRC. -/
def masterFrame (content : List Byte) : List Byte :=
  let l := putU16 content.length ++ content
  startByte :: l ++ crcBytes l

/-- The frame of a request, as a master sends it. -/
def requestFrame (code : Nat) (tag : Byte) (body : List Byte) : List Byte := masterFrame (putU8 code ++ tag :: body)

/-- The frame of a response (R187). -/
def responseFrame (r : Response) : List Byte := masterFrame (putU8 r.code ++ r.tag :: putU8 (Status.code r.status) ++ r.body)

/-- A byte in HEADER: the second length byte decides (R199). -/
def headerByte (held : List Byte) (now : Nat) (b : Byte) : Receiver :=
  match held with
  | [] => .header [b] now
  | a :: _ =>
    let n := a.toNat * 256 + b.toNat
    if n < 2 ∨ 256 < n then .hunt else .body n [] now

/-- A byte in BODY: with `n` bytes and the two CRC bytes held, the frame is a valid request or is discarded (R199). -/
def bodyByte (n : Nat) (held : List Byte) (now : Nat) (b : Byte) : Receiver × Option (List Byte) :=
  let l := held ++ [b]
  if l.length < n + 2 then (.body n l now, none)
  else
    let content := l.take n
    (.hunt, if l.drop n = crcBytes (putU16 n ++ content) then some content else none)

/-- The receiver after a gap: more than 5 ms in HEADER or BODY ends the partial frame (R199). -/
def afterGap (r : Receiver) (now : Nat) : Receiver :=
  match r with
  | .hunt => .hunt
  | .header _ t | .body _ _ t => if t + 5 < now then .hunt else r

/-- One byte at the receiver (R199): the new state, and the content of a valid frame. -/
def receiveByte (r : Receiver) (now : Nat) (b : Byte) : Receiver × Option (List Byte) :=
  match afterGap r now with
  | .hunt => (if b = startByte then .header [] now else .hunt, none)
  | .header l _ => (headerByte l now b, none)
  | .body n l _ => bodyByte n l now b

/-- Bytes with their times through the receiver: its state, and the valid frames, oldest first. -/
def receive (r : Receiver) : List (Nat × Byte) → Receiver × List (List Byte)
  | [] => (r, [])
  | (t, b) :: l =>
    let x := receiveByte r t b
    let y := receive x.1 l
    (y.1, match x.2 with | some f => f :: y.2 | none => y.2)

/-! ### Field loop frames (Section 11.5) -/

/-- The kind byte of a poll or report (Section 11.5). An in-service station of kind NONE has no byte of its own
(notes/assumptions/3.md). -/
def loopKindByte (k : StationKind) : Byte := BitVec.ofNat 8 (StationKind.code k)

/-- Section taken in a poll: an optional number. -/
def putSection (t : Option Nat) : List Byte := putOpt 1 putU8 t

/-- The fields of an output image (R23). -/
def putImage : Image → List Byte
  | .dock drive seal_ lamp => putU8 (Drive.code drive) ++ putU8 (SealOut.code seal_) ++ putU8 (Lamp.code lamp)
  | .portal c => putU8 (onCode c)
  | .evap fan valve heater => putU8 (onCode fan) ++ putU8 (onCode valve) ++ putU8 (onCode heater)
  | .probe | .none => []

/-- The body of a poll (R20): the image, and the section taken for a DOCK or PORTAL station. -/
def pollBody (i : Image) (t : Option Nat) : List Byte :=
  match i with
  | .dock .. | .portal .. => putImage i ++ putSection t
  | .evap .. | .probe | .none => putImage i

/-- The frame of a poll. -/
def pollFrame (a : StationId) (k : StationKind) (i : Image) (t : Option Nat) : List Byte :=
  let body := pollBody i t
  let l := putU8 body.length ++ body
  0x5B :: putElem a ++ loopKindByte k :: l ++ crcBytes l

/-- A report frame that passed the four checks of R202. -/
structure ReportFrame where
  addr : StationId
  kind : StationKind
  body : List Byte
deriving DecidableEq, Repr

def loopKindOf (b : Byte) : Option StationKind :=
  if b = 1 then some .dock else if b = 2 then some .portal else if b = 3 then some .evap else if b = 4 then some .probe else none

/-- Is a body of the length its kind requires, with a pass count of 0 to 4 (check 3 of R202)? -/
def reportLength (k : StationKind) (body : List Byte) : Bool :=
  match k with
  | .dock => let p := (body.getD 8 0).toNat; p ≤ 4 && body.length == 9 + 5 * p
  | .portal => let p := (body.getD 3 0).toNat; p ≤ 4 && body.length == 4 + 5 * p
  | .evap => body.length == 5
  | .probe => body.length == 12
  | .none => false

/-- The checks of R202 on the bytes that follow a poll. DESIGN CHOICE (notes/assumptions/9.md): bytes that follow the CRC inside the window
are bytes of the report too, so that its length byte is wrong and it counts as a miss; the spec does not say. -/
def readReport (l : List Byte) : Option ReportFrame :=
  match l with
  | s :: a :: k :: m :: r => do
    if s ≠ 0x5D then none
    let (addr, _) ← getStation [a]
    let kind ← loopKindOf k
    let body := r.take m.toNat
    if reportLength kind body && r.drop m.toNat == crcBytes (m :: body) && body.length == m.toNat then
      some ⟨addr, kind, body⟩
    else none
  | _ => none

/-- The frame of a report, as a station sends it. -/
def reportFrame (a : StationId) (k : StationKind) (body : List Byte) : List Byte :=
  let l := putU8 body.length ++ body
  0x5D :: putElem a ++ loopKindByte k :: l ++ crcBytes l

/-! ### Notice records (R198, Section 11.4) -/

/-- Notice kinds in the order of the notice table. -/
def NoticeBody.code : NoticeBody → Nat
  | .start .. => 1 | .portSilent .. => 2 | .portRestored .. => 3 | .zoneMode .. => 4 | .bulkRevoked .. => 5 | .sealSlow .. => 6
  | .precoolUnverified .. => 7 | .doorRequestEnd .. => 8 | .doorAutoClose .. => 9 | .manifestFault .. => 10 | .moveDone .. => 11
  | .moveExpired .. => 12 | .moveCancelled .. => 13 | .unknownPallet .. => 14 | .locationJump .. => 15 | .passUnplanned .. => 16
  | .passOffPath .. => 17 | .departure .. => 18 | .trailerLeft .. => 19 | .palletWarn .. => 20 | .palletHold .. => 21
  | .defrostEnd .. => 22 | .alarmRaised .. => 23 | .alarmAcked .. => 24 | .alarmCleared .. => 25

def putMoveEnd (m : MoveEnd) : List Byte := putU32 m.id ++ putLoc m.origin ++ putDest m.dest ++ putU32 m.granted ++ putLoc m.loc

def putLeftEntry (e : LeftEntry) : List Byte := putU32 e.id ++ putU32 e.exposure ++ putMark e.quarantined

def putLeftPart (p : LeftPart) : List Byte :=
  putElem p.door ++ putOpt 4 putU32 p.trailer ++ putMark p.returnMark ++ putU32 p.time ++ putU8 p.part ++ putU8 p.parts
    ++ putU8 p.entries.length ++ (p.entries.map putLeftEntry).flatten

def putOutcome (o : Option MemberOutcome) : List Byte := putOpt 1 (fun x => putU8 (MemberOutcome.code x)) o

def putMemberEnd (m : MemberEnd) : List Byte := putElem m.evap ++ putOutcome m.outcome ++ putU16 m.heatUsed ++ putU16 m.frost

/-- The state after: 0 for a raise not stored. -/
def putStateAfter (s : Option AlarmState) : List Byte :=
  match s with
  | some x => putU8 (AlarmState.code x)
  | none => putU8 0

/-- The state after in ALARM_CLEARED: 4 for REMOVED. -/
def putClearedState (s : Option AlarmState) : List Byte :=
  match s with
  | some x => putU8 (AlarmState.code x)
  | none => putU8 4

/-- The body of a notice: the fields its placing rule lists, in that order (R201). DESIGN CHOICE (notes/assumptions/4.md): the cause of
MOVE_CANCELLED stands last, after the five common fields, since R115 gives it in a table and not in their list; the detail of MANIFEST_FAULT
takes 4 bytes for every cause. -/
def NoticeBody.bytes : NoticeBody → List Byte
  | .start c st t => putU8 (Cause.code c) ++ putU8 (StoreStatus.code st) ++ putU32 t
  | .portSilent p t => putPort p ++ putU32 t
  | .portRestored p t => putPort p ++ putU32 t
  | .zoneMode z a b dl c => putZone z ++ putU8 (Mode.code a) ++ putU8 (Mode.code b) ++ putTime? dl ++ putU8 (ModeCause.code c)
  | .bulkRevoked z c dl => putZone z ++ putU8 (RevokeCause.code c) ++ putTime? dl
  | .sealSlow d c n => putElem d ++ putU8 c ++ putU8 n
  | .precoolUnverified d t => putElem d ++ putOpt 4 putU32 t
  | .doorRequestEnd d o t r => putDoor d ++ putU8 (Origin.code o) ++ putU32 t ++ putU8 (RequestEnd.code r)
  | .doorAutoClose d c n => putDoor d ++ putU8 (CloseCause.code c) ++ (match n with | some k => putU8 k | none => [])
  | .manifestFault d t c x n => putElem d ++ putOpt 4 putU32 t ++ putU8 (LoadCause.code c) ++ putU32 x ++ putU8 n
  | .moveDone m => putMoveEnd m
  | .moveExpired m => putMoveEnd m
  | .moveCancelled m c => putMoveEnd m ++ putU8 (CancelCause.code c)
  | .unknownPallet i dir d => putU32 i ++ putU8 (Direction.code dir) ++ putDoor d
  | .locationJump i d dir a b => putU32 i ++ putDoor d ++ putU8 (Direction.code dir) ++ putLoc a ++ putLoc b
  | .passUnplanned i d dir l => putU32 i ++ putDoor d ++ putU8 (Direction.code dir) ++ putLoc l
  | .passOffPath i d dir l e => putU32 i ++ putDoor d ++ putU8 (Direction.code dir) ++ putLoc l ++ putDest e
  | .departure p => putLeftPart p
  | .trailerLeft p => putLeftPart p
  | .palletWarn i l c x w => putU32 i ++ putLoc l ++ putU8 c.val ++ putU32 x ++ putU16 w
  | .palletHold i l st c x h => putU32 i ++ putLoc l ++ putU8 (PalletStatus.code st) ++ putU8 c.val ++ putU32 x ++ putU16 h
  | .defrostEnd z k c a b n ms =>
    putZone z ++ putU8 (BatchKind.code k) ++ putU8 (BatchEnd.code c) ++ putU32 a ++ putU32 b ++ putU8 n
      ++ (ms.map putMemberEnd).flatten
  | .alarmRaised n k x st a b r lost =>
    putU16 n ++ putU8 (AlarmKind.code k) ++ putSubject x ++ putU8 (severityCode k) ++ putU8 (latchingCode k) ++ putStateAfter st
      ++ putU32 a ++ putU32 b ++ putU8 r ++ putMark lost
  | .alarmAcked n k x p => putU16 n ++ putU8 (AlarmKind.code k) ++ putSubject x ++ putPort p
  | .alarmCleared n k x st c =>
    putU16 n ++ putU8 (AlarmKind.code k) ++ putSubject x ++ putClearedState st ++ putU8 (ClearCause.code c)

/-- A notice record: kind, number, time, body length, body. -/
def putNotice (n : Notice) : List Byte :=
  let b := n.body.bytes
  putU8 n.body.code ++ putU16 n.number ++ putU32 n.time ++ putU16 b.length ++ b

end Sys2Proof.Machine
end

