-- ==== Sys2Proof/Machine/Initial.lean ====
section
/-! DEFINITION. Device time arithmetic (R16), the numbers of the spec that are no settings, the blank configuration (R4, R12) and the
values every record takes at a cold start (R14, R18, R37, R59, R91, R108, R147, R174, R196). -/

namespace Sys2Proof.Machine

open Sys2Proof

/-! ### Numbers -/

/-- Device time stops here (R16). -/
def maxTime : Nat := 4294967295

/-- A deadline: the time plus an interval, stopped at `maxTime` (R16). -/
def addTime (now n : Nat) : Nat := min (now + n) maxTime

/-- A deadline is reached when it is present and device time equals or passes it (R16). -/
def reached (dl : Option Nat) (now : Nat) : Bool :=
  match dl with
  | some t => t ≤ now
  | none => false

/-- A counter that is held at its bound. -/
def satInc (bound n : Nat) : Nat := min (n + 1) bound

/-- The counter after `n` for one that runs from 1 to `top`: `top` is followed by 1 (R11, R176, R190). -/
def wrapFromOne (top n : Nat) : Nat := if n = top then 1 else n + 1

/-- A 16-bit counter that wraps from 65535 to 0 (R60, change count of Section 9.1). -/
def wrap16 (n : Nat) : Nat := (n + 1) % 65536

/-- `x` held between `lo` and `hi`. -/
def clampInt (lo hi x : Int) : Int := max lo (min hi x)

def clampNat (lo hi x : Nat) : Nat := max lo (min hi x)

/-- Dip filter, 10 ms (R13). -/
def dipFilterMs : Nat := 10
/-- Ride-through limit, 500 ms after the dip start (R13). -/
def rideThroughMs : Nat := 500
/-- Supply qualification in RIDE_THROUGH, 10 ms (R13). -/
def qualifyMs : Nat := 10
/-- Supply qualification in DOWN, 100 ms (R13). -/
def coldQualifyMs : Nat := 100
/-- Least time between the starts of two rounds (R19). -/
def roundMs : Nat := 200
/-- Longest gap inside a frame (R199). -/
def gapMs : Nat := 5
/-- Door travel limit in seconds (Section 4.2). -/
def travelTime : Nat := 30
/-- Depth of a notice queue (R190). -/
def queueDepth : Nat := 64
/-- Room of the alarm table (R180). -/
def alarmRoom : Nat := 96
/-- Room of the pallet table (R98). -/
def palletRoom : Nat := 512
/-- Load limit of an outbound trailer (R113). -/
def loadLimit : Nat := 36
/-- Entries of one DEPARTURE or TRAILER_LEFT part (R128). -/
def partSize : Nat := 36
/-- Saturation of exposure (R136). -/
def maxExposure : Nat := 2147483647
/-- Saturation of a frost index (R150). -/
def maxFrost : Nat := 65535

/-! ### Tables -/

/-- Entry `i` replaced by `f` of it. -/
def upd {α : Type} {n : Nat} (v : Vector α n) (i : Fin n) (f : α → α) : Vector α n := v.set i.val (f (v.get i)) i.isLt

/-- A table filled by a function of the identifier. -/
def table {α : Type} (n : Nat) (f : Fin n → α) : Vector α n := Vector.ofFn f

/-! ### The blank configuration (R4) -/

def blankStation : StationCfg := ⟨.none, false, false⟩

def blankZone (z : ZoneId) : ZoneCfg := ⟨false, if z = 0 then 20 else -200, 30, 80, 60, 300, 600⟩

def blankProbe : ProbeCfg := ⟨false, false, none, none, 0⟩

def blankDock : DockCfg := ⟨false, false, none, 20, 40⟩

def blankHandling : HandlingCfg := ⟨600, -100, -180⟩

def blankPortal : PortalCfg := ⟨false, false, none, none, 20, 8⟩

def blankEvap : EvapCfg := ⟨false, false, none, none, 20000, 12⟩

def blankDefrost : DefrostCfg := ⟨120, 120, 180, 100, -50, 300, 1800, 14400, 2, 600, 1⟩

def blankStaging : StagingCfg := ⟨120, 16, 96, 900, 60, 1800, 30, .store 1, 0, 6⟩

def blankClass : ClassCfg := ⟨40, -150, 0, 0⟩

def blankRule : RuleCfg := ⟨false, none, none, .store 1, 0⟩

def blankSettings : Settings :=
  { stations := table 62 fun _ => blankStation
    zones := table 7 blankZone
    probes := table 24 fun _ => blankProbe
    docks := table 24 fun _ => blankDock
    handling := table 24 fun _ => blankHandling
    portals := table 12 fun _ => blankPortal
    evaps := table 16 fun _ => blankEvap
    defrost := blankDefrost
    staging := blankStaging
    classes := table 8 fun _ => blankClass
    rules := table 32 fun _ => blankRule
    portPlant := 15
    portWarehouse := 15 }

/-! ### Values at a cold start, from the configuration loaded -/

/-- R18. -/
def coldStation : Station := ⟨.offline, 0, 0, none, none⟩

def coldLoop : Loop := ⟨table 62 fun _ => coldStation, none, [], none⟩

/-- R37. -/
def coldZone (cfg : Settings) (z : ZoneId) : Zone :=
  let c := cfg.zones.get z
  if c.inService then
    { temp := 500, stale := true, holdOff := some (addTime 0 c.staleTime), mode := .open, bulkDl := none, recoveryDl := none,
      warmDl := none, exposureDl := some (addTime 0 cfg.staging.exposureInterval), pointer := 0 }
  else
    { temp := 500, stale := true, holdOff := none, mode := .outOfService, bulkDl := none, recoveryDl := none,
      warmDl := none, exposureDl := none, pointer := 0 }

/-- R37: cleared probe fields. -/
def coldProbe : Probe := ⟨none, none, false⟩

/-- R59: FAULT with first report pending, whatever the stored lockout, which acts at the first report (notes/assumptions/12.md). -/
def coldDock (cfg : Settings) (d : DoorId) : Dock :=
  let c := cfg.docks.get d
  { state := .fault, firstPending := true
    claim := .none, trailer := none, returnMark := false, revision := 0, capture := none, captureStart := none
    sealDl := none, travelDl := none, openDl := none, extensions := 0, pending := none, refusal := false, consistent := 0
    last := none, settleFrom := none, carry := 0
    exposureDl := if c.inService then some (addTime 0 cfg.staging.exposureInterval) else none
    sealOut := .deflate, heard := false }

/-- R59, the same for every portal. -/
def coldPortal : Portal :=
  { state := .fault, firstPending := true
    claim := .none, revision := 0, openCommand := false, grantDl := none, travelDl := none, pending := none, consistent := 0
    last := none, settleFrom := none, carry := 0, heard := false }

/-- R91. -/
def emptySlot : Slot := ⟨.empty, none, none, [], none, none, 0⟩

/-- The backstop interval in seconds. -/
def backstopSeconds (c : EvapCfg) : Nat := c.backstopHours * 3600

/-- R147: cold start at 0 and an evaporator put into service at `now` (R9). -/
def freshEvap (c : EvapCfg) (now : Nat) : Evap :=
  { sub := .idle, faultCause := none, frost := c.trigger / 2, demandTime := none, overdueDl := none, lastEnd := now
    backstopDl := some (addTime now (backstopSeconds c)), heatStart := none, heatDl := none, heatUsed := 0, noCurrent := 0
    stuck := 0, last := none }

/-- R174. -/
def coldAlarms : AlarmTable := ⟨[], 1, false, 0, false⟩

/-- The START notice, number 1 (R17, R196). -/
def startNotice (c : StartCause) : Notice := ⟨1, c.startTime, .start c.cause c.status c.startTime⟩

/-- R196. -/
def coldPort (interval : Nat) (c : StartCause) : PortRec :=
  { silent := false, supervisionDl := some (addTime 0 interval), inService := none, queue := [startNotice c], overflow := false
    nextNumber := 2, lastRequest := none, receiver := .hunt }

/-- Heat slots after a cold start (R147). -/
def coldHeatSlots : Nat := 2

/-! ### The store at a cold start (R12) -/

/-- The sequence number after `n` (R11). -/
def succSeq (n : Nat) : Nat := wrapFromOne maxTime n

def otherBank : BankId → BankId
  | .one => .two
  | .two => .one

def bankOf (st : Store) : BankId → Bank
  | .one => st.bank1
  | .two => st.bank2

def setBank (st : Store) (b : BankId) (x : Bank) : Store :=
  match b with
  | .one => { st with bank1 := x }
  | .two => { st with bank2 := x }

/-- What a cold start finds in the banks. -/
structure Loaded where
  cfg : Settings
  status : StoreStatus
  last : BankId
  seq : Nat
  repair : Bool
deriving DecidableEq, Repr

/-- The table of R12, its rule for the newer bank and its last write. -/
def loadBanks (b1 b2 : Bank) : Loaded :=
  if b1.valid && b2.valid then
    if b2.seq = succSeq b1.seq then ⟨b2.data, .good, .two, b2.seq, false⟩
    else if b1.seq = succSeq b2.seq then ⟨b1.data, .good, .one, b1.seq, false⟩
    else ⟨b1.data, .oneBank, .one, b1.seq, true⟩
  else if b1.valid then ⟨b1.data, .oneBank, .one, b1.seq, true⟩
  else if b2.valid then ⟨b2.data, .oneBank, .two, b2.seq, true⟩
  else ⟨blankSettings, .storeFault, .two, maxTime, true⟩

/-- A bank write begins: it copies the working copy into the bank not written last, with the next sequence number (R11). The bank's
check value does not match until the write has ended. -/
def beginBankWrite (cfg : Settings) (op : WriteOp) (st : Store) : Store :=
  let b := otherBank st.lastBank
  { setBank st b { bankOf st b with valid := false } with
    current := some { op := op, bank := b, seq := succSeq st.lastSeq, copy := cfg, second := false, stopped := false } }

/-- A write operation with no requesting port (R12). -/
def repairOp : WriteOp := ⟨none, .ok, []⟩

/-- The whole part at a cold start with the given cause, from the banks (R14). `sup` is the supply monitor after the start. -/
def coldPart (sup : Supply) (b1 b2 : Bank) (cause : Cause) : Part :=
  let ld := loadBanks b1 b2
  let cfg := ld.cfg
  let st : Store := { bank1 := b1, bank2 := b2, lastBank := ld.last, lastSeq := ld.seq, current := none, waiting := [] }
  let sc : StartCause := ⟨cause, ld.status, 0, 0, 0⟩
  { supply := { sup with service := .running, resetWait := false, suspendedAt := 0 }
    cause := sc
    time := 0
    cfg := cfg
    store := if ld.repair then beginBankWrite cfg repairOp st else st
    loop := coldLoop
    zones := table 7 (coldZone cfg)
    probes := table 24 fun _ => coldProbe
    docks := table 24 (coldDock cfg)
    portals := table 12 fun _ => coldPortal
    slots := table 24 fun _ => emptySlot
    pallets := []
    credits := 0
    evaps := table 16 fun e => freshEvap (cfg.evaps.get e) 0
    batches := table 7 fun _ => none
    heatCommanded := coldHeatSlots
    heatInForce := coldHeatSlots
    alarms := coldAlarms
    portPlant := coldPort cfg.portPlant sc
    portWarehouse := coldPort cfg.portWarehouse sc
    out := []
    draws := 0 }

/-- The part with its records lost (R13 DOWN, R14 reset asserted): the banks stay, everything else holds the values of a part that has no
configuration (notes/assumptions/8.md), and the relay is de-energised (R182). -/
def lostPart (sup : Supply) (b1 b2 : Bank) : Part :=
  let sc : StartCause := ⟨.coldPower, .good, 0, 0, 0⟩
  { coldPart sup b1 b2 .coldPower with
    supply := { sup with service := .stopped, suspendedAt := 0 }
    cause := sc
    cfg := blankSettings
    store := { bank1 := b1, bank2 := b2, lastBank := .two, lastSeq := maxTime, current := none, waiting := [] }
    zones := table 7 (coldZone blankSettings)
    docks := table 24 (coldDock blankSettings)
    evaps := table 16 fun e => freshEvap (blankSettings.evaps.get e) 0
    portPlant := { coldPort 0 sc with supervisionDl := none, queue := [], nextNumber := 1 }
    portWarehouse := { coldPort 0 sc with supervisionDl := none, queue := [], nextNumber := 1 } }

/-- A part as shipped: the blank configuration in bank 1 with sequence 1 and in bank 2 with sequence 2, both valid (Section 1.4). -/
def shippedBank (seq : Nat) : Bank := ⟨true, seq, blankSettings⟩

/-- The supply monitor of a part under power, at millisecond 100 after its supply rose at 0. -/
def poweredSupply : Supply :=
  { state := .normal, dipStart := none, risen := some 0, resetAsserted := false, resetWait := false, released := 0
    service := .running, suspendedAt := 0 }

/-- The supply monitor of an unpowered part: DOWN (R13). -/
def unpoweredSupply : Supply :=
  { poweredSupply with state := .down, risen := none, service := .stopped }

end Sys2Proof.Machine
end

