-- ==== Sys2Proof/Machine/State.lean ====
section
/-! DEFINITION. The state of the model: every record of the part (Machine/Records.lean) and the queue of commands that wait, first in,
first out. -/

namespace Sys2Proof.Machine

open Sys2Proof

/-- The state: the commands waiting (the front is taken first) and the records of the part. -/
structure State where
  pending : List Instr
  part : Part
deriving DecidableEq, Repr

/-- Faults of a step: none. The spec gives the CDC-24 no event that stops it; every trouble is a status, an alarm or a mode of its
records. -/
inductive Fault where
deriving DecidableEq, Repr

/-- Refusals of a step. -/
inductive Refusal where
  /-- Raised by `exec` for a command that has no meaning yet, with its mnemonic. Safe: nothing is claimed of it. No arm raises it. -/
  | notModelled (mnemonic : String)
deriving DecidableEq, Repr

/-- A part as shipped, right after the cold start at its first power-on (cause COLD_POWER): the blank configuration is loaded,
device time is 0 and a START notice heads each queue (R12, R14, R196; notes/assumptions/7.md). No command waits. -/
def State.reset : State :=
  { pending := [], part := coldPart poweredSupply (shippedBank 1) (shippedBank 2) .coldPower }

/-- A part as shipped, with no power (R13). -/
def State.unpowered : State :=
  { pending := [], part := lostPart unpoweredSupply (shippedBank 1) (shippedBank 2) }

end Sys2Proof.Machine
end

