-- ==== Sys2Proof/Machine/Operands.lean ====
section
/-! DEFINITION. The operands of the commands as they stand on the line: configuration records (R201), request bodies (Section 11.3)
and report bodies (Section 11.5), each with its reader. A reader that answers `none` has met a body of the wrong length
or a byte with no defined value (R200, R202). -/

namespace Sys2Proof.Machine

open Sys2Proof

/-! ### Configuration records (R4, R201) -/

def getStationKind : Reader StationKind := fun l => do
  let (k, r) ← getU8 l
  if k = 1 then some (.dock, r) else if k = 2 then some (.portal, r) else if k = 3 then some (.evap, r)
  else if k = 4 then some (.probe, r) else if k = noneKindCode then some (.none, r) else none

def putStationCfg (c : StationCfg) : List Byte := putU8 (StationKind.code c.kind) ++ putMark c.inService ++ putMark c.lockout

def getStationCfg : Reader StationCfg := fun l => do
  let (kind, l) ← getStationKind l
  let (inService, l) ← getMark l
  let (lockout, l) ← getMark l
  some (⟨kind, inService, lockout⟩, l)

def putZoneCfg (c : ZoneCfg) : List Byte :=
  putMark c.inService ++ putI16 c.setpoint ++ putI16 c.highOffset ++ putI16 c.allowance ++ putU16 c.staleTime
    ++ putU16 c.alarmDelay ++ putU16 c.recoveryTime

def getZoneCfg : Reader ZoneCfg := fun l => do
  let (inService, l) ← getMark l
  let (setpoint, l) ← getI16 l
  let (highOffset, l) ← getI16 l
  let (allowance, l) ← getI16 l
  let (staleTime, l) ← getU16 l
  let (alarmDelay, l) ← getU16 l
  let (recoveryTime, l) ← getU16 l
  some (⟨inService, setpoint, highOffset, allowance, staleTime, alarmDelay, recoveryTime⟩, l)

def putProbeCfg (c : ProbeCfg) : List Byte :=
  putMark c.inService ++ putMark c.lockout ++ putOpt 1 putZone c.zone ++ putOpt 1 putElem c.station ++ putElem c.channel

/-- A channel number as it is encoded: one unsigned byte. Outside 1 to 4 it names no channel, which is check 2 of R5. -/
def getChannel : Reader (Option (Fin 4)) := fun l => do
  let (k, r) ← getU8 l
  some (if h : 1 ≤ k ∧ k - 1 < 4 then some ⟨k - 1, h.2⟩ else none, r)

/-- The fields of a PROBE record, and whether its channel is one of 1 to 4. Where it is not, the first stands in the record, which is then
refused. -/
def getProbeCfg : Reader (ProbeCfg × Bool) := fun l => do
  let (inService, l) ← getMark l
  let (lockout, l) ← getMark l
  let (zone, l) ← getOpt 1 getZone l
  let (station, l) ← getOpt 1 getStation l
  let (channel, l) ← getChannel l
  some ((⟨inService, lockout, zone, station, channel.getD 0⟩, channel.isSome), l)

def putDockCfg (c : DockCfg) : List Byte :=
  putMark c.inService ++ putMark c.lockout ++ putOpt 1 putElem c.station ++ putU8 c.sealLimit ++ putU8 c.weight

def getDockCfg : Reader DockCfg := fun l => do
  let (inService, l) ← getMark l
  let (lockout, l) ← getMark l
  let (station, l) ← getOpt 1 getStation l
  let (sealLimit, l) ← getU8 l
  let (weight, l) ← getU8 l
  some (⟨inService, lockout, station, sealLimit, weight⟩, l)

def putHandlingCfg (c : HandlingCfg) : List Byte := putU16 c.openLimit ++ putI16 c.precool ++ putI16 c.assumedTemp

def getHandlingCfg : Reader HandlingCfg := fun l => do
  let (openLimit, l) ← getU16 l
  let (precool, l) ← getI16 l
  let (assumedTemp, l) ← getI16 l
  some (⟨openLimit, precool, assumedTemp⟩, l)

def putPortalCfg (c : PortalCfg) : List Byte :=
  putMark c.inService ++ putMark c.lockout ++ putOpt 1 putZone c.zone ++ putOpt 1 putElem c.station ++ putU8 c.grantTime
    ++ putU8 c.weight

def getPortalCfg : Reader PortalCfg := fun l => do
  let (inService, l) ← getMark l
  let (lockout, l) ← getMark l
  let (zone, l) ← getOpt 1 getZone l
  let (station, l) ← getOpt 1 getStation l
  let (grantTime, l) ← getU8 l
  let (weight, l) ← getU8 l
  some (⟨inService, lockout, zone, station, grantTime, weight⟩, l)

def putEvapCfg (c : EvapCfg) : List Byte :=
  putMark c.inService ++ putMark c.lockout ++ putOpt 1 putZone c.zone ++ putOpt 1 putElem c.station ++ putU16 c.trigger
    ++ putU8 c.backstopHours

def getEvapCfg : Reader EvapCfg := fun l => do
  let (inService, l) ← getMark l
  let (lockout, l) ← getMark l
  let (zone, l) ← getOpt 1 getZone l
  let (station, l) ← getOpt 1 getStation l
  let (trigger, l) ← getU16 l
  let (backstopHours, l) ← getU8 l
  some (⟨inService, lockout, zone, station, trigger, backstopHours⟩, l)

def putDefrostCfg (c : DefrostCfg) : List Byte :=
  putU16 c.gatherWindow ++ putU16 c.pumpdownTime ++ putU16 c.dripTime ++ putI16 c.terminationTemp ++ putI16 c.fanStartTemp
    ++ putU16 c.refreezeMax ++ putU16 c.maxHeat ++ putU16 c.maxDeferral ++ putU8 c.suspendLimit ++ putU16 c.maxSuspended
    ++ putU8 c.fallbackSlots

def getDefrostCfg : Reader DefrostCfg := fun l => do
  let (gatherWindow, l) ← getU16 l
  let (pumpdownTime, l) ← getU16 l
  let (dripTime, l) ← getU16 l
  let (terminationTemp, l) ← getI16 l
  let (fanStartTemp, l) ← getI16 l
  let (refreezeMax, l) ← getU16 l
  let (maxHeat, l) ← getU16 l
  let (maxDeferral, l) ← getU16 l
  let (suspendLimit, l) ← getU8 l
  let (maxSuspended, l) ← getU16 l
  let (fallbackSlots, l) ← getU8 l
  some (⟨gatherWindow, pumpdownTime, dripTime, terminationTemp, fanStartTemp, refreezeMax, maxHeat, maxDeferral, suspendLimit,
    maxSuspended, fallbackSlots⟩, l)

def putStagingCfg (c : StagingCfg) : List Byte :=
  putU16 c.capacity ++ putU16 c.reduction ++ putU16 c.inboundLimit ++ putU16 c.moveLimit ++ putU16 c.entryDeadline
    ++ putU16 c.bulkTime ++ putU16 c.exposureInterval ++ putAction c.defaultAction ++ putU16 c.defaultDwell
    ++ putZone c.quarantineZone

/-- The fields of a STAGING record, and whether its default action is one; where it is not, CROSS stands in the record, which is refused. -/
def getStagingCfg : Reader (StagingCfg × Bool) := fun l => do
  let (capacity, l) ← getU16 l
  let (reduction, l) ← getU16 l
  let (inboundLimit, l) ← getU16 l
  let (moveLimit, l) ← getU16 l
  let (entryDeadline, l) ← getU16 l
  let (bulkTime, l) ← getU16 l
  let (exposureInterval, l) ← getU16 l
  let (defaultAction, l) ← getAction l
  let (defaultDwell, l) ← getU16 l
  let (quarantineZone, l) ← getZone l
  some ((⟨capacity, reduction, inboundLimit, moveLimit, entryDeadline, bulkTime, exposureInterval, defaultAction.getD .cross,
    defaultDwell, quarantineZone⟩, defaultAction.isSome), l)

def putClassCfg (c : ClassCfg) : List Byte := putU16 c.rate ++ putI16 c.critical ++ putU16 c.warnLimit ++ putU16 c.holdLimit

def getClassCfg : Reader ClassCfg := fun l => do
  let (rate, l) ← getU16 l
  let (critical, l) ← getI16 l
  let (warnLimit, l) ← getU16 l
  let (holdLimit, l) ← getU16 l
  some (⟨rate, critical, warnLimit, holdLimit⟩, l)

/-- A consignee code, 0xFFFF for ANY (R198). -/
def putConsignee : Option Nat → List Byte
  | none => putU16 65535
  | some k => putU16 k

def getConsignee : Reader (Option Nat) := fun l => do
  let (k, r) ← getU16 l
  some (if k = 65535 then none else some k, r)

/-- A class, 0xFF for ANY (R198). -/
def putClass : Option ClassId → List Byte
  | none => putU8 255
  | some c => putU8 c.val

def getClass : Reader (Option ClassId) := fun l => do
  let (k, r) ← getU8 l
  if k = 255 then some (none, r) else if h : k < 8 then some (some ⟨k, h⟩, r) else none

def putRuleCfg (c : RuleCfg) : List Byte :=
  putMark c.valid ++ putConsignee c.consignee ++ putClass c.cls ++ putAction c.action ++ putU16 c.dwell

/-- The fields of a ROUTING RULE record, and whether its action is one, as for STAGING. -/
def getRuleCfg : Reader (RuleCfg × Bool) := fun l => do
  let (valid, l) ← getMark l
  let (consignee, l) ← getConsignee l
  let (cls, l) ← getClass l
  let (action, l) ← getAction l
  let (dwell, l) ← getU16 l
  some ((⟨valid, consignee, cls, action.getD .cross, dwell⟩, action.isSome), l)

/-- A whole configuration record: kind (its row in the table of R3), key, fields (R201). -/
def putRecord : Record → List Byte
  | .station a c => putU8 1 ++ putElem a ++ putStationCfg c
  | .zone z c => putU8 2 ++ putZone z ++ putZoneCfg c
  | .probe t c => putU8 3 ++ putElem t ++ putProbeCfg c
  | .dock d c => putU8 4 ++ putElem d ++ putDockCfg c
  | .handling d c => putU8 5 ++ putElem d ++ putHandlingCfg c
  | .portal q c => putU8 6 ++ putDoor (.portal q) ++ putPortalCfg c
  | .evap e c => putU8 7 ++ putElem e ++ putEvapCfg c
  | .defrost c => putU8 8 ++ putU8 0 ++ putDefrostCfg c
  | .staging c => putU8 9 ++ putU8 0 ++ putStagingCfg c
  | .cls k c => putU8 10 ++ putU8 k.val ++ putClassCfg c
  | .rule k c => putU8 11 ++ putU8 k.val ++ putRuleCfg c
  | .port p n => putU8 12 ++ putPort p ++ putU8 n

/-- A configuration record as WRITE SETTINGS carries it, read by the encodings of R198 and R201. `named` is false where a byte has a value in
its encoding that names nothing the record can hold: a portal as the key of a DOCK DOOR or DOOR HANDLING record, a dock door as the key of
a PORTAL record, a channel that is none of 1 to 4, an action zone that its action does not admit. What then stands in the record is of no
account: check 2 of R5 refuses it. -/
structure Written where
  record : Record
  named : Bool
deriving DecidableEq, Repr

/-- A record of a kind each of whose bytes names what its encoding says. -/
def written (x : Option (Record × List Byte)) : Option Written := (finish x).map fun r => ⟨r, true⟩

/-- A door byte as the key of a DOCK DOOR or DOOR HANDLING record, and whether it names a dock door. -/
def getDockKey : Reader (DoorId × Bool) := fun l => do
  let (x, l) ← getDoor l
  some (match x with | .dock d => ((d, true), l) | .portal _ => ((0, false), l))

/-- A door byte as the key of a PORTAL record, and whether it names a portal. -/
def getPortalKey : Reader (PortalId × Bool) := fun l => do
  let (x, l) ← getDoor l
  some (match x with | .portal q => ((q, true), l) | .dock _ => ((0, false), l))

/-- R200 for WRITE SETTINGS: the length of the record kind, and bytes that have a value in their encoding. -/
def readRecord (body : List Byte) : Option Written := do
  let (kind, l) ← getU8 body
  match kind with
  | 1 => written (do let (a, l) ← getStation l; let (c, l) ← getStationCfg l; some (.station a c, l))
  | 2 => written (do let (z, l) ← getZone l; let (c, l) ← getZoneCfg l; some (.zone z c, l))
  | 3 => finish (do let (t, l) ← getId 1 24 l; let (c, l) ← getProbeCfg l; some (⟨.probe t c.1, c.2⟩, l))
  | 4 => finish (do let (d, l) ← getDockKey l; let (c, l) ← getDockCfg l; some (⟨.dock d.1 c, d.2⟩, l))
  | 5 => finish (do let (d, l) ← getDockKey l; let (c, l) ← getHandlingCfg l; some (⟨.handling d.1 c, d.2⟩, l))
  | 6 => finish (do let (q, l) ← getPortalKey l; let (c, l) ← getPortalCfg l; some (⟨.portal q.1 c, q.2⟩, l))
  | 7 => written (do let (e, l) ← getId 1 16 l; let (c, l) ← getEvapCfg l; some (.evap e c, l))
  | 8 => written (do let (_, l) ← getId 0 1 l; let (c, l) ← getDefrostCfg l; some (.defrost c, l))
  | 9 => finish (do let (_, l) ← getId 0 1 l; let (c, l) ← getStagingCfg l; some (⟨.staging c.1, c.2⟩, l))
  | 10 => written (do let (k, l) ← getId 0 8 l; let (c, l) ← getClassCfg l; some (.cls k c, l))
  | 11 => finish (do let (k, l) ← getId 0 32 l; let (c, l) ← getRuleCfg l; some (⟨.rule k c.1, c.2⟩, l))
  | 12 => written (do let (p, l) ← getPort l; let (n, l) ← getU8 l; some (.port p n, l))
  | _ => none

/-- Does the action name a freezer room, where it names a zone (R103)? -/
def actionNamesRoom : Action → Bool
  | .store z | .quarantine z => z != 0
  | .cross => true

/-- Are the zones and the consignee of the record ones its fields admit? A portal, an action and the quarantine zone name a freezer room
(R1, R4, R103), and a consignee is at most 4095 or ANY. -/
def namesDefined : Record → Bool
  | .portal _ c => c.zone != some 0
  | .staging c => actionNamesRoom c.defaultAction && c.quarantineZone != 0
  | .rule _ c => actionNamesRoom c.action && (match c.consignee with | some k => decide (k ≤ 4095) | none => true)
  | .station .. | .zone .. | .probe .. | .dock .. | .handling .. | .evap .. | .defrost .. | .cls .. | .port .. => true

/-- Check 2 of R5: every identifier of the record that its encoding does not already hold in range. -/
def Written.identified (w : Written) : Bool := w.named && namesDefined w.record

/-- The record READ SETTINGS names: its kind and, for kinds kept per element, its key (R189). -/
def readRecordKey (body : List Byte) : Option RecordKey := do
  let (kind, l) ← getU8 body
  match kind with
  | 1 => finish ((getStation l).map fun x => (.station x.1, x.2))
  | 2 => finish ((getZone l).map fun x => (.zone x.1, x.2))
  | 3 => finish ((getId 1 24 l).map fun x => (.probe x.1, x.2))
  | 4 => finish ((getId 1 24 l).map fun x => (.dock x.1, x.2))
  | 5 => finish ((getId 1 24 l).map fun x => (.handling x.1, x.2))
  | 6 => finish ((getId 33 12 l).map fun x => (.portal x.1, x.2))
  | 7 => finish ((getId 1 16 l).map fun x => (.evap x.1, x.2))
  | 8 => if l = [] then some .defrost else none
  | 9 => if l = [] then some .staging else none
  | 10 => finish ((getId 0 8 l).map fun x => (.cls x.1, x.2))
  | 11 => finish ((getId 0 32 l).map fun x => (.rule x.1, x.2))
  | 12 => finish ((getPort l).map fun x => (.port x.1, x.2))
  | _ => none

/-! ### Request bodies (Section 11.3, R201) -/

/-- LOCKOUT: record kind of the element, its key, and the mark that sets or clears (notes/assumptions/4.md). -/
def readLockout (body : List Byte) : Option (LockTarget × Bool) := do
  let (kind, l) ← getU8 body
  let (t, l) ← match kind with
    | 1 => (getStation l).map fun x => (LockTarget.station x.1, x.2)
    | 3 => (getId 1 24 l).map fun x => (LockTarget.probe x.1, x.2)
    | 4 => (getId 1 24 l).map fun x => (LockTarget.dock x.1, x.2)
    | 6 => (getId 33 12 l).map fun x => (LockTarget.portal x.1, x.2)
    | 7 => (getId 1 16 l).map fun x => (LockTarget.evap x.1, x.2)
    | _ => none
  finish ((getMark l).map fun x => ((t, x.1), x.2))

/-- A body that must be empty. -/
def readEmpty (body : List Byte) : Option Unit := if body = [] then some () else none

def readStation (body : List Byte) : Option StationId := finish (getStation body)
def readZone (body : List Byte) : Option ZoneId := finish (getZone body)
def readDoor (body : List Byte) : Option DoorRef := finish (getDoor body)
def readEvap (body : List Byte) : Option EvapId := finish (getId 1 16 body)

/-- Operands of CLAIM DOOR (R71). -/
structure ClaimReq where
  door : DoorRef
  direction : Claim
  trailer : Nat
  revision : Nat
deriving DecidableEq, Repr

def readClaim (body : List Byte) : Option ClaimReq := finish do
  let (door, l) ← getDoor body
  let (k, l) ← getU8 l
  let dir ← if k = 1 then some Claim.inbound else if k = 2 then some Claim.outbound else none
  let (trailer, l) ← getU32 l
  let (revision, l) ← getU16 l
  some (⟨door, dir, trailer, revision⟩, l)

/-- UNCLAIM DOOR, HOLD DOOR, UNHOLD DOOR: door and expected revision. -/
def readDoorRev (body : List Byte) : Option (DoorRef × Nat) := finish do
  let (door, l) ← getDoor body
  let (rev, l) ← getU16 l
  some ((door, rev), l)

/-- RELEASE DOOR: door and RETURN mark. -/
def readRelease (body : List Byte) : Option (DoorRef × Bool) := finish do
  let (door, l) ← getDoor body
  let (ret, l) ← getMark l
  some ((door, ret), l)

/-- MANIFEST BEGIN: door, count, expected revision. -/
def readBegin (body : List Byte) : Option (DoorRef × Nat × Nat) := finish do
  let (door, l) ← getDoor body
  let (count, l) ← getU8 l
  let (rev, l) ← getU16 l
  some ((door, count, rev), l)

/-- Operands of MANIFEST ENTRY. A class byte is C0 to C7 or ANY (R198); R94 checks the ranges. -/
structure EntryReq where
  door : DoorRef
  seq : Nat
  id : Nat
  consignee : Nat
  cls : Nat
  temp : Int
deriving DecidableEq, Repr

def readEntry (body : List Byte) : Option EntryReq := finish do
  let (door, l) ← getDoor body
  let (seq, l) ← getU8 l
  let (id, l) ← getU32 l
  let (consignee, l) ← getU16 l
  let (cls, l) ← getU8 l
  let (temp, l) ← getI16 l
  if 8 ≤ cls ∧ cls ≠ 255 then none else some (⟨door, seq, id, consignee, cls, temp⟩, l)

/-- MOVE: pallet identifier and destination. -/
def readMove (body : List Byte) : Option (Nat × Dest) := finish do
  let (id, l) ← getU32 body
  let (dest, l) ← getDest l
  some ((id, dest), l)

/-- CANCEL MOVE, REMOVE PALLET, READ PALLET: a pallet identifier. -/
def readPalletId (body : List Byte) : Option Nat := finish (getU32 body)

/-- FIND PALLETS: location and start identifier. -/
def readFind (body : List Byte) : Option (Loc × Nat) := finish do
  let (dest, l) ← getDest body
  let (id, l) ← getU32 l
  some (((match dest with | .door d => Loc.trailer d | .hall => .hall | .zone z => .zone z), id), l)

/-- `k` evaporators, one byte each. -/
def getEvaps : Nat → Reader (List EvapId)
  | 0, l => some ([], l)
  | k + 1, l => do
    let (e, l) ← getId 1 16 l
    let (es, l) ← getEvaps k l
    some (e :: es, l)

/-- DEFROST REQUEST: a count and that many evaporators; 1 to 16, none named twice (R152). -/
def readEvapList (body : List Byte) : Option (List EvapId) := do
  let (k, l) ← getU8 body
  let es ← finish (getEvaps k l)
  if es ≠ [] ∧ es.Nodup then some es else none

/-- SET HEAT SLOTS, FETCH NOTICES: one count. -/
def readCount (body : List Byte) : Option Nat := finish (getU8 body)

/-- ACK ALARM (R179). -/
inductive AckReq where
  | one (number repeats lastRepeat : Nat)
  | all
deriving DecidableEq, Repr

def readAck (body : List Byte) : Option AckReq := do
  let (mode, l) ← getU8 body
  let (number, l) ← getU16 l
  let (repeats, l) ← getU8 l
  let (last, l) ← getU32 l
  if l ≠ [] then none
  else if mode = 1 then some (.one number repeats last)
  else if mode = 2 ∧ number = 0 ∧ repeats = 0 ∧ last = 0 then some .all
  else none

/-- Filters of READ ALARMS (R184). -/
inductive AlarmFilter where
  | all | unack | active
deriving DecidableEq, Repr

/-- READ ALARMS: start position 0 to 95 and filter. -/
def readAlarmQuery (body : List Byte) : Option (Nat × AlarmFilter) := do
  let (start, l) ← getU8 body
  let (k, l) ← getU8 l
  if l ≠ [] ∨ 95 < start then none
  else if k = 1 then some (start, .all) else if k = 2 then some (start, .unack) else if k = 3 then some (start, .active)
  else none

/-! ### Report bodies (Section 11.5) -/

def getPosition : Reader Position := fun l => do
  let (k, r) ← getU8 l
  if k = 1 then some (.closed, r) else if k = 2 then some (.opened, r) else if k = 3 then some (.between, r) else none

def getSealState : Reader SealState := fun l => do
  let (k, r) ← getU8 l
  if k = 1 then some (.released, r) else if k = 2 then some (.proven, r) else if k = 3 then some (.neither, r) else none

def getPasses : Nat → Reader (List Pass)
  | 0, l => some ([], l)
  | k + 1, l => do
    let (id, l) ← getU32 l
    let (d, l) ← getU8 l
    let dir ← if d = 1 then some Direction.inward else if d = 2 then some Direction.outward else none
    let (ps, l) ← getPasses k l
    some (⟨id, dir⟩ :: ps, l)

/-- Section number, flag, pass count 0 to 4, passes. -/
def getEvents : Reader EventSection := fun l => do
  let (number, l) ← getU8 l
  let (flag, l) ← getMark l
  let (k, l) ← getU8 l
  if 4 < k then none
  else do
    let (passes, l) ← getPasses k l
    some (⟨number, flag, passes⟩, l)

def readDockReport (body : List Byte) : Option DockReport := finish do
  let (presence, l) ← getMark body
  let (position, l) ← getPosition l
  let (sealState, l) ← getSealState l
  let (temp, l) ← getOpt 2 getI16 l
  let (events, l) ← getEvents l
  some (⟨presence, position, sealState, temp, events⟩, l)

def readPortalReport (body : List Byte) : Option PortalReport := finish do
  let (position, l) ← getPosition body
  let (events, l) ← getEvents l
  some (⟨position, events⟩, l)

def readEvapReport (body : List Byte) : Option EvapReport := finish do
  let (coil, l) ← getOpt 2 getI16 body
  let (current, l) ← getMark l
  let (fan, l) ← getMark l
  some (⟨coil, current, fan⟩, l)

def getProbeEntry : Reader ProbeEntry := fun l => do
  let (k, l) ← getU8 l
  let flag ← if k = 1 then some ProbeFlag.ok else if k = 2 then some ProbeFlag.fault
    else if k = 3 then some ProbeFlag.absent else none
  let (temp, l) ← getI16 l
  some (⟨flag, temp⟩, l)

/-- Four channel entries, in channel order. -/
def readProbeReport (body : List Byte) : Option (Vector ProbeEntry 4) := finish do
  let (a, l) ← getProbeEntry body
  let (b, l) ← getProbeEntry l
  let (c, l) ← getProbeEntry l
  let (d, l) ← getProbeEntry l
  some (#v[a, b, c, d], l)

end Sys2Proof.Machine
end

