-- ==== Sys2Proof/Machine/Ops.lean ====
section
/-! DEFINITION. The named operations every block uses: access to the records, notices (R190, R191), responses (R187, R193), the alarm unit's
raise and condition end (R176 to R182), and the order of two deliveries the spec leaves open. -/

namespace Sys2Proof.Machine

open Sys2Proof

/-! ### Records -/

def Part.port (s : Part) : Port → PortRec
  | .plant => s.portPlant
  | .warehouse => s.portWarehouse

def modPort (p : Port) (f : PortRec → PortRec) (s : Part) : Part :=
  match p with
  | .plant => { s with portPlant := f s.portPlant }
  | .warehouse => { s with portWarehouse := f s.portWarehouse }

def modZone (z : ZoneId) (f : Zone → Zone) (s : Part) : Part := { s with zones := upd s.zones z f }

def modProbe (t : ProbeId) (f : Probe → Probe) (s : Part) : Part := { s with probes := upd s.probes t f }

def modDock (d : DoorId) (f : Dock → Dock) (s : Part) : Part := { s with docks := upd s.docks d f }

def modPortal (q : PortalId) (f : Portal → Portal) (s : Part) : Part := { s with portals := upd s.portals q f }

def modSlot (d : DoorId) (f : Slot → Slot) (s : Part) : Part := { s with slots := upd s.slots d f }

def modEvap (e : EvapId) (f : Evap → Evap) (s : Part) : Part := { s with evaps := upd s.evaps e f }

def modBatch (z : ZoneId) (f : Batch → Batch) (s : Part) : Part := { s with batches := upd s.batches z (Option.map f) }

def modStation (a : StationId) (f : Station → Station) (s : Part) : Part :=
  { s with loop := { s.loop with stations := upd s.loop.stations a f } }

/-- The supervision interval of a port, from the working copy. -/
def portInterval (s : Part) : Port → Nat
  | .plant => s.cfg.portPlant
  | .warehouse => s.cfg.portWarehouse

/-- The part takes requests, reports and expiries (R13, R14). -/
def Part.running (s : Part) : Bool := s.supply.service == .running

/-- `f` run over the identifiers in ascending order. -/
def forEach {n : Nat} (f : Fin n → Part → Part) (s : Part) : Part := (List.finRange n).foldl (fun s i => f i s) s

/-- `f` run over a list, in its order. -/
def forList {α : Type} (l : List α) (f : α → Part → Part) (s : Part) : Part := l.foldl (fun s a => f a s) s

/-- `f` if the condition holds. -/
def onlyIf (c : Bool) (f : Part → Part) (s : Part) : Part := if c then f s else s

/-- Two deliveries that "are not ordered with respect to each other" (R43, R51, R115, R122, R164, R194): a free value says which is taken
first (notes/assumptions/2.md). -/
def unordered (f g : Part → Part) (s : Part) : Part :=
  let t := { s with draws := s.draws + 1 }
  if Config.firstDelivery s.draws then g (f t) else f (g t)

/-- Two such deliveries. Where `told` is false their order makes no difference, and no free value is used. -/
def eitherOrder (told : Bool) (f g : Part → Part) (s : Part) : Part := if told then unordered f g s else g (f s)

/-! ### Notices -/

/-- The number after `n` in a queue: 65535 is followed by 1 (R190). -/
def nextNoticeNumber (n : Nat) : Nat := wrapFromOne 65535 n

/-- A notice offered to one queue: placed last, or discarded with OVERFLOW set. It takes its number either way (R190, R191). -/
def offer (time : Nat) (b : NoticeBody) (r : PortRec) : PortRec :=
  if r.queue.length < queueDepth then
    { r with queue := r.queue ++ [⟨r.nextNumber, time, b⟩], nextNumber := nextNoticeNumber r.nextNumber }
  else { r with overflow := true, nextNumber := nextNoticeNumber r.nextNumber }

/-- A notice for one port. -/
def notify (p : Port) (b : NoticeBody) (s : Part) : Part := modPort p (offer s.time b) s

/-- A notice for both ports, offered to each queue separately (R190). -/
def notifyBoth (b : NoticeBody) (s : Part) : Part := notify .warehouse b (notify .plant b s)

/-! ### Responses -/

/-- A frame is sent. -/
def send (o : Output) (s : Part) : Part := { s with out := s.out ++ [o] }

/-- The supervision deadline of an ACTIVE port is set from now (R193). -/
def superviseFromNow (p : Port) (s : Part) : Part :=
  modPort p (fun r => if r.silent then r else { r with supervisionDl := some (addTime s.time (portInterval s p)) }) s

/-- A response is sent on a port, which sets its supervision deadline (R187, R193). -/
def respond (p : Port) (code : Nat) (tag : Byte) (st : Status) (body : List Byte) (s : Part) : Part :=
  superviseFromNow p (send (.response p ⟨code, tag, st, body⟩) s)

/-! ### Alarm unit -/

/-- The relay condition of R182: a CRITICAL record is ACTIVE_UNACK. -/
def relayWanted (rs : List Alarm) : Bool := rs.any fun a => a.kind.critical && a.state == .activeUnack

/-- The relay is set at the end of an event that changes the table (R182). -/
def setRelay (t : AlarmTable) : AlarmTable := { t with relay := relayWanted t.records }

/-- Is this the record of (kind, subject)? -/
def isAlarm (k : AlarmKind) (x : Subject) (a : Alarm) : Bool := a.kind == k && a.subject == x

/-- The number a new record takes: `n`, or the next higher one that no record holds, 65535 followed by 1 (R176). At most 96 numbers are
held, so `fuel` 97 always suffices. -/
def freeNumber (rs : List Alarm) : Nat → Nat → Nat
  | 0, n => n
  | fuel + 1, n => if rs.any (fun a => a.number == n) then freeNumber rs fuel (wrapFromOne 65535 n) else n

/-- May step 1 of R180 take the record? Whether it may take a CRITICAL one in CLEARED_UNACK is a free value, because R180 also says that no
record of CRITICAL severity is ever displaced (notes/assumptions/25.md). -/
def clearedDisplaceable (a : Alarm) : Bool := a.state == .clearedUnack && (!a.kind.critical || Config.displacesCritical)

/-- The record that makes room on a full table: the first CLEARED_UNACK, else the first WARNING in ACTIVE_ACK (R180). -/
def displaceable (rs : List Alarm) : Option Alarm :=
  match rs.find? clearedDisplaceable with
  | some a => some a
  | none => rs.find? (fun a => !a.kind.critical && a.state == .activeAck)

def modAlarms (f : AlarmTable → AlarmTable) (s : Part) : Part := { s with alarms := f s.alarms }

/-- The notice of a raise that left a record (R183). -/
def raisedNotice (a : Alarm) : NoticeBody :=
  .alarmRaised a.number a.kind a.subject (some a.state) a.raised a.lastRepeat a.repeats false

/-- A record leaves the table (R178 to R180). -/
def dropAlarm (a : Alarm) (t : AlarmTable) : AlarmTable := { t with records := t.records.erase a }

/-- The record of a new raise (R176). -/
def newAlarm (k : AlarmKind) (x : Subject) (now : Nat) (t : AlarmTable) : Alarm :=
  ⟨freeNumber t.records (alarmRoom + 1) t.nextNumber, k, x, .activeUnack, now, now, 1⟩

/-- Creation of a record with its notice; the change count moves once (R176). -/
def createAlarm (k : AlarmKind) (x : Subject) (s : Part) : Part :=
  let a := newAlarm k x s.time s.alarms
  notifyBoth (raisedNotice a)
    (modAlarms (fun t => setRelay { t with records := t.records ++ [a], nextNumber := wrapFromOne 65535 a.number
                                           changes := wrap16 t.changes }) s)

/-- A repeat of a present record (R177). -/
def repeatAlarm (a : Alarm) (s : Part) : Part :=
  let b := { a with
    lastRepeat := s.time, repeats := satInc 255 a.repeats
    state := if a.state = .clearedUnack then .activeUnack else a.state }
  notifyBoth (raisedNotice b)
    (modAlarms (fun t => setRelay { t with records := t.records.map (fun c => if c = a then b else c)
                                           changes := wrap16 t.changes }) s)

/-- A raise on a full table that finds no room (R180). DESIGN CHOICE (notes/assumptions/21.md): the notice carries device time as the raised
time and as the last repeat time; the spec names neither for a raise that is not stored. -/
def unstoredAlarm (k : AlarmKind) (x : Subject) (s : Part) : Part :=
  notifyBoth (.alarmRaised 0 k x none s.time s.time 1 true)
    (modAlarms (fun t => { t with full := true, changes := if t.full then t.changes else wrap16 t.changes }) s)

/-- A raise of (kind, subject): repeat, new record, displacement or no room (R176, R177, R180). -/
def raiseAlarm (k : AlarmKind) (x : Subject) (s : Part) : Part :=
  match s.alarms.records.find? (isAlarm k x) with
  | some a => repeatAlarm a s
  | none =>
    if s.alarms.records.length < alarmRoom then createAlarm k x s
    else
      match displaceable s.alarms.records with
      | some a =>
        createAlarm k x (notifyBoth (.alarmCleared a.number a.kind a.subject none .displaced) (modAlarms (dropAlarm a) s))
      | none => unstoredAlarm k x s

/-- The table-full flag after a removal by acknowledgement or condition end (R181). -/
def clearFull (t : AlarmTable) : AlarmTable := if t.records.length < alarmRoom then { t with full := false } else t

/-- A record leaves by acknowledgement or condition end; the change count is the caller's. -/
def removeAlarm (a : Alarm) (c : ClearCause) (s : Part) : Part :=
  notifyBoth (.alarmCleared a.number a.kind a.subject none c) (modAlarms (fun t => setRelay (clearFull (dropAlarm a t))) s)

/-- A record changes its state. -/
def setAlarmState (a : Alarm) (st : AlarmState) (t : AlarmTable) : AlarmTable :=
  setRelay { t with records := t.records.map fun c => if c = a then { a with state := st } else c }

/-- The change count moves once. -/
def countChange (s : Part) : Part := modAlarms (fun t => { t with changes := wrap16 t.changes }) s

/-- The end of a condition (R178). It is not acted on for a latched kind (R175). -/
def endCondition (k : AlarmKind) (x : Subject) (s : Part) : Part :=
  if k.latched then s
  else
    match s.alarms.records.find? (isAlarm k x) with
    | none => s
    | some a =>
      match a.state with
      | .activeUnack =>
        notifyBoth (.alarmCleared a.number a.kind a.subject (some .clearedUnack) .conditionEnded)
          (countChange (modAlarms (setAlarmState a .clearedUnack) s))
      | .activeAck => removeAlarm a .conditionEnded (countChange s)
      | .clearedUnack => s

end Sys2Proof.Machine
end

