-- ==== Sys2Proof/Machine/Flags.lean ====
section
/-! DEFINITION. What the blocks read from the records and never store: batch phases, limits in force, doors that count as closed, lamps
and output images, paths, credit limits, load counts and thermal inputs. -/

namespace Sys2Proof.Machine

open Sys2Proof

/-! ### Elements of a zone (R1, R2) -/

def dockInService (s : Part) (d : DoorId) : Bool := (s.cfg.docks.get d).inService
def portalInService (s : Part) (q : PortalId) : Bool := (s.cfg.portals.get q).inService
def zoneInService (s : Part) (z : ZoneId) : Bool := (s.cfg.zones.get z).inService

/-- An in-service portal of the zone. -/
def portalOf (s : Part) (z : ZoneId) (q : PortalId) : Bool :=
  portalInService s q && (s.cfg.portals.get q).zone == some z

/-- The zone of a portal; Z0 stands for none, which no in-service portal has (R2). -/
def portalZone (s : Part) (q : PortalId) : ZoneId := ((s.cfg.portals.get q).zone).getD 0

/-- In service with the lockout clear. -/
def evapActive (s : Part) (e : EvapId) : Bool :=
  let c := s.cfg.evaps.get e
  c.inService && !c.lockout

/-- An in-service evaporator of the zone with its lockout clear. -/
def evapOf (s : Part) (z : ZoneId) (e : EvapId) : Bool := evapActive s e && (s.cfg.evaps.get e).zone == some z

/-- In service with the lockout clear: the station is polled (R19). -/
def stationActive (s : Part) (a : StationId) : Bool :=
  let c := s.cfg.stations.get a
  c.inService && !c.lockout

/-! ### Batches (Chapter 8) -/

/-- FORCE_WAIT, PUMPDOWN, HEAT, DRIP or REFREEZE (R44). -/
def pastGather (s : Part) (z : ZoneId) : Bool :=
  match s.batches.get z with
  | some b => b.phase != .gather
  | none => false

/-- The zone has a FORCED batch in FORCE_WAIT or a later phase (R113, R166). -/
def forcedRunning (s : Part) (z : ZoneId) : Bool :=
  match s.batches.get z with
  | some b => b.kind == .forced && b.phase != .gather
  | none => false

/-- The zone's forced batch has passed FORCE_WAIT (R86). -/
def forcedPastWait (s : Part) (z : ZoneId) : Bool :=
  match s.batches.get z with
  | some b => b.kind == .forced && b.phase != .gather && b.phase != .forceWait
  | none => false

def isMember (b : Batch) (e : EvapId) : Bool := b.members.any fun m => m.evap == e

/-- The zone whose batch holds the evaporator, and the batch. -/
def batchOf (s : Part) (e : EvapId) : Option (ZoneId × Batch) :=
  (List.finRange 7).findSome? fun z =>
    match s.batches.get z with
    | some b => if isMember b e then some (z, b) else none
    | none => none

def memberOf (s : Part) (e : EvapId) : Option Member :=
  match batchOf s e with
  | some (_, b) => b.members.find? fun m => m.evap == e
  | none => none

/-- The number of evaporators in HEATING (R160). -/
def heatingCount (s : Part) : Nat := ((List.finRange 16).filter fun e => (s.evaps.get e).sub == .heating).length

/-- The answer to the defrost question for a zone (R166). A batch that heats in a zone in BULK answers deferred: R169 says so of each approach
in a zone that its withdrawal leaves in BULK, and no approach is asked for in BULK before one, because the portals are HELD. DESIGN CHOICE
(notes/assumptions/28.md): that sentence is followed where the row of R166 for a count below the limit reads proceed-suspended. -/
def defrostAnswer (s : Part) (z : ZoneId) : Answer :=
  match s.batches.get z with
  | none => .proceed
  | some b =>
    match b.kind, b.phase with
    | .forced, .gather => .proceed
    | .forced, _ => .refused
    | .normal, .heat =>
      if b.suspended then (if b.withdrawn then .deferred else .proceed)
      else if (s.zones.get z).mode = .bulk then .deferred
      else if b.suspendCount < b.suspendLimit then .proceedSuspended else .deferred
    | .normal, _ => .proceed

/-! ### Limits (R44, R120) -/

def normalLimit (c : ZoneCfg) : Int := c.setpoint + c.highOffset
def raisedLimit (c : ZoneCfg) : Int := c.setpoint + c.allowance

/-- The raised limit applies past GATHER and in the recovery window (R44). -/
def limitRaised (s : Part) (z : ZoneId) : Bool := pastGather s z || (s.zones.get z).recoveryDl.isSome

def limitInForce (s : Part) (z : ZoneId) : Int :=
  if limitRaised s z then raisedLimit (s.cfg.zones.get z) else normalLimit (s.cfg.zones.get z)

/-- The defrost reduction in force (R120, R121). -/
def reductionInForce (s : Part) : Nat := if pastGather s 0 then s.cfg.staging.reduction else 0

/-- Effective capacity C_eff. -/
def effectiveCapacity (s : Part) : Nat := s.cfg.staging.capacity - reductionInForce s

/-- Limit of check 7 for a move from a trailer. -/
def trailerLimit (s : Part) : Nat := min s.cfg.staging.inboundLimit (effectiveCapacity s)

/-- Limit of check 7 by origin; a move from HALL takes no check. -/
def creditLimit (s : Part) : Loc → Option Nat
  | .trailer _ => some (trailerLimit s)
  | .zone _ => some (effectiveCapacity s)
  | .hall => none

/-! ### Doors (Chapter 4) -/

/-- OPEN or BETWEEN counts as open (R87). -/
def Position.isOpen : Position → Bool
  | .closed => false
  | .opened | .between => true

/-- A dock door counts as closed for the drain check and the closing check (R53, R157): a report since it last took a state from one, the
last report CLOSED, and a state other than OPENING and OPEN. -/
def dockClosed (s : Part) (d : DoorId) : Bool :=
  let k := s.docks.get d
  k.heard && k.state != .opening && k.state != .open &&
    (match k.last with
     | some r => r.position == .closed
     | none => false)

def portalClosed (s : Part) (q : PortalId) : Bool :=
  let k := s.portals.get q
  k.heard && k.state != .granted && k.state != .open && k.state != .held &&
    (match k.last with
     | some r => r.position == .closed
     | none => false)

/-- Every in-service door of the zone counts as closed: dock doors for Z0, the zone's portals otherwise. -/
def zoneDoorsClosed (s : Part) (z : ZoneId) : Bool :=
  if z = 0 then (List.finRange 24).all fun d => !dockInService s d || dockClosed s d
  else (List.finRange 12).all fun q => !portalOf s z q || portalClosed s q

/-- No in-service door of the zone is in OPENING, OPEN, GRANTED or HELD (R168). -/
def zoneDoorsIdle (s : Part) (z : ZoneId) : Bool :=
  if z = 0 then
    (List.finRange 24).all fun d =>
      !dockInService s d || ((s.docks.get d).state != .opening && (s.docks.get d).state != .open)
  else
    (List.finRange 12).all fun q =>
      !portalOf s z q || ((s.portals.get q).state != .granted && (s.portals.get q).state != .open && (s.portals.get q).state != .held)

/-- A portal whose last report shows CLOSED. -/
def reportsClosed (k : Portal) : Bool :=
  match k.last with
  | some r => r.position == .closed
  | none => false

/-- The lamp of a dock door (R81). -/
def lampOf (k : Dock) : Lamp :=
  if k.firstPending then .off
  else
    match k.state with
    | .vacant => .off
    | .breach | .sealFault | .fault | .lockedOut => .red
    | .opening | .open => .green
    | .arrived | .inflating | .sealed | .closing | .releasing =>
      if k.pending.isSome then .amber else if k.refusal then .red else .off

/-- The door drive of each state (Section 4.2). -/
def driveOf : DockState → Drive
  | .opening | .open => .open
  | .closing | .breach | .lockedOut => .close
  | .vacant | .arrived | .inflating | .sealed | .releasing | .sealFault | .fault => .none

/-- Fan, liquid valve and heater of an in-service evaporator with its lockout clear (R148). -/
def evapOutputs (s : Part) (e : EvapId) : Bool × Bool × Bool :=
  match (s.evaps.get e).sub with
  | .idle | .demand | .gather => (true, true, false)
  | .pumpdown | .waitSlot | .heatDone | .drip => (false, false, false)
  | .heating => (false, false, true)
  | .refreeze =>
    match memberOf s e with
    | some m => (m.fanStarted, true, false)
    | none => (false, true, false)
  | .fault =>
    match batchOf s e with
    | some (_, b) =>
      match b.phase with
      | .pumpdown | .heat | .drip => (false, false, false)
      | .gather | .forceWait | .refreeze => (true, true, false)
    | none => (true, true, false)

/-- The in-service dock door, portal or evaporator bound to a station (R1). -/
def dockAt (s : Part) (a : StationId) : Option DoorId :=
  (List.finRange 24).find? fun d => dockInService s d && (s.cfg.docks.get d).station == some a

def portalAt (s : Part) (a : StationId) : Option PortalId :=
  (List.finRange 12).find? fun q => portalInService s q && (s.cfg.portals.get q).station == some a

def evapAt (s : Part) (a : StationId) : Option EvapId :=
  (List.finRange 16).find? fun e => (s.cfg.evaps.get e).inService && (s.cfg.evaps.get e).station == some a

/-- The probe bound to a channel of a station that is in service with its lockout clear (R33). -/
def probeAt (s : Part) (a : StationId) (ch : Fin 4) : Option ProbeId :=
  (List.finRange 24).find? fun t =>
    let c := s.cfg.probes.get t
    c.inService && !c.lockout && c.station == some a && c.channel == ch

/-- The output image of a station as it stands (R23, R24): the outputs of its bound in-service element, or the off values of its kind. -/
def imageOf (s : Part) (a : StationId) : Image :=
  match (s.cfg.stations.get a).kind with
  | .none => .none
  | .probe => .probe
  | .dock =>
    match dockAt s a with
    | some d =>
      let k := s.docks.get d
      .dock (driveOf k.state) k.sealOut (lampOf k)
    | none => .dock .none .deflate .off
  | .portal =>
    match portalAt s a with
    | some q => .portal (s.portals.get q).openCommand
    | none => .portal false
  | .evap =>
    match evapAt s a with
    | some e =>
      if (s.cfg.evaps.get e).lockout then .evap false false false
      else
        let o := evapOutputs s e
        .evap o.1 o.2.1 o.2.2
    | none => .evap false false false

/-! ### Moves and paths (R107, R110) -/

def destOf : Dest → Loc
  | .door d => .trailer d
  | .hall => .hall
  | .zone z => .zone z

/-- The dock doors a path uses, in the order of its row (R110). -/
def pathDocks (o : Loc) (e : Dest) : List DoorId :=
  (match o with | .trailer d => [d] | _ => []) ++ (match e with | .door d => [d] | _ => [])

/-- The zones a path enters or leaves, in the order of its row (R110), Z0 always among them. -/
def pathZones (o : Loc) (e : Dest) : List ZoneId :=
  match o, e with
  | .zone z, .zone y => [z, 0, y]
  | .zone z, _ => [z, 0]
  | _, .zone z => [0, z]
  | _, _ => [0]

/-- A move reserves a credit when its origin is not HALL. -/
def reserves (o : Loc) : Bool := o != .hall

def moveTouches (m : Move) (z : ZoneId) : Bool := (pathZones m.origin m.dest).contains z
def moveUsesDock (m : Move) (d : DoorId) : Bool := (pathDocks m.origin m.dest).contains d
def moveUsesPortal (s : Part) (m : Move) (q : PortalId) : Bool :=
  match (s.cfg.portals.get q).zone with
  | some z => moveTouches m z
  | none => false

/-- Does a move in flight have a path entering or leaving the zone (R109)? -/
def anyMoveTouches (s : Part) (z : ZoneId) : Bool :=
  s.pallets.any fun p => match p.move with | some m => moveTouches m z | none => false

/-- Does a move in flight have a path that uses the dock door (R109)? -/
def anyMoveUses (s : Part) (d : DoorId) : Bool :=
  s.pallets.any fun p => match p.move with | some m => moveUsesDock m d | none => false

def anyMoveTo (s : Part) (d : DoorId) : Bool :=
  s.pallets.any fun p => match p.move with | some m => m.dest == .door d | none => false

def anyPalletAt (s : Part) (l : Loc) : Bool := s.pallets.any fun p => p.loc == l

/-- Is any pallet with status WAITING located on TRAILER(d) (R64)? -/
def waitingOnTrailer (s : Part) (d : DoorId) : Bool := s.pallets.any fun p => p.loc == .trailer d && p.status == .waiting

/-- The load count of a dock door (R113). -/
def loadCount (s : Part) (d : DoorId) : Nat :=
  (s.pallets.filter fun p => p.status == .loaded && p.loc == .trailer d).length +
    (s.pallets.filter fun p => match p.move with | some m => m.dest == .door d | none => false).length

/-- The status of a record without a move, from its location (R107). -/
def restingStatus (s : Part) : Loc → PalletStatus
  | .trailer d => if (s.docks.get d).claim = .outbound then .loaded else .waiting
  | .hall | .zone _ => .standing

def hallCount (s : Part) : Nat := (s.pallets.filter fun p => p.loc == .hall).length

def reservedCount (s : Part) : Nat :=
  (s.pallets.filter fun p => match p.move with | some m => m.reserved | none => false).length

def findPallet (s : Part) (id : Nat) : Option Pallet := s.pallets.find? fun p => p.id == id

/-- Exposure as reported on the ports (R136). -/
def reported (exposure : Nat) : Nat := exposure / 600

/-- The air temperature of an update (R134). -/
def airTemp (s : Part) : Loc → Int
  | .hall => (s.zones.get 0).temp
  | .zone z => (s.zones.get z).temp
  | .trailer d =>
    match (s.docks.get d).last with
    | some r => r.temp.getD (s.cfg.handling.get d).assumedTemp
    | none => (s.cfg.handling.get d).assumedTemp

end Sys2Proof.Machine
end

