-- ==== Sys2Proof/Machine/ZoneOps.lean ====
section
/-! DEFINITION. Shared operations on zone records: the warm alarm (R44 to R46) and the mode notices (R57). -/

namespace Sys2Proof.Machine

open Sys2Proof

/-- Evaluation of the warm alarm (R45). With an alarm delay of 0 the deadline is reached at the evaluation itself: ZONE_WARM is raised
and no deadline stays. -/
def warmEvaluate (z : ZoneId) (s : Part) : Part :=
  let k := s.zones.get z
  if k.stale then modZone z (fun k => { k with warmDl := none }) s
  else if limitInForce s z < k.temp then
    match k.warmDl with
    | some _ => s
    | none =>
      if (s.cfg.zones.get z).alarmDelay = 0 then raiseAlarm .zoneWarm (.zone z) s
      else modZone z (fun k => { k with warmDl := some (addTime s.time (s.cfg.zones.get z).alarmDelay) }) s
  else endCondition .zoneWarm (.zone z) (modZone z (fun k => { k with warmDl := none }) s)

/-- The batch past GATHER event at the Zone Supervisor (R44). -/
def zonePastGather (z : ZoneId) (s : Part) : Part := warmEvaluate z s

/-- The batch ended event at the Zone Supervisor (R46). -/
def zoneBatchEnded (z : ZoneId) (s : Part) : Part :=
  let t := (s.cfg.zones.get z).recoveryTime
  warmEvaluate z (modZone z (fun k => { k with recoveryDl := if t = 0 then none else some (addTime s.time t) }) s)

/-- The mode of a zone, with its BULK deadline. The notice is the caller's. -/
def setMode (z : ZoneId) (m : Mode) (dl : Option Nat) (s : Part) : Part :=
  modZone z (fun k => { k with mode := m, bulkDl := dl }) s

/-- A ZONE_MODE notice for a change from `old` to the mode that stands (R57). -/
def modeNotice (z : ZoneId) (old : Mode) (c : ModeCause) (s : Part) : Part :=
  let k := s.zones.get z
  notifyBoth (.zoneMode z old k.mode k.bulkDl c) s

/-- The BULK deadline of an entry to BULK now (R50): none when the BULK time is 0. -/
def bulkDeadline (s : Part) : Option Nat :=
  if s.cfg.staging.bulkTime = 0 then none else some (addTime s.time s.cfg.staging.bulkTime)

end Sys2Proof.Machine
end

