-- ==== Sys2Proof/Machine/DoorOps.lean ====
section
/-! DEFINITION. Shared operations on door records: the revision (R60), state entries, pending requests (R76), closing and grant ends
(R66, R84), faults (R67), states taken from reports (R61, R82), withdrawal (R80), BULK and BLOCKED portals (R85, R86) and the
drain check (R53), which blocks portals. -/

namespace Sys2Proof.Machine

open Sys2Proof

/-! ### Revision (R60) -/

/-- Do two records of a dock door differ in a field that moves the revision? The slot state is handled where the slot changes. -/
def dockMoved (a b : Dock) : Bool :=
  a.state != b.state || a.claim != b.claim || a.trailer != b.trailer || a.returnMark != b.returnMark || a.capture != b.capture
    || a.pending != b.pending

def portalMoved (a b : Portal) : Bool := a.state != b.state || a.claim != b.claim || a.pending != b.pending

def bumpDock (d : DoorId) (s : Part) : Part := modDock d (fun k => { k with revision := wrap16 k.revision }) s

def bumpPortal (q : PortalId) (s : Part) : Part := modPortal q (fun k => { k with revision := wrap16 k.revision }) s

/-- `f` as one event of the door: the revision moves once if `f` changed a field that moves it. -/
def trackDock (d : DoorId) (f : Part → Part) (s : Part) : Part :=
  let t := f s
  onlyIf (dockMoved (s.docks.get d) (t.docks.get d)) (bumpDock d) t

def trackPortal (q : PortalId) (f : Part → Part) (s : Part) : Part :=
  let t := f s
  onlyIf (portalMoved (s.portals.get q) (t.portals.get q)) (bumpPortal q) t

/-! ### Entries -/

/-- Entry of a dock door to a state: deadlines of the state left are removed and, when the state changes, the refusal mark is cleared
(R81). Deadlines and seal output of the new state are the caller's. -/
def dockEnter (st : DockState) (k : Dock) : Dock :=
  { k with
    state := st, refusal := if k.state = st then k.refusal else false
    sealDl := none, travelDl := none, openDl := none, captureStart := none }

/-- Entry to INFLATING (R63) but for the revision. -/
def enterInflating (now limit : Nat) (k : Dock) : Dock :=
  { dockEnter .inflating k with
    capture := none, captureStart := some now, sealDl := some (addTime now limit), sealOut := .inflate }

/-- Entry to RELEASING (R64). -/
def enterReleasing (now limit : Nat) (k : Dock) : Dock :=
  { dockEnter .releasing k with sealDl := some (addTime now limit), sealOut := .deflate }

/-- Entry to SEAL_FAULT. -/
def enterSealFault (k : Dock) : Dock := { dockEnter .sealFault k with sealOut := .deflate }

/-- Entry to OPENING (R66, R75). -/
def enterOpening (now : Nat) (k : Dock) : Dock :=
  { dockEnter .opening k with travelDl := some (addTime now travelTime), refusal := false }

/-- Entry to OPEN (R66). -/
def enterOpen (now limit : Nat) (k : Dock) : Dock :=
  { dockEnter .open k with openDl := if limit = 0 then none else some (addTime now limit), extensions := 0 }

/-- Entry to CLOSING (R66). -/
def enterClosing (now : Nat) (k : Dock) : Dock :=
  { dockEnter .closing k with travelDl := some (addTime now travelTime) }

/-- Entry to BREACH (R65) but for the pending request and the alarm. -/
def enterBreach (now : Nat) (k : Dock) : Dock :=
  { dockEnter .breach k with travelDl := some (addTime now travelTime), extensions := 0, sealOut := .deflate }

/-- Entry to FAULT (R67) but for the pending request and the alarm; the seal output is kept. -/
def enterFault (k : Dock) : Dock := { dockEnter .fault k with extensions := 0, consistent := 0 }

/-- Entry to LOCKED_OUT (R69) but for the pending request and the alarm. -/
def enterLockedOut (k : Dock) : Dock :=
  { dockEnter .lockedOut k with extensions := 0, firstPending := false, sealOut := .deflate }

def portalFault (k : Portal) : Portal :=
  { k with state := .fault, openCommand := false, grantDl := none, travelDl := none, consistent := 0 }

def portalLockedOut (k : Portal) : Portal :=
  { k with state := .lockedOut, openCommand := false, grantDl := none, travelDl := none, firstPending := false }

/-! ### Pending requests (R76) -/

/-- The pending request of a dock door ends, with its notice; a refusal sets the refusal mark. -/
def endPendingDock (d : DoorId) (o : RequestEnd) (s : Part) : Part :=
  match (s.docks.get d).pending with
  | none => s
  | some r =>
    let refused := match o with | .refused _ => true | _ => false
    notify .warehouse (.doorRequestEnd (.dock d) r.origin r.time o)
      (modDock d (fun k => { k with pending := none, refusal := refused || k.refusal }) s)

def endPendingPortal (q : PortalId) (o : RequestEnd) (s : Part) : Part :=
  match (s.portals.get q).pending with
  | none => s
  | some r =>
    notify .warehouse (.doorRequestEnd (.portal q) r.origin r.time o) (modPortal q (fun k => { k with pending := none }) s)

/-! ### Faults and closing -/

/-- Entry of a dock door to FAULT, or another fault event in FAULT (R67): with first report pending the record only loses its count, and
DOOR_FAULT is not raised (R61). -/
def faultDock (d : DoorId) (s : Part) : Part :=
  if (s.docks.get d).firstPending then modDock d (fun k => { k with consistent := 0 }) s
  else
    raiseAlarm .doorFault (.door (.dock d))
      (trackDock d (fun s => endPendingDock d .cancelled (modDock d enterFault s)) s)

def faultPortal (q : PortalId) (s : Part) : Part :=
  if (s.portals.get q).firstPending then modPortal q (fun k => { k with consistent := 0 }) s
  else
    raiseAlarm .doorFault (.door (.portal q))
      (trackPortal q (fun s => endPendingPortal q .cancelled (modPortal q portalFault s)) s)

/-- Entry of a dock door to LOCKED_OUT (R69), but for the resume check that follows it (R168). -/
def lockOutDock (d : DoorId) (s : Part) : Part :=
  onlyIf ((s.docks.get d).state == .fault) (endCondition .doorFault (.door (.dock d)))
    (trackDock d (fun s => endPendingDock d .cancelled (modDock d enterLockedOut s)) s)

def lockOutPortal (q : PortalId) (s : Part) : Part :=
  onlyIf ((s.portals.get q).state == .fault) (endCondition .doorFault (.door (.portal q)))
    (trackPortal q (fun s => endPendingPortal q .cancelled (modPortal q portalLockedOut s)) s)

/-- A dock door enters CLOSING (R66). -/
def closeDock (d : DoorId) (s : Part) : Part := trackDock d (modDock d (enterClosing s.time)) s

/-- The fields of a portal at the end of its grant (R84). DESIGN CHOICE (notes/assumptions/16.md): a portal that becomes CLOSED loses its
travel deadline too, where R84 lists the grant deadline alone. -/
def grantEnded (now : Nat) (k : Portal) : Portal :=
  if reportsClosed k then { k with state := .closed, openCommand := false, grantDl := none, travelDl := none }
  else { k with state := .open, openCommand := false, grantDl := none, travelDl := some (addTime now travelTime) }

/-- The grant of a portal ends (R84). -/
def endGrant (q : PortalId) (s : Part) : Part := trackPortal q (modPortal q (grantEnded s.time)) s

/-! ### States taken from reports -/

/-- The state of a dock door by the table of R61. -/
def dockTaken (r : DockReport) : DockState :=
  match r.presence, r.position with
  | false, .closed => .vacant
  | true, .closed => .arrived
  | true, _ => .closing
  | false, _ => .fault

/-- R61 for one record: the report is stored, first report pending cleared and the state taken. Whether that report counts for R53 is a free
value (notes/assumptions/26.md). The revision, the trailer end of VACANT and the alarm are the caller's. -/
def takeDock (now : Nat) (r : DockReport) (time : Nat) (k : Dock) : Dock :=
  let k := { dockEnter (dockTaken r) k with
    firstPending := false, consistent := 0, last := some ⟨r.presence, r.position, r.sealState, r.temp, time⟩
    heard := Config.stateReportCounts }
  match dockTaken r with
  | .closing =>
    { k with travelDl := some (addTime now travelTime), sealOut := if r.sealState = .proven then .inflate else .deflate }
  | .fault => k
  | _ => { k with sealOut := .deflate }

/-- The cause that blocks a zone's portals (R82 row 1, R86). -/
def portalBlocked (s : Part) (q : PortalId) : Bool :=
  (s.zones.get (portalZone s q)).mode == .pulldown || forcedPastWait s (portalZone s q)

/-- A portal takes its state from its last report by the table of R82. No report has been delivered since (R53). DESIGN CHOICE
(notes/assumptions/16.md): it loses its grant deadline, and its travel deadline where no row of R82 sets one. -/
def takePortal (q : PortalId) (s : Part) : Part :=
  let blocked := portalBlocked s q
  let bulk := (s.zones.get (portalZone s q)).mode == .bulk
  let travel := some (addTime s.time travelTime)
  bumpPortal q
    (modPortal q (fun k =>
      let k := { k with firstPending := false, consistent := 0, grantDl := none, openCommand := false, heard := false }
      if blocked then { k with state := .blocked, travelDl := if reportsClosed k then none else travel }
      else if bulk && k.claim == .none then { k with state := .held, openCommand := true, travelDl := none }
      else if reportsClosed k then { k with state := .closed, travelDl := none }
      else { k with state := .open, travelDl := travel }) s)

/-! ### Grants given -/

/-- A dock door grant: OPENING with no pending request, and PRECOOL_UNVERIFIED for an OUTBOUND door whose last report carries no trailer
temperature (R74, R75). -/
def grantDock (d : DoorId) (s : Part) : Part :=
  let k := s.docks.get d
  let unverified := k.claim == .outbound && (match k.last with | some r => r.temp.isNone | none => true)
  onlyIf unverified (notify .warehouse (.precoolUnverified d k.trailer))
    (modDock d (fun k => { enterOpening s.time k with pending := none }) s)

/-- A portal grant (R83). -/
def grantPortal (q : PortalId) (s : Part) : Part :=
  let dl := some (addTime s.time (s.cfg.portals.get q).grantTime)
  modPortal q (fun k =>
    if reportsClosed k then
      { k with state := .granted, openCommand := true, grantDl := dl, travelDl := some (addTime s.time travelTime), pending := none }
    else { k with state := .open, openCommand := true, grantDl := dl, travelDl := none, pending := none }) s

/-- A portal whose grant may be ended: GRANTED, HELD, or OPEN with its open command ON (R73, R80). -/
def grantLive (k : Portal) : Bool :=
  k.state == .granted || k.state == .held || (k.state == .open && k.openCommand)

/-- Withdrawal of a zone's grants (R80). -/
def withdraw (z : ZoneId) (c : CloseCause) (s : Part) : Part :=
  if z = 0 then
    forEach (n := 24) (fun d s =>
      let k := s.docks.get d
      onlyIf (dockInService s d && (k.state == .opening || k.state == .open))
        (fun s => notifyBoth (.doorAutoClose (.dock d) c none) (closeDock d s)) s) s
  else
    forEach (n := 12) (fun q s =>
      onlyIf (portalOf s z q && grantLive (s.portals.get q))
        (fun s => notifyBoth (.doorAutoClose (.portal q) c none) (endGrant q s)) s) s

/-! ### BULK and BLOCKED portals -/

/-- A portal that the zone's entry to BULK makes HELD (R85). -/
def bulkHolds (k : Portal) : Bool :=
  k.claim == .none && (k.state == .closed || k.state == .granted || k.state == .open || k.state == .deferred)

/-- What makes a portal HELD, but for the revision (R85). -/
def becomeHeld (q : PortalId) (s : Part) : Part :=
  endPendingPortal q .granted
    (modPortal q (fun k => { k with state := .held, openCommand := true, grantDl := none, travelDl := none }) s)

/-- A portal becomes HELD (R85). -/
def holdOpen (q : PortalId) (s : Part) : Part := trackPortal q (becomeHeld q) s

/-- The zone's entry to BULK at the Door Controller (R85). -/
def portalsEnterBulk (z : ZoneId) (s : Part) : Part :=
  forEach (n := 12) (fun q s => onlyIf (portalOf s z q && bulkHolds (s.portals.get q)) (holdOpen q) s) s

/-- The zone's leaving BULK or BULK_PENDING for OPEN at the Door Controller (R85). -/
def portalsLeaveBulk (z : ZoneId) (s : Part) : Part :=
  forEach (n := 12) (fun q s => onlyIf (portalOf s z q && (s.portals.get q).state == .held) (takePortal q) s) s

/-- The zone's portals become BLOCKED (R86). DESIGN CHOICE (notes/assumptions/16.md): a grant deadline is removed, and a travel deadline
stays. -/
def portalsBlock (z : ZoneId) (s : Part) : Part :=
  forEach (n := 12) (fun q s =>
    onlyIf (portalOf s z q && (s.portals.get q).state != .fault && (s.portals.get q).state != .lockedOut)
      (trackPortal q fun s =>
        endPendingPortal q .cancelled
          (modPortal q (fun k => { k with state := .blocked, openCommand := false, grantDl := none }) s)) s) s

/-- The zone's BLOCKED portals leave BLOCKED when neither cause remains (R86). -/
def portalsUnblock (z : ZoneId) (s : Part) : Part :=
  forEach (n := 12) (fun q s =>
    onlyIf (portalOf s z q && (s.portals.get q).state == .blocked && !portalBlocked s q) (takePortal q) s) s

/-- A drain check would find both conditions of R53. -/
def drainDue (s : Part) (z : ZoneId) : Bool :=
  (s.zones.get z).mode == .draining && !anyMoveTouches s z && zoneDoorsClosed s z

/-- The drain check (R53). -/
def drainCheck (z : ZoneId) (s : Part) : Part :=
  if drainDue s z then
    modeNotice z .draining .drained (portalsBlock z (setMode z .pulldown none s))
  else s

end Sys2Proof.Machine
end

