-- ==== Sys2Proof/Machine/DefrostOps.lean ====
section
/-! DEFINITION. Shared operations of the Defrost Scheduler: demand and the batch rule (R151, R154), batch ends (R165), pumpdown and the
closing check (R157, R159), the defrost question and the grants that ask it (R74, R77, R83, R166), the heat slot arbiter (R160),
leaving HEAT (R164), suspension and resume (R167, R168), and the division of frost (R150). -/

namespace Sys2Proof.Machine

open Sys2Proof

/-! ### Demand and the batch rule -/

/-- The zone of an in-service evaporator (R2 gives it one). -/
def evapZone (s : Part) (e : EvapId) : ZoneId := ((s.cfg.evaps.get e).zone).getD 0

/-- Evaporators of the zone in DEMAND, in ascending number; a member has another sub-state (R154). -/
def demanding (s : Part) (z : ZoneId) : List EvapId :=
  (List.finRange 16).filter fun e => evapOf s z e && (s.evaps.get e).sub == .demand

/-- A member entry of an evaporator that joins. -/
def newMember (e : EvapId) : Member := ⟨e, none, false⟩

/-- Members in ascending evaporator number, those of `es` added. -/
def addMembers (ms : List Member) (es : List EvapId) : List Member :=
  (List.finRange 16).filterMap fun e =>
    match ms.find? fun m => m.evap == e with
    | some m => some m
    | none => if es.contains e then some (newMember e) else none

/-- The evaporators take sub-state MEMBER-GATHER. -/
def gatherMembers (es : List EvapId) (s : Part) : Part := forList es (fun e => modEvap e fun k => { k with sub := .gather }) s

/-- A batch that opens now (R154, R156). -/
def openedBatch (s : Part) (kind : BatchKind) (phase : Phase) (es : List EvapId) (dl : Option Nat) : Batch :=
  { kind := kind, phase := phase, members := addMembers [] es, deadline := dl, opened := s.time
    suspendLimit := s.cfg.defrost.suspendLimit, suspendCount := 0, suspended := false, suspendedSince := none
    suspensionDl := none, withdrawn := false }

def putBatch (z : ZoneId) (b : Option Batch) (s : Part) : Part := { s with batches := upd s.batches z fun _ => b }

/-- The batch rule (R154). A batch opens only for demands; a window restarts whenever the rule meets a batch in GATHER in mode OPEN. -/
def batchRule (z : ZoneId) (s : Part) : Part :=
  let open_ := (s.zones.get z).mode == .open
  let es := demanding s z
  let window := some (addTime s.time s.cfg.defrost.gatherWindow)
  match s.batches.get z with
  | none =>
    if open_ && !es.isEmpty then gatherMembers es (putBatch z (some (openedBatch s .normal .gather es window)) s) else s
  | some b =>
    if b.phase = .gather then
      gatherMembers es
        (putBatch z (some { b with members := addMembers b.members es, deadline := if open_ then window else b.deadline }) s)
    else s

/-- The demand fields at entry to DEMAND (R151 steps 1 and 2). -/
def demandNow (now deferral : Nat) (k : Evap) : Evap :=
  { k with demandTime := some now, overdueDl := some (addTime now deferral) }

/-- Entry to DEMAND (R151). -/
def enterDemand (e : EvapId) (s : Part) : Part :=
  batchRule (evapZone s e) (modEvap e (fun k => { demandNow s.time s.cfg.defrost.maxDeferral k with sub := .demand }) s)

/-- The backstop deadline from the last defrost end (R151). -/
def backstopFrom (c : EvapCfg) (lastEnd : Nat) : Option Nat := some (addTime lastEnd (backstopSeconds c))

/-- An evaporator in IDLE is checked for demand at a return to IDLE by lockout cleared or by leaving FAULT (R151). -/
def idleCheck (e : EvapId) (s : Part) : Part :=
  let k := s.evaps.get e
  let c := s.cfg.evaps.get e
  if c.trigger ≤ k.frost ∨ backstopSeconds c ≤ s.time - k.lastEnd then enterDemand e s
  else modEvap e (fun k => { k with backstopDl := backstopFrom c k.lastEnd }) s

/-- The overdue deadline is removed and the condition of DEFROST_OVERDUE ends (R153). -/
def endOverdue (e : EvapId) (s : Part) : Part :=
  endCondition .defrostOverdue (.evap e) (modEvap e (fun k => { k with overdueDl := none }) s)

/-- A demand is dropped (R153). -/
def dropDemand (e : EvapId) (s : Part) : Part := endOverdue e (modEvap e (fun k => { k with demandTime := none }) s)

/-! ### Batch ends (R158, R165) -/

/-- F after a COMPLETE end (R165). -/
def frostAfter (c : EvapCfg) (o : Option MemberOutcome) (f : Nat) : Nat :=
  match o with
  | some .temp => 0
  | some .time | some .cut => c.trigger / 2
  | some .lost | none => f

/-- The evaporator fields at the end of a COMPLETE batch (R165). -/
def completeEvap (now : Nat) (c : EvapCfg) (o : Option MemberOutcome) (k : Evap) : Evap :=
  { k with
    frost := frostAfter c o k.frost, lastEnd := now, backstopDl := backstopFrom c now, demandTime := none, heatUsed := 0
    sub := if k.sub = .fault then .fault else .idle }

/-- The evaporator fields at a cancellation (R158). -/
def cancelEvap (now : Nat) (c : EvapCfg) (k : Evap) : Evap :=
  { k with backstopDl := some (addTime now (backstopSeconds c)), sub := if k.sub = .fault then .fault else .idle }

/-- The treatment of the members at a batch end. -/
def treatMembers (ms : List Member) (c : BatchEnd) (s : Part) : Part :=
  match c with
  | .complete => forList ms (fun m => modEvap m.evap (completeEvap s.time (s.cfg.evaps.get m.evap) m.outcome)) s
  | .cancelled =>
    forList ms (fun m t => modEvap m.evap (cancelEvap s.time (s.cfg.evaps.get m.evap)) (dropDemand m.evap t)) s
  | .emptied => s

/-- A batch ends (R165): its members, the notice, the removal, the two deliveries, and the batch rule. DEDUCED (notes/assumptions/19.md):
DEFROST_END carries the heat seconds each member used in the batch, taken before they are set to 0. -/
def endBatch (z : ZoneId) (c : BatchEnd) (s : Part) : Part :=
  match s.batches.get z with
  | none => s
  | some b =>
    let t := treatMembers b.members c s
    let ends := b.members.map fun m => ⟨m.evap, m.outcome, (s.evaps.get m.evap).heatUsed, (t.evaps.get m.evap).frost⟩
    let t := notify .plant (.defrostEnd z b.kind c b.opened s.time b.suspendCount ends) t
    let t := putBatch z none t
    let t := onlyIf (b.phase != .gather) (zoneBatchEnded z) t
    let t := onlyIf (b.kind == .forced && b.phase != .gather && b.phase != .forceWait) (portalsUnblock z) t
    batchRule z t

/-! ### FORCE_WAIT and PUMPDOWN -/

/-- Entry to PUMPDOWN (R159). -/
def enterPumpdown (z : ZoneId) (s : Part) : Part :=
  match s.batches.get z with
  | none => s
  | some b =>
    let t := modBatch z (fun b => { b with phase := .pumpdown, deadline := some (addTime s.time s.cfg.defrost.pumpdownTime) }) s
    let t := forList b.members (fun m t =>
      endOverdue m.evap (modEvap m.evap (fun k => if k.sub = .fault then k else { k with sub := .pumpdown }) t)) t
    let t := onlyIf (b.phase == .gather) (zonePastGather z) t
    onlyIf (b.kind == .forced) (portalsBlock z) t

/-- The closing check (R157). -/
def closingCheck (z : ZoneId) (s : Part) : Part :=
  match s.batches.get z with
  | some b => onlyIf (b.phase == .forceWait && zoneDoorsClosed s z) (enterPumpdown z) s
  | none => s

/-! ### The defrost question -/

/-- Heating time of a member up to `upTo` is added, and its heat start time and deadline removed (R161, R162, R167). -/
def stopHeat (upTo : Nat) (k : Evap) : Evap :=
  { k with
    heatUsed := k.heatUsed + (upTo - k.heatStart.getD upTo), heatStart := none, heatDl := none, noCurrent := 0 }

/-- A member in HEATING gives its slot back and waits (R161, R167, R172). -/
def backToWait (upTo : Nat) (k : Evap) : Evap :=
  if k.sub = .heating then { stopHeat upTo k with sub := .waitSlot } else k

/-- Steps 1 to 4 of a suspension (R167). -/
def suspendMembers (z : ZoneId) (s : Part) : Part :=
  match s.batches.get z with
  | none => s
  | some b =>
    let t := modBatch z (fun b => { b with
      suspendCount := b.suspendCount + 1, suspended := true, suspendedSince := some s.time
      suspensionDl := some (addTime s.time s.cfg.defrost.maxSuspended) }) s
    forList b.members (fun m => modEvap m.evap (backToWait s.time)) t

/-- How a grant request is decided. -/
inductive Verdict where
  | refused (st : Status)
  | granted (suspend : Bool)
  | deferred
deriving DecidableEq, Repr

/-- The answers of R75 as verdicts. -/
def Answer.verdict : Answer → Verdict
  | .proceed => .granted false
  | .proceedSuspended => .granted true
  | .deferred => .deferred
  | .refused => .refused .zoneDefrost

/-- Check 3 of R74: the trailer is at or below the precool limit, or unread. -/
def precooled (s : Part) (d : DoorId) : Bool :=
  match (s.docks.get d).last with
  | some r => match r.temp with
    | some t => t ≤ (s.cfg.handling.get d).precool
    | none => true
  | none => true

/-- The checks of R74 in order. -/
def dockVerdict (s : Part) (d : DoorId) : Verdict :=
  let k := s.docks.get d
  if k.state ≠ .sealed then .refused .busyState
  else if ¬ (k.claim = .outbound ∨ (k.claim = .inbound ∧ (s.slots.get d).state = .committed)) then .refused .notReady
  else if k.claim = .outbound ∧ ¬ precooled s d then .refused .trailerWarm
  else if (s.zones.get 0).mode = .draining ∨ (s.zones.get 0).mode = .pulldown then .refused .zoneClosed
  else (defrostAnswer s 0).verdict

/-- The checks of R83 in order. The statuses are seen only where a pending request is re-evaluated (R77). -/
def portalVerdict (s : Part) (q : PortalId) : Verdict :=
  if (s.portals.get q).claim ≠ .none then .refused .held
  else if (s.zones.get (portalZone s q)).mode = .pulldown then .refused .zoneClosed
  else (defrostAnswer s (portalZone s q)).verdict

/-- A pending request of a dock door is put through its checks again (R77). Its batch has left HEAT, so the question suspends nothing;
a suspension is made all the same where the answer asks for one. -/
def reevaluateDock (d : DoorId) (s : Part) : Part :=
  match (s.docks.get d).pending with
  | none => s
  | some r =>
    match dockVerdict s d with
    | .deferred => s
    | .refused st => trackDock d (endPendingDock d (.refused st)) s
    | .granted sus =>
      notify .warehouse (.doorRequestEnd (.dock d) r.origin r.time .granted)
        (trackDock d (grantDock d) (onlyIf sus (suspendMembers 0) s))

def reevaluatePortal (q : PortalId) (s : Part) : Part :=
  match (s.portals.get q).pending with
  | none => s
  | some r =>
    match portalVerdict s q with
    | .deferred => s
    | .refused st =>
      trackPortal q (fun s => endPendingPortal q (.refused st) (modPortal q (fun k => { k with state := .closed }) s)) s
    | .granted sus =>
      notify .warehouse (.doorRequestEnd (.portal q) r.origin r.time .granted)
        (trackPortal q (grantPortal q) (onlyIf sus (suspendMembers (portalZone s q)) s))

/-- The batch left HEAT event at the Door Controller (R77). -/
def doorsLeftHeat (z : ZoneId) (s : Part) : Part :=
  if z = 0 then forEach (n := 24) (fun d s => onlyIf (dockInService s d) (reevaluateDock d) s) s
  else forEach (n := 12) (fun q s => onlyIf (portalOf s z q) (reevaluatePortal q) s) s

/-- The batch left HEAT event at the Zone Supervisor (R50). -/
def zoneLeftHeat (z : ZoneId) (s : Part) : Part :=
  if (s.zones.get z).mode = .bulkPending then
    modeNotice z .bulkPending .batchLeftHeat (portalsEnterBulk z (setMode z .bulk (bulkDeadline s) s))
  else s

/-! ### HEAT -/

/-- The outcome of a member in its batch's entry. -/
def setOutcome (e : EvapId) (o : MemberOutcome) (b : Batch) : Batch :=
  { b with members := b.members.map fun m => if m.evap = e then { m with outcome := some o } else m }

/-- A suspension in force is ended (R164, R168). -/
def clearSuspension (b : Batch) : Batch :=
  { b with suspended := false, suspendedSince := none, suspensionDl := none, withdrawn := false }

/-- The batch leaves HEAT for DRIP (R164). -/
def enterDrip (z : ZoneId) (s : Part) : Part :=
  match s.batches.get z with
  | none => s
  | some b =>
    let t := modBatch z (fun b => { clearSuspension b with
      phase := .drip, deadline := some (addTime s.time s.cfg.defrost.dripTime) }) s
    forList b.members (fun m => modEvap m.evap fun k => if k.sub = .fault then k else { k with sub := .drip }) t

/-- A batch in HEAT leaves it as soon as every member has an outcome (R164). Where every outcome is LOST the batch ends first and the
left-HEAT deliveries follow. The two deliveries are unordered; only a zone in BULK_PENDING can tell their order. -/
def leaveHeatCheck (z : ZoneId) (s : Part) : Part :=
  match s.batches.get z with
  | none => s
  | some b =>
    if b.phase = .heat ∧ b.members.all fun m => m.outcome.isSome then
      let t :=
        if b.members.all fun m => m.outcome == some .lost then endBatch z .complete (modBatch z clearSuspension s)
        else enterDrip z s
      eitherOrder ((t.zones.get z).mode == .bulkPending) (zoneLeftHeat z) (doorsLeftHeat z) t
    else s

/-- Is the evaporator in the WAIT_SLOT set (R160)? -/
def inWaitSet (s : Part) (e : EvapId) : Bool :=
  (s.evaps.get e).sub == .waitSlot &&
    (match batchOf s e with
     | some (_, b) => b.phase == .heat && !b.suspended
     | none => false)

/-- Order of the WAIT_SLOT set: demand time, then evaporator number (R160). -/
def waitsBefore (s : Part) (a b : EvapId) : Bool :=
  let ta := (s.evaps.get a).demandTime.getD 0
  let tb := (s.evaps.get b).demandTime.getD 0
  ta < tb || (ta == tb && a.val < b.val)

/-- The entry of `l` that `before` puts first. -/
def firstBy {α : Type} (before : α → α → Bool) : List α → Option α
  | [] => none
  | a :: l =>
    match firstBy before l with
    | none => some a
    | some b => some (if before b a then b else a)

/-- The first member of the WAIT_SLOT set. -/
def firstWaiting (s : Part) : Option EvapId := firstBy (waitsBefore s) ((List.finRange 16).filter (inWaitSet s))

/-- A member takes a slot (R160). -/
def takeSlot (now maxHeat : Nat) (k : Evap) : Evap :=
  { k with sub := .heating, heatStart := some now, heatDl := some (addTime now (maxHeat - k.heatUsed)) }

/-- The zone of the batch an evaporator is a member of. -/
def batchZone (s : Part) (e : EvapId) : ZoneId :=
  match batchOf s e with
  | some (z, _) => z
  | none => evapZone s e

/-- A member takes an outcome; its heating time, if it heats, is added up to `upTo`, and its sub-state becomes HEAT_DONE (R162, R163). -/
def giveOutcome (e : EvapId) (o : MemberOutcome) (upTo : Nat) (s : Part) : Part :=
  modBatch (batchZone s e) (setOutcome e o)
    (modEvap e (fun k => { (if k.sub = .heating then stopHeat upTo k else k) with sub := .heatDone }) s)

/-- The first member of the set takes a slot, or ends its heat where its maximum is used (R160). -/
def serveWaiting (e : EvapId) (s : Part) : Part :=
  if s.cfg.defrost.maxHeat ≤ (s.evaps.get e).heatUsed then
    leaveHeatCheck (batchZone s e) (raiseAlarm .defrostIncomplete (.evap e) (giveOutcome e .time s.time s))
  else modEvap e (takeSlot s.time s.cfg.defrost.maxHeat) s

/-- The heat slot arbiter (R160). Each round takes one member out of the set, so 16 rounds empty it. -/
def arbiterRounds : Nat → Part → Part
  | 0, s => s
  | n + 1, s =>
    if heatingCount s < s.heatInForce then
      match firstWaiting s with
      | some e => arbiterRounds n (serveWaiting e s)
      | none => s
    else s

def arbiter (s : Part) : Part := arbiterRounds 16 s

/-- A member in HEATING or WAIT_SLOT ends its heat: outcome, arbiter, and the check of R164 (R162). -/
def endHeat (e : EvapId) (o : MemberOutcome) (s : Part) : Part :=
  leaveHeatCheck (batchZone s e) (arbiter (giveOutcome e o s.time s))

/-- The batch enters HEAT (R159). -/
def enterHeat (z : ZoneId) (s : Part) : Part :=
  match s.batches.get z with
  | none => s
  | some b =>
    let t := modBatch z (fun b => { b with phase := .heat, deadline := none }) s
    let t := forList b.members (fun m t =>
      onlyIf m.outcome.isNone (modEvap m.evap fun k => { k with sub := .waitSlot, heatUsed := 0 }) t) t
    leaveHeatCheck z (arbiter t)

/-- The room-warm cut at a zone temperature event (R163). DESIGN CHOICE (notes/assumptions/17.md): the arbiter that R160 asks for runs once,
after every effect that R163 lists. -/
def roomWarmCut (z : ZoneId) (s : Part) : Part :=
  match s.batches.get z with
  | none => s
  | some b =>
    let k := s.zones.get z
    if b.phase = .heat ∧ k.stale = false ∧ raisedLimit (s.cfg.zones.get z) < k.temp then
      let t := forList b.members (fun m t => onlyIf m.outcome.isNone (giveOutcome m.evap .cut s.time) t) s
      leaveHeatCheck z (arbiter (raiseAlarm .defrostRoomWarm (.zone z) t))
    else s

/-! ### Suspension and resume -/

/-- The defrost question answered proceed-suspended: the batch is suspended and the freed slots offered (R167). -/
def suspendBatch (z : ZoneId) (s : Part) : Part := arbiter (suspendMembers z s)

/-- The resume check (R168). -/
def resumeCheck (z : ZoneId) (s : Part) : Part :=
  match s.batches.get z with
  | none => s
  | some b =>
    if b.suspended ∧ zoneDoorsIdle s z ∧ ((s.zones.get z).mode ≠ .bulk ∨ b.withdrawn) then
      arbiter (modBatch z clearSuspension s)
    else s

/-- A zone's mode becomes OPEN, at the Defrost Scheduler: the batch rule and the resume check (R154, R168). DESIGN CHOICE
(notes/assumptions/19.md): the resume check is made at every change to OPEN, that of ZONE RELEASE (R54) among them, where R168 cites R51
alone. -/
def defrostModeOpen (z : ZoneId) (s : Part) : Part := resumeCheck z (batchRule z s)

/-- Is the zone's batch suspended? -/
def batchSuspended (s : Part) (z : ZoneId) : Bool :=
  match s.batches.get z with
  | some b => b.suspended
  | none => false

/-- A change from BULK or BULK_PENDING to OPEN (R51): its deliveries, BULK_REVOKED on a revocation, and the ZONE_MODE notice (R57). The
two deliveries are unordered; only a suspended batch, whose resume reads portal states, can tell their order. -/
def bulkToOpen (z : ZoneId) (rc : Option RevokeCause) (c : ModeCause) (s : Part) : Part :=
  let k := s.zones.get z
  let t := eitherOrder (batchSuspended s z) (portalsLeaveBulk z) (defrostModeOpen z) (setMode z .open none s)
  let t := match rc with
    | some r => notify .warehouse (.bulkRevoked z r k.bulkDl) t
    | none => t
  modeNotice z k.mode c t

/-! ### Heat slots in force (R160, R161) -/

/-- Order of taking slots back: the most recent heat start first, ties to the higher number. -/
def takenBefore (s : Part) (a b : EvapId) : Bool :=
  let ta := (s.evaps.get a).heatStart.getD 0
  let tb := (s.evaps.get b).heatStart.getD 0
  tb < ta || (ta == tb && b.val < a.val)

def lastStarted (s : Part) : Option EvapId :=
  firstBy (takenBefore s) ((List.finRange 16).filter fun e => (s.evaps.get e).sub == .heating)

/-- Members are taken back until the number in HEATING is within the count in force. -/
def takeBack : Nat → Part → Part
  | 0, s => s
  | n + 1, s =>
    if s.heatInForce < heatingCount s then
      match lastStarted s with
      | some e => takeBack n (modEvap e (backToWait s.time) s)
      | none => s
    else s

/-- The count in force changes (R160). -/
def setInForce (n : Nat) (s : Part) : Part := arbiter (takeBack 16 { s with heatInForce := n })

/-! ### Frost (R48, R150) -/

/-- The counted evaporators of a zone (R150 step 1). -/
def counted (s : Part) (z : ZoneId) : List EvapId :=
  let all := (List.finRange 16).filter (evapOf s z)
  let outside := all.filter fun e => !(pastGather s z && (match s.batches.get z with | some b => isMember b e | none => false))
  if outside.isEmpty then all else outside

/-- The list started at the first entry at or after the pointer, with wrap (R48). -/
def rotated (p : EvapId) (l : List EvapId) : List EvapId :=
  l.filter (fun e => p.val ≤ e.val) ++ l.filter (fun e => e.val < p.val)

/-- The share of the `i`-th evaporator of the rotated list. -/
def shareOf (a n i : Nat) : Nat := a / n + if i < a % n then 1 else 0

/-- One share: F, held at its bound, and the trigger (R150 steps 3 and 4). -/
def addFrost (n : Nat) (k : Evap) : Evap := { k with frost := min (k.frost + n) maxFrost }

/-- `A` units of a settlement divided among the evaporators of a zone (R150). -/
def divideFrost (z : ZoneId) (a : Nat) (s : Part) : Part :=
  let r := rotated (s.zones.get z).pointer (counted s z)
  let n := r.length
  if n = 0 then s
  else
    let s := forList r.zipIdx (fun x => modEvap x.1 (addFrost (shareOf a n x.2))) s
    let s :=
      if a % n = 0 then s
      else modZone z (fun k => { k with pointer := r.getD (a % n) (r.headD 0) }) s
    let due := (List.finRange 16).filter fun e =>
      r.contains e && (s.evaps.get e).sub == .idle && decide ((s.cfg.evaps.get e).trigger ≤ (s.evaps.get e).frost)
    forList due enterDemand s

/-! ### Frost settlement of open time (R87, R88) -/

/-- A settlement at a dock door of the open time up to `upTo`; the new settle-from is the caller's. DESIGN CHOICE (notes/assumptions/27.md):
an `upTo` before the settle-from, as at a loss or a removal from service after an interval expiry that followed the last report (R34,
R87), settles 0 seconds. -/
def settleDock (d : DoorId) (upTo : Nat) (s : Part) : Part :=
  let k := s.docks.get d
  match k.settleFrom with
  | none => s
  | some t =>
    let total := (upTo - t) * (s.cfg.docks.get d).weight + k.carry
    let s := modDock d (fun k => { k with carry := total % 10 }) s
    onlyIf (0 < total / 10) (divideFrost 0 (total / 10)) s

/-- A settlement at a portal, like `settleDock` (notes/assumptions/27.md). -/
def settlePortal (q : PortalId) (upTo : Nat) (s : Part) : Part :=
  let k := s.portals.get q
  match k.settleFrom with
  | none => s
  | some t =>
    let total := (upTo - t) * (s.cfg.portals.get q).weight + k.carry
    let s := modPortal q (fun k => { k with carry := total % 10 }) s
    onlyIf (0 < total / 10) (divideFrost (portalZone s q) (total / 10)) s

/-- The settlement of a zone's doors at its exposure interval expiry (R47, R87). -/
def settleZoneDoors (z : ZoneId) (s : Part) : Part :=
  if z = 0 then
    forEach (n := 24) (fun d s =>
      onlyIf (dockInService s d && (s.docks.get d).settleFrom.isSome)
        (fun s => modDock d (fun k => { k with settleFrom := some s.time }) (settleDock d s.time s)) s) s
  else
    forEach (n := 12) (fun q s =>
      onlyIf (portalOf s z q && (s.portals.get q).settleFrom.isSome)
        (fun s => modPortal q (fun k => { k with settleFrom := some s.time }) (settlePortal q s.time s)) s) s

/-! ### Grant requests -/

/-- A request for a dock door grant that is not absorbed (R74, R75): the verdict and what it does. A deferred request is stored with its
origin. -/
def askDock (d : DoorId) (o : Origin) (s : Part) : Verdict × Part :=
  let v := dockVerdict s d
  (v, match v with
    | .refused _ => modDock d (fun k => { k with refusal := true }) s
    | .granted sus => trackDock d (grantDock d) (onlyIf sus (suspendBatch 0) s)
    | .deferred => trackDock d (modDock d fun k => { k with pending := some ⟨o, s.time⟩ }) s)

/-- An approach event at a portal (R83). -/
def approach (q : PortalId) (s : Part) : Part :=
  let k := s.portals.get q
  let z := portalZone s q
  let restart := modPortal q (fun k => { k with grantDl := some (addTime s.time (s.cfg.portals.get q).grantTime) }) s
  let ask :=
    match portalVerdict s q with
    | .refused _ => s
    | .granted sus => trackPortal q (grantPortal q) (onlyIf sus (suspendBatch z) s)
    | .deferred =>
      trackPortal q (modPortal q fun k => { k with state := .deferred, pending := some ⟨.approach, s.time⟩ }) s
  match k.state with
  | .granted => restart
  | .open => if k.openCommand then restart else ask
  | .closed => ask
  | .held | .deferred | .blocked | .fault | .lockedOut => s

/-- A pass event at a dock door (R79). -/
def dockPassed (d : DoorId) (s : Part) : Part :=
  let limit := (s.cfg.handling.get d).openLimit
  onlyIf ((s.docks.get d).state == .open)
    (modDock d fun k => { k with openDl := if limit = 0 then none else some (addTime s.time limit), extensions := 0 }) s

/-- A pass processed at a portal restarts its grant deadline (R83). -/
def portalPassed (q : PortalId) (s : Part) : Part :=
  let k := s.portals.get q
  onlyIf (k.state == .granted || (k.state == .open && k.openCommand))
    (modPortal q fun k => { k with grantDl := some (addTime s.time (s.cfg.portals.get q).grantTime) }) s

end Sys2Proof.Machine
end

