-- ==== Sys2Proof/Machine/TrackerOps.lean ====
section
/-! DEFINITION. Shared operations of the Exposure Unit (R135 to R140) and of the Move Tracker: move ends (R115), passes (R122 to R125),
manifest slots (R92, R97, R100), routes (R104, R105) and the trailer end (R70, R127, R128). -/

namespace Sys2Proof.Machine

open Sys2Proof

/-! ### The pallet table -/

/-- The record of an identifier is changed. -/
def modPallet (id : Nat) (f : Pallet → Pallet) (s : Part) : Part :=
  { s with pallets := s.pallets.map fun p => if p.id = id then f p else p }

/-- A record enters the table, which is kept in ascending identifier. -/
def insertPallet (p : Pallet) : List Pallet → List Pallet
  | [] => [p]
  | q :: l => if p.id < q.id then p :: q :: l else q :: insertPallet p l

/-- A record leaves the table. -/
def dropPallet (id : Nat) (s : Part) : Part := { s with pallets := s.pallets.filter fun p => p.id != id }

/-- Identifiers of the records located at `l`, ascending. -/
def idsAt (s : Part) (l : Loc) : List Nat := (s.pallets.filter fun p => p.loc == l).map (·.id)

/-! ### Moves -/

/-- A move ends (R115): the reservation, the sub-record, the status, the notice if the end has one, and the drain checks. The notice and
the drain checks are unordered where a drain completes. -/
def endMove (id : Nat) (note : Option (MoveEnd → NoticeBody)) (s : Part) : Part :=
  match findPallet s id with
  | none => s
  | some p =>
    match p.move with
    | none => s
    | some m =>
      let t := if m.reserved then { s with credits := s.credits - 1 } else s
      let t := modPallet id (fun p => { p with move := none, status := restingStatus s p.loc }) t
      let zs := pathZones m.origin m.dest
      let drains : Part → Part := fun t => forList zs drainCheck t
      match note with
      | none => drains t
      | some f =>
        let say : Part → Part := notify .warehouse (f ⟨id, m.origin, m.dest, m.granted, p.loc⟩)
        eitherOrder (zs.any (drainDue t)) say drains t

/-! ### Exposure updates -/

/-- The whole of the fraction: 1,000,000 millionths (R135). -/
def million : Nat := 1000000

/-- New estimate and remainder (R135). -/
def estimateStep (air : Int) (rate dt : Nat) (est rem : Int) : Int × Int :=
  let w := min (dt * rate) million
  if w = million then (10 * air, 0)
  else
    let p := (10 * air - est) * w + rem
    let q := Int.tdiv p million
    (est + q, p - q * million)

/-- New exposure (R136). -/
def exposureStep (critical est : Int) (dt e : Nat) : Nat :=
  if 0 < est - 10 * critical then min (e + (est - 10 * critical).toNat * dt) maxExposure else e

/-- A class limit in stored units (R131). -/
def storedLimit (n : Nat) : Nat := n * 6000

/-- The warn check (R137). -/
def warnCheck (id : Nat) (s : Part) : Part :=
  match findPallet s id with
  | none => s
  | some p =>
    let w := (s.cfg.classes.get p.cls).warnLimit
    if 0 < w ∧ storedLimit w ≤ p.exposure ∧ ¬ p.warned then
      raiseAlarm .palletWarn (.pallet id)
        (notify .warehouse (.palletWarn id p.loc p.cls (reported p.exposure) w) (modPallet id (fun p => { p with warned := true }) s))
    else s

/-- Does the pallet hold a move toward a dock door? -/
def movesToDoor (p : Pallet) : Bool :=
  match p.move with
  | some m => (match m.dest with | .door _ => true | _ => false)
  | none => false

/-- The hold check and the end of a move toward a door (R138, R139). -/
def holdCheck (id : Nat) (s : Part) : Part :=
  match findPallet s id with
  | none => s
  | some p =>
    let h := (s.cfg.classes.get p.cls).holdLimit
    if 0 < h ∧ storedLimit h ≤ p.exposure ∧ ¬ p.quarantined then
      let t := modPallet id (fun p => { p with quarantined := true }) s
      let t := notify .warehouse (.palletHold id p.loc p.status p.cls (reported p.exposure) h) t
      let t := raiseAlarm .palletHold (.pallet id) t
      onlyIf (movesToDoor p) (endMove id (some (NoticeBody.moveCancelled · .quarantine))) t
    else s

/-- The hall dwell check (R140). -/
def dwellCheck (id : Nat) (s : Part) : Part :=
  match findPallet s id with
  | none => s
  | some p =>
    if p.loc = .hall ∧ p.route.dwell ≠ 0 ∧ ¬ p.dwellRaised ∧ p.route.dwell < s.time - p.hallEntry.getD s.time then
      raiseAlarm .hallDwell (.pallet id) (modPallet id (fun p => { p with dwellRaised := true }) s)
    else s

/-- The thermal fields after an update with `dt` above 0 (R135, R136). -/
def updatedPallet (s : Part) (p : Pallet) : Pallet :=
  let dt := s.time - p.updated
  let c := s.cfg.classes.get p.cls
  let n := estimateStep (airTemp s p.loc) c.rate dt p.estimate p.remainder
  { p with
    estimate := n.1, remainder := n.2, exposure := exposureStep c.critical n.1 dt p.exposure, updated := s.time }

/-- An update of a pallet (R135 to R140). -/
def updatePallet (id : Nat) (s : Part) : Part :=
  match findPallet s id with
  | none => s
  | some p =>
    if s.time - p.updated = 0 then s
    else dwellCheck id (holdCheck id (warnCheck id (modPallet id (fun _ => updatedPallet s p) s)))

/-- The updates of an interval expiry, in ascending identifier (R133). -/
def updateAt (l : Loc) (s : Part) : Part := forList (idsAt s l) updatePallet s

/-- The restart settlement of every pallet (R143). -/
def updateAll (s : Part) : Part := forList (s.pallets.map (·.id)) updatePallet s

/-! ### Passes -/

/-- Expected origin and new location of a pass (R123). -/
def passLocs (s : Part) (door : DoorRef) (dir : Direction) : Loc × Loc :=
  match door, dir with
  | .dock d, .inward => (.trailer d, .hall)
  | .dock d, .outward => (.hall, .trailer d)
  | .portal q, .inward => (.hall, .zone (portalZone s q))
  | .portal q, .outward => (.zone (portalZone s q), .hall)

/-- Does the move's path use the door (R110)? -/
def moveUses (s : Part) (m : Move) : DoorRef → Bool
  | .dock d => moveUsesDock m d
  | .portal q => moveUsesPortal s m q

/-- Step 3 of a pass: the location and LOCATION_JUMP (R123). -/
def passLocation (id : Nat) (door : DoorRef) (dir : Direction) (s : Part) : Part :=
  match findPallet s id with
  | none => s
  | some p =>
    let (expected, new) := passLocs s door dir
    onlyIf (p.loc != expected) (notify .warehouse (.locationJump id door dir p.loc new))
      (modPallet id (fun p => { p with loc := new }) s)

/-- Step 4 of a pass: the move and the status (R124). -/
def passMove (id : Nat) (door : DoorRef) (dir : Direction) (s : Part) : Part :=
  match findPallet s id with
  | none => s
  | some p =>
    match p.move with
    | none =>
      notify .warehouse (.passUnplanned id door dir p.loc) (modPallet id (fun p => { p with status := restingStatus s p.loc }) s)
    | some m =>
      if p.loc = destOf m.dest then endMove id (some .moveDone) s
      else if moveUses s m door then s
      else notify .warehouse (.passOffPath id door dir p.loc m.dest) s

/-- Step 5 of a pass: hall time and credits (R125), from the location before. -/
def passHall (id : Nat) (old : Loc) (s : Part) : Part :=
  match findPallet s id with
  | none => s
  | some p =>
    if p.loc = old then s
    else if p.loc = .hall then
      let reserved := match p.move with | some m => m.reserved | none => false
      let t := modPallet id (fun p => { p with
        hallEntry := some s.time, dwellRaised := false, move := p.move.map fun m => { m with reserved := false } }) s
      if reserved then t else { t with credits := t.credits + 1 }
    else if old = .hall then
      { modPallet id (fun p => { p with hallEntry := none, dwellRaised := false }) s with credits := s.credits - 1 }
    else s

/-- Step 6 of a pass: the Door Controller and the drain checks (R122). Two drains that both complete are unordered. -/
def passHandOn (door : DoorRef) (s : Part) : Part :=
  match door with
  | .dock d => drainCheck 0 (dockPassed d s)
  | .portal q =>
    let z := portalZone s q
    let t := portalPassed q s
    eitherOrder (drainDue t 0 && drainDue t z) (drainCheck 0) (drainCheck z) t

/-- A pass (R122). -/
def processPass (door : DoorRef) (x : Pass) (s : Part) : Part :=
  match findPallet s x.id with
  | none => passHandOn door (notify .warehouse (.unknownPallet x.id x.dir door) s)
  | some p =>
    passHandOn door
      (passHall x.id p.loc (passMove x.id door x.dir (passLocation x.id door x.dir (updatePallet x.id s))))

/-! ### Manifest slots -/

/-- A slot changes; a change of its state moves the door's revision once (R92). -/
def changeSlot (d : DoorId) (f : Slot → Slot) (s : Part) : Part :=
  let t := modSlot d f s
  onlyIf ((s.slots.get d).state != (t.slots.get d).state) (bumpDock d) t

/-- The slot returns to EMPTY (R100, R101). -/
def emptySlotAt (d : DoorId) (s : Part) : Part :=
  onlyIf ((s.slots.get d).state != .empty) (changeSlot d fun _ => emptySlot) s

/-- Entry to LOAD_FAULT (R97). -/
def faultSlot (d : DoorId) (c : LoadCause) (detail : Nat) (s : Part) : Part :=
  let t := changeSlot d (fun k => { k with state := .loadFault, fault := some ⟨c, detail, s.time⟩, deadline := none }) s
  notify .warehouse (.manifestFault d (s.docks.get d).trailer c detail (s.slots.get d).entries.length) t

/-- A valid rule with the given key (R104). -/
def ruleWith (s : Part) (k : Option Nat) (c : Option ClassId) : Option RuleId :=
  (List.finRange 32).find? fun i =>
    let r := s.cfg.rules.get i
    r.valid && r.consignee == k && r.cls == c

/-- The first of the options that is present. -/
def firstSome {α : Type} : List (Option α) → Option α
  | [] => none
  | some a :: _ => some a
  | none :: l => firstSome l

/-- The route snapshot of an entry (R104, R105). -/
def routeFor (s : Part) (consignee : Nat) (c : ClassId) : Route :=
  let g := s.cfg.staging
  let zoneOf (a : Action) : ZoneId := match a with | .quarantine z => z | _ => g.quarantineZone
  match firstSome [ruleWith s (some consignee) (some c), ruleWith s (some consignee) none, ruleWith s none (some c)] with
  | some i =>
    let r := s.cfg.rules.get i
    ⟨r.action, r.dwell, zoneOf r.action, some i⟩
  | none => ⟨g.defaultAction, g.defaultDwell, zoneOf g.defaultAction, none⟩

/-- The record of an entry at a commit (R99). -/
def committedPallet (s : Part) (d : DoorId) (e : Entry) : Pallet :=
  { id := e.id, loc := .trailer d, status := .waiting, consignee := e.consignee, cls := e.cls
    route := routeFor s e.consignee e.cls, hallEntry := none, dwellRaised := false, move := none
    estimate := e.temp * 10, remainder := 0, updated := s.time, exposure := 0, warned := false, quarantined := false }

/-! ### Trailer end -/

/-- The list cut into parts of 36, one empty part for an empty list (R128). `fuel` bounds the number of parts. -/
def leftChunks : Nat → List LeftEntry → List (List LeftEntry)
  | 0, l => [l]
  | n + 1, l => if l.length ≤ partSize then [l] else l.take partSize :: leftChunks n (l.drop partSize)

/-- The parts of a DEPARTURE or TRAILER_LEFT (R128). -/
def leftParts (d : DoorId) (k : Dock) (time : Nat) (es : List LeftEntry) : List LeftPart :=
  let cs := leftChunks es.length es
  cs.zipIdx.map fun x => ⟨d, k.trailer, k.returnMark, time, x.2 + 1, cs.length, x.1⟩

/-- A record on the trailer is settled, its move ended and the record removed; its entry is added to the list (R127 step 2). -/
def leaveOnTrailer (x : Part × List LeftEntry) (id : Nat) : Part × List LeftEntry :=
  let t := updatePallet id x.1
  let es := match findPallet t id with
    | some p => x.2 ++ [⟨id, reported p.exposure, p.quarantined⟩]
    | none => x.2
  (dropPallet id (endMove id none t), es)

/-- Identifiers of the moves in flight toward a dock door, ascending. -/
def idsMovingTo (s : Part) (d : DoorId) : List Nat :=
  (s.pallets.filter fun p => match p.move with | some m => m.dest == .door d | none => false).map (·.id)

/-- The trailer-ended event at the Move Tracker (R127, R128). -/
def trailerEnded (d : DoorId) (s : Part) : Part :=
  let k := s.docks.get d
  let s := forList (idsMovingTo s d) (fun id => endMove id (some (NoticeBody.moveCancelled · .trailerGone))) s
  let (s, es) := (idsAt s (.trailer d)).foldl leaveOnTrailer (s, [])
  let parts := leftParts d k s.time es
  let s :=
    if k.claim = .outbound then forList parts (fun p => notify .warehouse (.departure p)) s
    else if es.isEmpty then s
    else
      onlyIf (!k.returnMark) (raiseAlarm .trailerLeftLoaded (.door (.dock d)))
        (forList parts (fun p => notify .warehouse (.trailerLeft p)) s)
  emptySlotAt d s

/-- What a dock door does about its entry to VACANT (R70): the trailer-ended event, then its own fields. -/
def finishVacant (d : DoorId) (s : Part) : Part :=
  endPendingDock d .cancelled
    (modDock d (fun k => { k with
      claim := if k.claim = .plantHold then .plantHold else .none
      trailer := none, returnMark := false, refusal := false, sealOut := .deflate }) (trailerEnded d s))

end Sys2Proof.Machine
end

