-- ==== Sys2Proof/Machine/LoopOps.lean ====
section
/-! DEFINITION. Shared operations of the Field Loop Controller and of the blocks it delivers to: accounting (R21, R22), station lost and
restored (R34, R67, R170, R171), probe events (R38, R40, R43), door reports (R61, R62, R68, R82, R87) and evaporator reports
(R149, R162, R164, R171). -/

namespace Sys2Proof.Machine

open Sys2Proof

/-! ### Zones: recompute (R40, R43) -/

/-- A fresh reading of an active probe of the zone. -/
def freshReading (s : Part) (z : ZoneId) (t : ProbeId) : Option Int :=
  let c := s.cfg.probes.get t
  let k := s.probes.get t
  if c.inService && !c.lockout && c.zone == some z then
    match k.last, k.freshUntil with
    | some x, some u => if s.time < u then some x else none
    | _, _ => none
  else none

def highest : List Int → Option Int
  | [] => none
  | x :: l =>
    match highest l with
    | none => some x
    | some y => some (max x y)

/-- The recompute itself (R40). -/
def recomputeTemp (z : ZoneId) (s : Part) : Part :=
  let k := s.zones.get z
  match highest ((List.finRange 24).filterMap (freshReading s z)) with
  | some x =>
    onlyIf k.stale (endCondition .zoneStale (.zone z)) (modZone z (fun k => { k with temp := x, stale := false }) s)
  | none =>
    onlyIf (!k.stale && k.holdOff.isNone) (raiseAlarm .zoneStale (.zone z)) (modZone z (fun k => { k with stale := true }) s)

/-- A recompute and its hand-on (R40, R43). A zone out of service is not recomputed (R38). Neither of the two hand-ons waits for the
other; only with an alarm delay of 0, where both may raise an alarm, can their order be told. -/
def recompute (z : ZoneId) (s : Part) : Part :=
  if zoneInService s z then
    let t := recomputeTemp z s
    if (t.batches.get z).isSome then eitherOrder ((t.cfg.zones.get z).alarmDelay == 0) (warmEvaluate z) (roomWarmCut z) t
    else warmEvaluate z t
  else s

/-- The recompute of the zone a probe names, if any. -/
def recomputeOpt (z : Option ZoneId) (s : Part) : Part :=
  match z with
  | some z => recompute z s
  | none => s

/-- A probe event (R38). `r` is the clamped temperature, or none for the mark FAULT. -/
def probeEvent (t : ProbeId) (r : Option Int) (s : Part) : Part :=
  let z := (s.cfg.probes.get t).zone
  let s := match r with
    | some x =>
      endCondition .probeFault (.probe t)
        (match z with
         | some z => modProbe t (fun _ => ⟨some x, some (addTime s.time (s.cfg.zones.get z).staleTime), true⟩) s
         | none => s)
    | none => raiseAlarm .probeFault (.probe t) (modProbe t (fun _ => ⟨none, none, false⟩) s)
  recomputeOpt z s

/-! ### Dock door reports -/

/-- Open time after a report (R87). -/
def accrueDock (d : DoorId) (open_ : Bool) (s : Part) : Part :=
  match (s.docks.get d).settleFrom, open_ with
  | none, true => modDock d (fun k => { k with settleFrom := some s.time }) s
  | some _, false => modDock d (fun k => { k with settleFrom := none }) (settleDock d s.time s)
  | _, _ => s

def accruePortal (q : PortalId) (open_ : Bool) (s : Part) : Part :=
  match (s.portals.get q).settleFrom, open_ with
  | none, true => modPortal q (fun k => { k with settleFrom := some s.time }) s
  | some _, false => modPortal q (fun k => { k with settleFrom := none }) (settlePortal q s.time s)
  | _, _ => s

/-- The state and position handed to the Zone Supervisor and the Defrost Scheduler (R53, R62, R157, R168). -/
def handOn (z : ZoneId) (s : Part) : Part := resumeCheck z (closingCheck z (drainCheck z s))

/-- The report as the record stores it. -/
def dockLastOf (r : DockReport) (time : Nat) : DockLast := ⟨r.presence, r.position, r.sealState, r.temp, time⟩

/-- A report that contradicts itself: presence no with the door not closed (R62 row 1, R68). -/
def contradictory (r : DockReport) : Bool := !r.presence && r.position.isOpen

/-- Does a report equal the last one in presence, position and seal (R68)? -/
def sameAsLast (k : Dock) (r : DockReport) : Bool :=
  match k.last with
  | some l => l.presence == r.presence && l.position == r.position && l.sealState == r.sealState
  | none => false

/-- The consistent count after a report in FAULT (R68). -/
def consistentAfter (k : Dock) (r : DockReport) : Nat :=
  if contradictory r then 0 else if sameAsLast k r then satInc 2 k.consistent else 1

/-- A dock door takes its state from a report (R61): one step of the revision, the trailer end of VACANT, the alarm of the last row. -/
def takeDockState (d : DoorId) (r : DockReport) (s : Part) : Part :=
  let t := modDock d (takeDock s.time r s.time) s
  let t := match dockTaken r with
    | .vacant => finishVacant d t
    | .fault => raiseAlarm .doorFault (.door (.dock d)) t
    | _ => t
  bumpDock d t

/-- A door report is stored as the door's last report (R62, R68, R69). -/
def storeDockReport (d : DoorId) (r : DockReport) (s : Part) : Part :=
  modDock d (fun k => { k with last := some (dockLastOf r s.time), heard := true }) s

def storePortalReport (q : PortalId) (pos : Position) (s : Part) : Part :=
  modPortal q (fun k => { k with last := some ⟨pos, s.time⟩, heard := true }) s

/-- A dock door in FAULT meets a report (R61, R68). DEDUCED (notes/assumptions/12.md): a door with first report pending whose stored lockout is
set stores the report and enters LOCKED_OUT, in place of the state the report would give. DESIGN CHOICE (notes/assumptions/17.md): at a
recovery the state is taken, with the trailer end of VACANT, before the condition of DOOR_FAULT ends. -/
def dockFaultReport (d : DoorId) (r : DockReport) (s : Part) : Part :=
  let k := s.docks.get d
  if k.firstPending && (s.cfg.docks.get d).lockout then lockOutDock d (storeDockReport d r s)
  else if k.firstPending then takeDockState d r s
  else
    let n := consistentAfter k r
    let t := modDock d (fun k => { k with consistent := n, last := some (dockLastOf r s.time), heard := true }) s
    if n = 2 then endCondition .doorFault (.door (.dock d)) (takeDockState d r t) else t

/-- States of row 3 of R62. -/
def shutState : DockState → Bool
  | .vacant | .arrived | .inflating | .sealed | .releasing | .sealFault => true
  | .opening | .open | .closing | .breach | .fault | .lockedOut => false

/-- States of row 4 of R62. -/
def sealedState : DockState → Bool
  | .sealed | .opening | .open | .closing => true
  | .vacant | .arrived | .inflating | .releasing | .breach | .sealFault | .fault | .lockedOut => false

def lastProven (k : Dock) : Bool :=
  match k.last with
  | some l => l.sealState == .proven
  | none => false

/-- The first row of R62 that applies, 0 for none. -/
def dockRow (k : Dock) (r : DockReport) : Nat :=
  if contradictory r then 1
  else if !r.presence && r.position == .closed && k.state != .vacant then 2
  else if r.position.isOpen && shutState k.state then 3
  else if r.sealState != .proven && lastProven k && sealedState k.state then 4
  else if r.presence && k.state == .vacant then 5
  else if r.sealState == .proven && k.state == .inflating then 6
  else if r.sealState == .released && k.state == .releasing then 7
  else if r.position == .opened && k.state == .opening then 8
  else if r.position == .closed && (k.state == .open || k.state == .closing) then 9
  else if r.position == .closed && r.sealState == .released && k.state == .breach then 10
  else 0

/-- Entry to ARRIVED. -/
def enterArrived (k : Dock) : Dock := { dockEnter .arrived k with sealOut := .deflate }

/-- Entry to SEALED from INFLATING stores the capture (R63). -/
def enterSealedCaptured (now : Nat) (k : Dock) : Dock :=
  { dockEnter .sealed k with capture := some (now - k.captureStart.getD now), sealOut := .inflate }

/-- Seal proven in INFLATING (R63): the capture, and SEAL_SLOW from 75% of the limit on. -/
def sealProven (d : DoorId) (s : Part) : Part :=
  let limit := (s.cfg.docks.get d).sealLimit
  let t := trackDock d (modDock d (enterSealedCaptured s.time)) s
  let c := (t.docks.get d).capture.getD 0
  onlyIf (decide (limit * 3 ≤ c * 4)) (notify .plant (.sealSlow d c limit)) t

/-- A closed report in OPEN or CLOSING (R66). -/
def doorClosed (d : DoorId) (proven : Bool) (s : Part) : Part :=
  trackDock d (modDock d fun k =>
    if proven then { dockEnter .sealed k with sealOut := .inflate } else enterArrived k) s

/-- A seal loss (R65). -/
def breachDock (d : DoorId) (s : Part) : Part :=
  raiseAlarm .sealBreach (.door (.dock d))
    (trackDock d (fun s => endPendingDock d .cancelled (modDock d (enterBreach s.time) s)) s)

/-- The result of a row of R62. -/
def applyRow (d : DoorId) (r : DockReport) (row : Nat) (s : Part) : Part :=
  match row with
  | 1 => faultDock d s
  | 2 => trackDock d (fun s => finishVacant d (modDock d (dockEnter .vacant) s)) s
  | 3 => faultDock d s
  | 4 => breachDock d s
  | 5 => trackDock d (modDock d enterArrived) s
  | 6 => sealProven d s
  | 7 => trackDock d (modDock d enterArrived) s
  | 8 => trackDock d (modDock d (enterOpen s.time (s.cfg.handling.get d).openLimit)) s
  | 9 => doorClosed d (r.sealState == .proven) s
  | 10 => trackDock d (modDock d enterSealFault) s
  | _ => s

/-- The state part of a door report of a dock door, by its state (R61, R62, R68, R69). -/
def dockReportState (d : DoorId) (r : DockReport) (s : Part) : Part :=
  match (s.docks.get d).state with
  | .lockedOut => storeDockReport d r s
  | .fault => dockFaultReport d r s
  | _ => storeDockReport d r (applyRow d r (dockRow (s.docks.get d) r) s)

/-- A door report of a dock door. -/
def dockReportEvent (d : DoorId) (r : DockReport) (s : Part) : Part :=
  handOn 0 (accrueDock d r.position.isOpen (dockReportState d r s))

/-- An open button event (R74). -/
def buttonEvent (d : DoorId) (s : Part) : Part :=
  let k := s.docks.get d
  if (k.claim = .inbound ∨ k.claim = .outbound) ∧ k.pending.isNone then (askDock d .button s).2 else s

/-! ### Portal reports -/

/-- What a report does to a portal outside FAULT and LOCKED_OUT (R82). -/
def portalMoves (now : Nat) (pos : Position) (k : Portal) : Portal :=
  match k.state with
  | .granted => if pos = .opened then { k with state := .open, travelDl := none } else k
  | .open =>
    if pos = .closed then { k with state := .closed, openCommand := false, grantDl := none, travelDl := none } else k
  | .closed | .deferred | .blocked =>
    if pos = .closed then { k with travelDl := none }
    else if k.travelDl.isNone then { k with travelDl := some (addTime now travelTime) } else k
  | .held | .fault | .lockedOut => k

/-- A portal takes its state from a report delivered now (R82). Whether that report counts for R53 is a free value
(notes/assumptions/26.md). -/
def takePortalReported (q : PortalId) (s : Part) : Part :=
  modPortal q (fun k => { k with heard := Config.stateReportCounts }) (takePortal q s)

/-- A portal in FAULT meets a report (R68, R82); with a stored lockout and first report pending it enters LOCKED_OUT, as a dock door does. -/
def portalFaultReport (q : PortalId) (pos : Position) (s : Part) : Part :=
  let k := s.portals.get q
  let same := match k.last with | some l => l.position == pos | none => false
  let n := if same then satInc 2 k.consistent else 1
  let t := modPortal q (fun k => { k with consistent := n, last := some ⟨pos, s.time⟩, heard := true }) s
  if k.firstPending && (s.cfg.portals.get q).lockout then lockOutPortal q (storePortalReport q pos s)
  else if k.firstPending then takePortalReported q t
  else if n = 2 then endCondition .doorFault (.door (.portal q)) (takePortalReported q t)
  else t

def portalReportState (q : PortalId) (pos : Position) (s : Part) : Part :=
  match (s.portals.get q).state with
  | .lockedOut => storePortalReport q pos s
  | .fault => portalFaultReport q pos s
  | _ => trackPortal q (modPortal q (portalMoves s.time pos)) (storePortalReport q pos s)

/-- A door report of a portal. -/
def portalReportEvent (q : PortalId) (pos : Position) (s : Part) : Part :=
  handOn (portalZone s q) (accruePortal q pos.isOpen (portalReportState q pos s))

/-! ### Evaporators -/

/-- The evaporator enters FAULT. -/
def evapFault (e : EvapId) (c : FaultCause) (s : Part) : Part :=
  modEvap e (fun k => { k with sub := .fault, faultCause := some c }) s

/-- A batch in REFREEZE ends when every member not in FAULT has its fan started (R164). -/
def refreezeCheck (z : ZoneId) (s : Part) : Part :=
  match s.batches.get z with
  | none => s
  | some b =>
    if b.phase = .refreeze ∧ b.members.all fun m => m.fanStarted || (s.evaps.get m.evap).sub == .fault then endBatch z .complete s
    else s

/-- A member takes outcome LOST and enters FAULT; its heating time, if it heats, is added up to `upTo` (R170, R171). -/
def loseMember (e : EvapId) (c : FaultCause) (upTo : Nat) (s : Part) : Part :=
  evapFault e c
    (modBatch (batchZone s e) (setOutcome e .lost) (modEvap e (fun k => if k.sub = .heating then stopHeat upTo k else k) s))

/-- A member leaves a batch in GATHER; a batch left empty ends EMPTIED (R155, R165). -/
def leaveBatch (e : EvapId) (s : Part) : Part :=
  match batchOf s e with
  | none => s
  | some (z, b) =>
    let t := modBatch z (fun b => { b with members := b.members.filter fun m => m.evap != e }) s
    onlyIf (b.members.all fun m => m.evap == e) (endBatch z .emptied) t

/-- A station-lost event at an evaporator (R170), with the station's last report time. DESIGN CHOICE (notes/assumptions/17.md): a demand is
dropped before the other effects, so the end of DEFROST_OVERDUE's condition comes before DEFROST_ABORTED and before the end of a batch left
empty. DEDUCED (notes/assumptions/19.md): a member in FORCE_WAIT loses its demand too (R153). -/
def evapLost (e : EvapId) (upTo : Nat) (s : Part) : Part :=
  if (s.cfg.evaps.get e).lockout then s
  else
    let z := batchZone s e
    let waiting : Bool := match batchOf s e with | some (_, b) => b.phase == .forceWait | none => false
    let s := modEvap e (fun k => { k with noCurrent := 0, stuck := 0 }) s
    let lost (s : Part) : Part := raiseAlarm .defrostAborted (.evap e) (loseMember e .station upTo s)
    match (s.evaps.get e).sub with
    | .idle => evapFault e .station s
    | .demand => evapFault e .station (dropDemand e s)
    | .gather =>
      if waiting then lost (dropDemand e s)
      else leaveBatch e (evapFault e .station (dropDemand e s))
    | .pumpdown | .waitSlot => leaveHeatCheck z (lost s)
    | .heating => leaveHeatCheck z (arbiter (lost s))
    | .heatDone | .drip => evapFault e .station s
    | .refreeze => refreezeCheck z (evapFault e .station s)
    | .fault => s

/-- A station-restored event at an evaporator (R171). -/
def evapRestored (e : EvapId) (s : Part) : Part :=
  let k := s.evaps.get e
  if k.sub = .fault ∧ k.faultCause = some .station ∧ (batchOf s e).isNone then
    idleCheck e (modEvap e (fun k => { k with sub := .idle, faultCause := none }) s)
  else s

/-- The no-current check (R171). -/
def noCurrentCheck (e : EvapId) (heaterOn current : Bool) (s : Part) : Part :=
  let k := s.evaps.get e
  let n := if current then 0 else if heaterOn then satInc 2 k.noCurrent else k.noCurrent
  let t := modEvap e (fun k => { k with noCurrent := n }) s
  if heaterOn ∧ ¬ current ∧ n = 2 ∧ k.sub = .heating then
    leaveHeatCheck (batchZone s e) (arbiter (raiseAlarm .heaterFault (.evap e) (loseMember e .heater s.time t)))
  else t

/-- The stuck check (R171). -/
def stuckCheck (e : EvapId) (heaterOn current : Bool) (s : Part) : Part :=
  let k := s.evaps.get e
  let n := if current then (if heaterOn then k.stuck else satInc 255 k.stuck) else 0
  onlyIf (n == 2 && k.stuck == 1) (raiseAlarm .heaterStuck (.evap e)) (modEvap e (fun k => { k with stuck := n }) s)

/-- Temperature termination of a member in HEATING (R162). -/
def terminationCheck (e : EvapId) (coil : Option Int) (s : Part) : Part :=
  match coil with
  | some t => onlyIf ((s.evaps.get e).sub == .heating && decide (s.cfg.defrost.terminationTemp ≤ t)) (endHeat e .temp) s
  | none => s

/-- A member's fan started mark is set. -/
def startFan (e : EvapId) (b : Batch) : Batch :=
  { b with members := b.members.map fun m => if m.evap = e then { m with fanStarted := true } else m }

/-- Fan start of a member in REFREEZE (R164). -/
def fanCheck (e : EvapId) (coil : Option Int) (s : Part) : Part :=
  match coil with
  | some t =>
    onlyIf ((s.evaps.get e).sub == .refreeze && decide (t ≤ s.cfg.defrost.fanStartTemp))
      (fun s => refreezeCheck (batchZone s e) (modBatch (batchZone s e) (startFan e) s)) s
  | none => s

/-- An evaporator report (R149), with the heater field of the poll it answers. -/
def evapReportEvent (e : EvapId) (r : EvapReport) (heaterOn : Bool) (s : Part) : Part :=
  let s := modEvap e (fun k => { k with last := some r }) s
  let s := stuckCheck e heaterOn r.current (noCurrentCheck e heaterOn r.current s)
  fanCheck e r.coil (terminationCheck e r.coil s)

/-! ### Station lost and restored (R34) -/

/-- Station lost at a dock door: its open time is settled, and it faults unless locked out (R67, R87). -/
def dockLost (d : DoorId) (upTo : Nat) (s : Part) : Part :=
  let t := modDock d (fun k => { k with settleFrom := none }) (settleDock d upTo s)
  onlyIf ((s.docks.get d).state != .lockedOut) (faultDock d) t

def portalLost (q : PortalId) (upTo : Nat) (s : Part) : Part :=
  let t := modPortal q (fun k => { k with settleFrom := none }) (settlePortal q upTo s)
  onlyIf ((s.portals.get q).state != .lockedOut) (faultPortal q) t

/-- `f` of an element, if there is one. -/
def withSome {α : Type} (x : Option α) (f : α → Part → Part) (s : Part) : Part :=
  match x with
  | some a => f a s
  | none => s

def stationLost (a : StationId) (s : Part) : Part :=
  let t := (s.loop.stations.get a).lastReport.getD 0
  withSome (evapAt s a) (evapLost · t) (withSome (portalAt s a) (portalLost · t) (withSome (dockAt s a) (dockLost · t) s))

/-- Station restored: only the Defrost Scheduler acts on it; a door waits for the reports that follow. -/
def stationRestored (a : StationId) (s : Part) : Part := withSome (evapAt s a) evapRestored s

/-! ### Accounting (R21, R22) -/

/-- A poll is accounted as a miss. -/
def accountMiss (a : StationId) (s : Part) : Part :=
  let k := s.loop.stations.get a
  let n := satInc 255 k.miss
  let lost := k.link == .online && n == 3
  let t := modStation a (fun k => { k with
    good := 0, miss := n
    link := if lost then .offline else k.link
    sectionTaken := if lost then none else k.sectionTaken }) s
  let t := onlyIf (n == 3) (raiseAlarm .stationOffline (.station a)) t
  onlyIf lost (stationLost a) t

/-- A poll is accounted as a good report. -/
def accountGood (a : StationId) (s : Part) : Part :=
  let k := s.loop.stations.get a
  let n := satInc 255 k.good
  let up := k.link == .offline && decide (2 ≤ n)
  let t := modStation a (fun k => { k with
    miss := 0, good := n, lastReport := some s.time, link := if up then .online else k.link }) s
  onlyIf up (fun s => stationRestored a (endCondition .stationOffline (.station a) s)) t

/-- The window of the poll in flight ends. -/
def clearFlight (s : Part) : Part := { s with loop := { s.loop with inFlight := none } }

/-- The poll in flight is a miss; one to a station that left operation is not accounted (R19, R21). -/
def missInFlight (s : Part) : Part :=
  match s.loop.inFlight with
  | none => s
  | some f => if f.discard then clearFlight s else accountMiss f.addr (clearFlight s)

/-- A section that is not empty (R29). -/
def EventSection.nonEmpty (e : EventSection) : Bool := e.flag || !e.passes.isEmpty

/-- A section is taken from an ONLINE station (R29). -/
def takeSection (a : StationId) (e : EventSection) (s : Part) : Part :=
  onlyIf e.nonEmpty (modStation a fun k => { k with sectionTaken := some e.number }) s

/-- A report clamped (R28). -/
def clampTemp (t : Int) : Int := clampInt (-500) 500 t

/-- Passes to the Move Tracker, those of identifier 0 dropped (R25, R30). -/
def deliverPasses (door : DoorRef) (ps : List Pass) (s : Part) : Part :=
  forList (ps.filter fun x => x.id != 0) (processPass door) s

/-- The events of a DOCK report (R30). -/
def deliverDock (a : StationId) (r : DockReport) (s : Part) : Part :=
  withSome (dockAt s a) (fun d s =>
    let t := dockReportEvent d { r with temp := r.temp.map clampTemp } s
    let st := (t.docks.get d).state
    onlyIf (st != .fault && st != .lockedOut)
      (fun t => onlyIf r.events.flag (buttonEvent d) (deliverPasses (.dock d) r.events.passes t)) t) s

/-- The events of a PORTAL report (R31). -/
def deliverPortal (a : StationId) (r : PortalReport) (s : Part) : Part :=
  withSome (portalAt s a) (fun q s =>
    let t := portalReportEvent q r.position s
    let st := (t.portals.get q).state
    onlyIf (st != .fault && st != .lockedOut)
      (fun t => onlyIf r.events.flag (approach q) (deliverPasses (.portal q) r.events.passes t)) t) s

/-- The heater field of an image (R32). -/
def Image.heaterOn : Image → Bool
  | .evap _ _ h => h
  | .none | .dock _ _ _ | .portal _ | .probe => false

/-- The event of an EVAP report (R32). -/
def deliverEvap (a : StationId) (image : Image) (r : EvapReport) (s : Part) : Part :=
  withSome (evapAt s a) (fun e => evapReportEvent e { r with coil := r.coil.map clampTemp } image.heaterOn) s

/-- The reading of a channel entry (R33). -/
def ProbeEntry.reading (x : ProbeEntry) : Option Int :=
  match x.flag with
  | .ok => some (clampTemp x.temp)
  | .fault | .absent => none

/-- The events of a PROBE report, in ascending channel order (R33). -/
def deliverProbe (a : StationId) (r : Vector ProbeEntry 4) (s : Part) : Part :=
  forEach (n := 4) (fun ch s => withSome (probeAt s a ch) (fun t => probeEvent t (r.get ch).reading) s) s

/-- A report frame of a kind that passed the frame's own checks (R20): it is good when a poll to its address and of its kind is in
flight and its body reads. A report that answers no poll is discarded. -/
def goodReport {α : Type} (kind : StationKind) (a : StationId) (r : Option α) (deliver : Image → α → Part → Part) (s : Part) : Part :=
  match s.loop.inFlight with
  | none => s
  | some f =>
    if f.discard then clearFlight s
    else
      match r with
      | some x =>
        if f.addr = a ∧ (s.cfg.stations.get a).kind = kind then
          let t := accountGood a (clearFlight s)
          onlyIf ((t.loop.stations.get a).link == .online) (deliver f.image x) t
        else missInFlight s
      | none => missInFlight s

end Sys2Proof.Machine
end

