-- ==== Sys2Proof/Machine/PortOps.lean ====
section
/-! DEFINITION. Shared operations of the Master Ports: supervision and restore (R193 to R195), the steps that take a request (R185,
R186, R200) and silence (R194, R56, R76). -/

namespace Sys2Proof.Machine

open Sys2Proof

/-- The restore of a SILENT port (R195): its own fields are set by `renew`. -/
def restorePort (p : Port) (s : Part) : Part :=
  let t := endCondition .portSilent (.port p) (notify p.other (.portRestored p s.time) s)
  if p = .plant then setInForce t.heatCommanded t else t

/-- Step 1 of R185 for a valid request: the frame has left the receiver in HUNT, supervision is renewed and a SILENT port restored. -/
def renew (p : Port) (s : Part) : Part :=
  let t := modPort p (fun r => { r with
    receiver := .hunt, silent := false, lastRequest := some s.time, supervisionDl := some (addTime s.time (portInterval s p)) }) s
  onlyIf (s.port p).silent (restorePort p) t

/-- What a request's rule gives: the part after it, and the status and body of its response, or none where the response waits for a write
operation (R186). -/
abbrev Reply := Part × Option (Status × List Byte)

/-- A reply that changes nothing. -/
def refuse (st : Status) (s : Part) : Reply := (s, some (st, []))

/-- A reply with a status and a body. -/
def reply (st : Status) (body : List Byte) (s : Part) : Reply := (s, some (st, body))

/-- The reply is sent, or the request stays in service (R186, R187). -/
def answer (p : Port) (code : Nat) (tag : Byte) (r : Reply) : Part :=
  match r.2 with
  | some (st, body) => respond p code tag st body r.1
  | none => modPort p (fun x => { x with inService := some tag }) r.1

/-- A request is taken (R185): supervision, service, role, dispatch. `role` is the port the request table gives, none for either. -/
def serve (code : Nat) (role : Option Port) (p : Port) (tag : Byte) (h : Part → Reply) (s : Part) : Part :=
  if s.running then
    let t := renew p s
    if (t.port p).inService.isSome then respond p code tag .portBusy [] t
    else if role = some p.other then respond p code tag .notPermitted [] t
    else answer p code tag (h t)
  else s

/-- R200: the body is read, or refused BAD_REQUEST. -/
def withBody {α : Type} (x : Option α) (h : α → Part → Reply) (s : Part) : Reply :=
  match x with
  | some a => h a s
  | none => refuse .badRequest s

/-- R2: an element must be in service, or is refused UNKNOWN_ID. -/
def inServiceOr (b : Bool) (h : Part → Reply) (s : Part) : Reply := if b then h s else refuse .unknownId s

/-- Warehouse silence at the Zone Supervisor (R56). -/
def zonesSilent (s : Part) : Part :=
  forEach (n := 7) (fun z s =>
    onlyIf ((s.zones.get z).mode == .bulk || (s.zones.get z).mode == .bulkPending) (bulkToOpen z (some .portSilent) .revoked) s) s

/-- A pending request of origin OPEN DOOR. -/
def openDoorPending (k : Dock) : Bool :=
  match k.pending with
  | some r => r.origin == .openDoor
  | none => false

/-- Warehouse silence at the Door Controller (R76). -/
def doorsSilent (s : Part) : Part :=
  forEach (n := 24) (fun d s =>
    onlyIf (openDoorPending (s.docks.get d)) (trackDock d (endPendingDock d .cancelled)) s) s

/-- The two deliveries of warehouse silence, unordered where both do something (R194). -/
def warehouseSilent (s : Part) : Part :=
  let zones := (List.finRange 7).any fun z => (s.zones.get z).mode == .bulk || (s.zones.get z).mode == .bulkPending
  let doors := (List.finRange 24).any fun d => openDoorPending (s.docks.get d)
  eitherOrder (zones && doors) zonesSilent doorsSilent s

/-- A port becomes SILENT (R194). -/
def becomeSilent (p : Port) (s : Part) : Part :=
  let t := modPort p (fun r => { r with silent := true, supervisionDl := none }) s
  let t := raiseAlarm .portSilent (.port p) t
  let t := notify p.other (.portSilent p ((s.port p).lastRequest.getD Config.noRequestTime)) t
  match p with
  | .plant => setInForce t.cfg.defrost.fallbackSlots t
  | .warehouse => warehouseSilent t

end Sys2Proof.Machine
end

