-- ==== Sys2Proof/Machine/StoreOps.lean ====
section
/-! DEFINITION. Shared operations of the Settings Store: records of the working copy (R3, R4, R189), the checks of WRITE SETTINGS (R1, R5,
R6, R8, R103), what an accepted write does at each block (R9, R18, R37, R59, R91, R147), lockout (R10, R69), and write operations
(R11). -/

namespace Sys2Proof.Machine

open Sys2Proof

/-! ### Records of the working copy -/

/-- The record a key names, as the working copy holds it (R189). -/
def readCfg (c : Settings) : RecordKey → Record
  | .station a => .station a (c.stations.get a)
  | .zone z => .zone z (c.zones.get z)
  | .probe t => .probe t (c.probes.get t)
  | .dock d => .dock d (c.docks.get d)
  | .handling d => .handling d (c.handling.get d)
  | .portal q => .portal q (c.portals.get q)
  | .evap e => .evap e (c.evaps.get e)
  | .defrost => .defrost c.defrost
  | .staging => .staging c.staging
  | .cls k => .cls k (c.classes.get k)
  | .rule k => .rule k (c.rules.get k)
  | .port .plant => .port .plant c.portPlant
  | .port .warehouse => .port .warehouse c.portWarehouse

/-- The record replaces the working-copy record. -/
def writeCfg (r : Record) (c : Settings) : Settings :=
  match r with
  | .station a x => { c with stations := upd c.stations a fun _ => x }
  | .zone z x => { c with zones := upd c.zones z fun _ => x }
  | .probe t x => { c with probes := upd c.probes t fun _ => x }
  | .dock d x => { c with docks := upd c.docks d fun _ => x }
  | .handling d x => { c with handling := upd c.handling d fun _ => x }
  | .portal q x => { c with portals := upd c.portals q fun _ => x }
  | .evap e x => { c with evaps := upd c.evaps e fun _ => x }
  | .defrost x => { c with defrost := x }
  | .staging x => { c with staging := x }
  | .cls k x => { c with classes := upd c.classes k fun _ => x }
  | .rule k x => { c with rules := upd c.rules k fun _ => x }
  | .port .plant n => { c with portPlant := n }
  | .port .warehouse n => { c with portWarehouse := n }

def putCfg (r : Record) (s : Part) : Part := { s with cfg := writeCfg r s.cfg }

/-- May the port write the record (R3)? -/
def writableFrom (p : Port) : Record → Bool
  | .station .. | .zone .. | .probe .. | .dock .. | .portal .. | .evap .. | .defrost .. => p == .plant
  | .handling .. | .staging .. | .cls .. | .rule .. => p == .warehouse
  | .port q _ => q == p

/-- The record as written, with the stored lockout (R3). -/
def keepLockout (c : Settings) : Record → Record
  | .station a x => .station a { x with lockout := (c.stations.get a).lockout }
  | .probe t x => .probe t { x with lockout := (c.probes.get t).lockout }
  | .dock d x => .dock d { x with lockout := (c.docks.get d).lockout }
  | .portal q x => .portal q { x with lockout := (c.portals.get q).lockout }
  | .evap e x => .evap e { x with lockout := (c.evaps.get e).lockout }
  | .zone z x => .zone z x
  | .handling d x => .handling d x
  | .defrost x => .defrost x
  | .staging x => .staging x
  | .cls k x => .cls k x
  | .rule k x => .rule k x
  | .port p n => .port p n

/-! ### Clamping (R6) -/

def clampZone (c : ZoneCfg) : ZoneCfg :=
  let h := clampInt 5 200 c.highOffset
  { c with
    setpoint := clampInt (-400) 150 c.setpoint, highOffset := h, allowance := max h (clampInt 10 250 c.allowance)
    staleTime := clampNat 10 600 c.staleTime, alarmDelay := clampNat 0 3600 c.alarmDelay
    recoveryTime := clampNat 0 1800 c.recoveryTime }

def clampHandling (c : HandlingCfg) : HandlingCfg :=
  { openLimit := clampNat 0 3600 c.openLimit, precool := clampInt (-300) 100 c.precool
    assumedTemp := clampInt (-500) 500 c.assumedTemp }

def clampDefrost (c : DefrostCfg) : DefrostCfg :=
  { gatherWindow := clampNat 0 900 c.gatherWindow, pumpdownTime := clampNat 30 600 c.pumpdownTime
    dripTime := clampNat 0 900 c.dripTime, terminationTemp := clampInt 20 250 c.terminationTemp
    fanStartTemp := clampInt (-300) 0 c.fanStartTemp, refreezeMax := clampNat 60 1800 c.refreezeMax
    maxHeat := clampNat 300 3600 c.maxHeat, maxDeferral := clampNat 600 43200 c.maxDeferral
    suspendLimit := clampNat 0 3 c.suspendLimit, maxSuspended := clampNat 60 1800 c.maxSuspended
    fallbackSlots := clampNat 0 8 c.fallbackSlots }

def clampStaging (c : StagingCfg) : StagingCfg :=
  let n := clampNat 0 400 c.capacity
  { c with
    capacity := n, reduction := clampNat 0 n c.reduction, inboundLimit := clampNat 0 n c.inboundLimit
    moveLimit := clampNat 30 3600 c.moveLimit, entryDeadline := clampNat 10 300 c.entryDeadline
    bulkTime := clampNat 0 7200 c.bulkTime, exposureInterval := clampNat 10 300 c.exposureInterval
    defaultDwell := clampNat 0 7200 c.defaultDwell }

def clampClass (c : ClassCfg) : ClassCfg :=
  { rate := clampNat 1 5000 c.rate, critical := clampInt (-300) 0 c.critical, warnLimit := clampNat 0 50000 c.warnLimit
    holdLimit := clampNat 0 50000 c.holdLimit }

/-- Every numeric field at the nearer bound of its range (R6). -/
def clampRecord : Record → Record
  | .station a c => .station a c
  | .zone z c => .zone z (clampZone c)
  | .probe t c => .probe t c
  | .dock d c => .dock d { c with sealLimit := clampNat 1 60 c.sealLimit, weight := clampNat 0 255 c.weight }
  | .handling d c => .handling d (clampHandling c)
  | .portal q c => .portal q { c with grantTime := clampNat 5 120 c.grantTime, weight := clampNat 0 255 c.weight }
  | .evap e c =>
    .evap e { c with trigger := clampNat 100 60000 c.trigger, backstopHours := clampNat 1 48 c.backstopHours }
  | .defrost c => .defrost (clampDefrost c)
  | .staging c => .staging (clampStaging c)
  | .cls k c => .cls k (clampClass c)
  | .rule k c => .rule k { c with dwell := clampNat 0 7200 c.dwell }
  | .port p n => .port p (clampNat 2 120 n)

/-! ### Structure (R1, R103) -/

/-- The elements a station serves (R1). -/
inductive Elem where
  | dock (d : DoorId)
  | portal (q : PortalId)
  | evap (e : EvapId)
  | probe (t : ProbeId)
deriving DecidableEq, Repr

/-- Kinds of station that serve one element (R1). -/
def servesOne : StationKind → Bool
  | .dock | .portal | .evap => true
  | .none | .probe => false

/-- A dock door, portal, evaporator or probe other than `self` names the station (R1). -/
def boundElse (c : Settings) (a : StationId) (self : Elem) : Bool :=
  (List.finRange 24).any (fun d => self != .dock d && (c.docks.get d).station == some a)
    || (List.finRange 12).any (fun q => self != .portal q && (c.portals.get q).station == some a)
    || (List.finRange 16).any (fun e => self != .evap e && (c.evaps.get e).station == some a)
    || (List.finRange 24).any (fun t => self != .probe t && (c.probes.get t).station == some a)

/-- The station is a DOCK, PORTAL or EVAP station that another element is bound to (R1). -/
def stationTaken (c : Settings) (a : StationId) (self : Elem) : Bool := servesOne (c.stations.get a).kind && boundElse c a self

/-- The binding rules for a dock door, portal or evaporator (R1). -/
def bindingCheck (c : Settings) (kind : StationKind) (self : Elem) (st : Option StationId) : Option Status :=
  match st with
  | none => none
  | some a =>
    if stationTaken c a self then some .duplicate
    else if (c.stations.get a).kind ≠ kind then some .badRequest
    else none

/-- Another probe is bound to the station and channel (R1). -/
def channelTaken (c : Settings) (a : StationId) (ch : Fin 4) (t : ProbeId) : Bool :=
  (List.finRange 24).any fun u => u != t && (c.probes.get u).station == some a && (c.probes.get u).channel == ch

/-- The binding rules for a probe (R1). -/
def probeBinding (c : Settings) (t : ProbeId) (x : ProbeCfg) : Option Status :=
  match x.station with
  | none => none
  | some a =>
    if channelTaken c a x.channel t || stationTaken c a (.probe t) then some .duplicate
    else if (c.stations.get a).kind ≠ .probe then some .badRequest
    else none

/-- The structure check of R5: the refusal, if any. DESIGN CHOICE (notes/assumptions/14.md): it is made on every record, also on one that
repeats the stored record exactly. R8 lets a station change its kind while an out-of-service element still names it; such an element's
stored record, written again, breaks R1 and is refused BAD_REQUEST, although R5 ends by accepting an exact repeat. -/
def structureCheck (c : Settings) : Record → Option Status
  | .probe t x => probeBinding c t x
  | .dock d x => bindingCheck c .dock (.dock d) x.station
  | .portal q x => bindingCheck c .portal (.portal q) x.station
  | .evap e x =>
    match bindingCheck c .evap (.evap e) x.station with
    | some st => some st
    | none =>
      if x.zone = some 0 ∧ 4 ≤ ((List.finRange 16).filter fun f => f != e && (c.evaps.get f).zone == some 0).length then
        some .badRequest
      else none
  | .rule k x =>
    if x.valid then
      if x.consignee = none ∧ x.cls = none then some .badRequest
      else if (List.finRange 32).any fun i =>
          i != k && (c.rules.get i).valid && (c.rules.get i).consignee == x.consignee && (c.rules.get i).cls == x.cls then
        some .duplicate
      else none
    else none
  | .station .. | .zone .. | .handling .. | .defrost .. | .staging .. | .cls .. | .port .. => none

/-! ### Topology (R8) -/

/-- An in-service element is bound to the station; `open_` counts only those with their lockout clear (R8, R10). -/
def boundInService (c : Settings) (a : StationId) (open_ : Bool) : Bool :=
  (List.finRange 24).any (fun d =>
      let x := c.docks.get d
      x.inService && x.station == some a && !(open_ && x.lockout))
    || (List.finRange 12).any (fun q =>
      let x := c.portals.get q
      x.inService && x.station == some a && !(open_ && x.lockout))
    || (List.finRange 16).any (fun e =>
      let x := c.evaps.get e
      x.inService && x.station == some a && !(open_ && x.lockout))
    || (List.finRange 24).any (fun t =>
      let x := c.probes.get t
      x.inService && x.station == some a && !(open_ && x.lockout))

/-- In-service probes that name the zone. -/
def probeCount (c : Settings) (z : ZoneId) : Nat :=
  ((List.finRange 24).filter fun t => (c.probes.get t).inService && (c.probes.get t).zone == some z).length

/-- The station is in service with the kind. -/
def stationReady (c : Settings) (st : Option StationId) (k : StationKind) : Bool :=
  match st with
  | some a => (c.stations.get a).inService && (c.stations.get a).kind == k
  | none => false

def zoneReady (c : Settings) (z : Option ZoneId) : Bool :=
  match z with
  | some z => (c.zones.get z).inService
  | none => false

/-- The probe count rule for one zone after a write (R2, R8). -/
def probesRight (c : Settings) (z : Option ZoneId) : Bool :=
  match z with
  | some z => !(c.zones.get z).inService || (1 ≤ probeCount c z && probeCount c z ≤ 3)
  | none => true

/-- Does the status apply? -/
def failing (b : Bool) (st : Status) : Option Status := if b then some st else none

/-- Zone, station and channel may differ only where the element is out of service before or after the write (R8). -/
def rebindCheck (changed wasIn isIn : Bool) : Option Status := failing (changed && wasIn && isIn) .busyState

/-- No pallet stands in the zone and no move touches it (R8). -/
def zoneEmpty (s : Part) (z : ZoneId) : Bool := !anyPalletAt s (.zone z) && !anyMoveTouches s z

/-- Conditions for a zone out of service (R8). -/
def zoneMayLeave (s : Part) (z : ZoneId) : Bool :=
  (s.zones.get z).mode == .open && (s.batches.get z).isNone
    && (List.finRange 12).all (fun q => !portalOf s z q)
    && (List.finRange 16).all (fun e => !((s.cfg.evaps.get e).inService && (s.cfg.evaps.get e).zone == some z))
    && zoneEmpty s z
    && (z != 0 || ((List.finRange 24).all (fun d => !dockInService s d) && (List.finRange 12).all (fun q => !portalInService s q)
      && !anyPalletAt s .hall))

/-- Conditions for a dock door out of service (R8). -/
def dockMayLeave (s : Part) (d : DoorId) : Bool :=
  let k := s.docks.get d
  (k.state == .vacant || k.state == .sealFault || k.state == .fault || k.state == .lockedOut) && k.claim == .none
    && (s.slots.get d).state == .empty && k.pending.isNone && !anyPalletAt s (.trailer d) && !anyMoveTo s d

/-- Conditions for a portal out of service (R8). -/
def portalMayLeave (s : Part) (q : PortalId) : Bool :=
  let k := s.portals.get q
  let z := portalZone s q
  let last := (List.finRange 12).all fun r => r == q || !portalOf s z r
  (k.state == .closed || k.state == .fault || k.state == .lockedOut) && k.claim == .none && k.pending.isNone
    && (!last || zoneEmpty s z)

/-- Conditions for an evaporator out of service (R8). -/
def evapMayLeave (s : Part) (e : EvapId) : Bool :=
  let k := s.evaps.get e
  (k.sub == .idle || k.sub == .demand || k.sub == .fault) && (batchOf s e).isNone

/-- The topology check of R5: the refusal, if any. -/
def topologyCheck (s : Part) (r : Record) : Option Status :=
  let c := s.cfg
  match r with
  | .station a x =>
    let o := c.stations.get a
    firstSome
      [failing (!o.inService && x.inService && x.kind == .none) .badRequest,
        failing (((o.inService && !x.inService) || o.kind != x.kind) && boundInService c a false) .busyState]
  | .probe t x =>
    let o := c.probes.get t
    let after := writeCfg r c
    firstSome
      [rebindCheck (o.zone != x.zone || o.station != x.station || o.channel != x.channel) o.inService x.inService,
        failing (!o.inService && x.inService && !(stationReady c x.station .probe)) .badRequest,
        failing ((o.inService != x.inService || o.zone != x.zone) && !(probesRight after o.zone && probesRight after x.zone))
          .badRequest]
  | .zone z x =>
    let o := c.zones.get z
    firstSome
      [failing (!o.inService && x.inService && !(1 ≤ probeCount c z && probeCount c z ≤ 3 && (z == 0 || (c.zones.get 0).inService)))
          .badRequest,
        failing (o.inService && !x.inService && !zoneMayLeave s z) .busyState]
  | .dock d x =>
    let o := c.docks.get d
    firstSome
      [rebindCheck (o.station != x.station) o.inService x.inService,
        failing (!o.inService && x.inService && !(stationReady c x.station .dock && (c.zones.get 0).inService)) .badRequest,
        failing (o.inService && !x.inService && !dockMayLeave s d) .busyState]
  | .portal q x =>
    let o := c.portals.get q
    firstSome
      [rebindCheck (o.zone != x.zone || o.station != x.station) o.inService x.inService,
        failing (!o.inService && x.inService &&
          !(stationReady c x.station .portal && zoneReady c x.zone && (c.zones.get 0).inService)) .badRequest,
        failing (o.inService && !x.inService && !portalMayLeave s q) .busyState]
  | .evap e x =>
    let o := c.evaps.get e
    firstSome
      [rebindCheck (o.zone != x.zone || o.station != x.station) o.inService x.inService,
        failing (!o.inService && x.inService && !(stationReady c x.station .evap && zoneReady c x.zone)) .badRequest,
        failing (o.inService && !x.inService && !evapMayLeave s e) .busyState]
  | .handling .. | .defrost .. | .staging .. | .cls .. | .rule .. | .port .. => none

/-! ### What an accepted write does (R9) -/

/-- A station leaves operation: held OFFLINE, skipped by the round, its poll in flight discarded (R18, R19, R22). -/
def stationLeaves (a : StationId) (s : Part) : Part :=
  let t := modStation a (fun k => { k with link := .offline, miss := 0, good := 0, sectionTaken := none }) s
  let t := { t with loop := { t.loop with
    round := t.loop.round.filter fun b => b != a
    inFlight := t.loop.inFlight.map fun f => if f.addr = a then { f with discard := true } else f } }
  endCondition .stationOffline (.station a) t

/-- A station begins operation, or an in-service station changes its kind: polled from the next round (R18). -/
def stationBegins (a : StationId) (s : Part) : Part :=
  let t := modStation a (fun _ => coldStation) s
  { t with loop := { t.loop with round := t.loop.round.filter fun b => b != a } }

def stationWritten (a : StationId) (o x : StationCfg) (s : Part) : Part :=
  if o.inService && !x.inService then stationLeaves a s
  else if x.inService && (!o.inService || o.kind != x.kind) then stationBegins a s
  else s

/-- The probe fields are cleared (R37). -/
def clearProbe (t : ProbeId) (s : Part) : Part := modProbe t (fun _ => coldProbe) s

/-- A PROBE write (R9, R37, R39, R40). DESIGN CHOICE (notes/assumptions/17.md): the end of PROBE_FAULT comes before the recompute, and the
old zone is recomputed before the new one; the spec gives no order. -/
def probeWritten (t : ProbeId) (o x : ProbeCfg) (s : Part) : Part :=
  let left := o.inService && !x.inService
  let moved := o.zone != x.zone
  let s := onlyIf (o.inService != x.inService || moved) (clearProbe t) s
  let s := onlyIf (left || moved) (endCondition .probeFault (.probe t)) s
  let s := onlyIf (left || moved) (recomputeOpt o.zone) s
  onlyIf moved (recomputeOpt x.zone) s

/-- A zone put into service (R37). -/
def zoneEnters (z : ZoneId) (s : Part) : Part :=
  let t := modZone z (fun k => { k with
    temp := 500, stale := true, holdOff := some (addTime s.time (s.cfg.zones.get z).staleTime), mode := .open, bulkDl := none
    recoveryDl := none, warmDl := none, exposureDl := some (addTime s.time s.cfg.staging.exposureInterval) }) s
  let t := forEach (n := 24) (fun p t => onlyIf ((t.cfg.probes.get p).zone == some z) (clearProbe p) t) t
  modeNotice z .outOfService .settings t

/-- A zone taken out of service (R37). DESIGN CHOICE (notes/assumptions/17.md): the condition of ZONE_STALE ends before that of ZONE_WARM,
and both before the ZONE_MODE notice. -/
def zoneLeaves (z : ZoneId) (s : Part) : Part :=
  let old := (s.zones.get z).mode
  let t := modZone z (fun k => { k with
    stale := true, holdOff := none, mode := .outOfService, bulkDl := none, recoveryDl := none, warmDl := none
    exposureDl := none }) s
  let t := endCondition .zoneWarm (.zone z) (endCondition .zoneStale (.zone z) t)
  modeNotice z old .settings t

def zoneWritten (z : ZoneId) (o x : ZoneCfg) (s : Part) : Part :=
  let s := if !o.inService && x.inService then zoneEnters z s else if o.inService && !x.inService then zoneLeaves z s else s
  onlyIf (o.setpoint != x.setpoint || o.highOffset != x.highOffset || o.allowance != x.allowance) (warmEvaluate z) s

/-- A dock door put into service (R59, R91): FAULT with first report pending. A stored lockout acts at its first report
(notes/assumptions/12.md). -/
def dockEnters (d : DoorId) (s : Part) : Part :=
  let t := modDock d (fun k => { k with
    state := .fault, firstPending := true, revision := wrap16 k.revision
    captureStart := none, sealDl := none, travelDl := none, openDl := none, extensions := 0, pending := none, refusal := false
    consistent := 0, last := none, settleFrom := none, carry := 0, sealOut := .deflate, heard := false
    exposureDl := some (addTime s.time s.cfg.staging.exposureInterval) }) s
  modSlot d (fun _ => emptySlot) t

/-- A dock door taken out of service (R59, R87), with the checks that follow (R53, R157, R168). DESIGN CHOICE (notes/assumptions/17.md): the
condition of DOOR_FAULT ends (R9) before those checks, so its ALARM_CLEARED stands before a ZONE_MODE notice of the drain check. -/
def dockLeaves (d : DoorId) (s : Part) : Part :=
  let upTo := match (s.docks.get d).last with | some r => r.time | none => s.time
  let t := modDock d (fun k => { k with
    captureStart := none, sealDl := none, travelDl := none, openDl := none, exposureDl := none, extensions := 0, pending := none
    refusal := false, consistent := 0, last := none, settleFrom := none, sealOut := .deflate }) (settleDock d upTo s)
  handOn 0 (endCondition .doorFault (.door (.dock d)) t)

def dockWritten (d : DoorId) (o x : DockCfg) (s : Part) : Part :=
  if !o.inService && x.inService then dockEnters d s else if o.inService && !x.inService then dockLeaves d s else s

/-- A portal put into service (R59). -/
def portalEnters (q : PortalId) (s : Part) : Part :=
  modPortal q (fun k => { k with
    state := .fault, firstPending := true, revision := wrap16 k.revision
    openCommand := false, grantDl := none, travelDl := none, pending := none, consistent := 0, last := none, settleFrom := none
    carry := 0, heard := false }) s

/-- A portal taken out of service. The working copy still names its old zone. DESIGN CHOICE (notes/assumptions/17.md): the condition of
DOOR_FAULT ends (R9) before the checks that follow, as for a dock door. -/
def portalLeaves (q : PortalId) (s : Part) : Part :=
  let upTo := match (s.portals.get q).last with | some r => r.time | none => s.time
  let t := modPortal q (fun k => { k with
    openCommand := false, grantDl := none, travelDl := none, pending := none, consistent := 0, last := none
    settleFrom := none }) (settlePortal q upTo s)
  handOn (portalZone s q) (endCondition .doorFault (.door (.portal q)) t)

/-- A PORTAL write: a portal leaving service does so in the zone it had, then takes the record as written. -/
def portalWritten (q : PortalId) (o x : PortalCfg) (s : Part) : Part :=
  if !o.inService && x.inService then portalEnters q (putCfg (.portal q x) s)
  else if o.inService && !x.inService then
    putCfg (.portal q x) (portalLeaves q (putCfg (.portal q { x with zone := o.zone }) s))
  else putCfg (.portal q x) s

/-- An evaporator taken out of service (R147). -/
def evapLeaves (e : EvapId) (s : Part) : Part :=
  dropDemand e (modEvap e (fun k => { k with sub := .idle, faultCause := none, backstopDl := none }) s)

def evapWritten (e : EvapId) (o x : EvapCfg) (s : Part) : Part :=
  if !o.inService && x.inService then modEvap e (fun _ => freshEvap x s.time) s
  else if o.inService && !x.inService then evapLeaves e s
  else s

/-- The working copy takes the record and the owning block acts on the change (R5, R9). -/
def applyRecord (r : Record) (s : Part) : Part :=
  let c := s.cfg
  match r with
  | .station a x => stationWritten a (c.stations.get a) x (putCfg r s)
  | .zone z x => zoneWritten z (c.zones.get z) x (putCfg r s)
  | .probe t x => probeWritten t (c.probes.get t) x (putCfg r s)
  | .dock d x => dockWritten d (c.docks.get d) x (putCfg r s)
  | .portal q x => portalWritten q (c.portals.get q) x s
  | .evap e x => evapWritten e (c.evaps.get e) x (putCfg r s)
  | .handling .. | .defrost .. | .staging .. | .cls .. | .rule .. | .port .. => putCfg r s

/-! ### Write operations (R11) -/

/-- A write operation is accepted: it begins, or waits behind the one in progress. DESIGN CHOICE (notes/assumptions/11.md): the list of
waiting operations has no bound. R11 says that at most three can be outstanding, and R15 frees a port whose write still waits after a
dip, so that its next write is a fourth. -/
def acceptWrite (op : WriteOp) (s : Part) : Part :=
  match s.store.current with
  | none => { s with store := beginBankWrite s.cfg op s.store }
  | some _ => { s with store := { s.store with waiting := s.store.waiting ++ [op] } }

/-- The next waiting operation begins. -/
def startWaiting (s : Part) : Part :=
  match s.store.waiting with
  | [] => s
  | op :: l => { s with store := beginBankWrite s.cfg op { s.store with waiting := l } }

/-- The response of a completed operation is sent and its port freed (R11, R186). -/
def completeOp (op : WriteOp) (st : Status) (s : Part) : Part :=
  match op.requester with
  | none => s
  | some q => respond q.port q.code q.tag st op.body (modPort q.port (fun r => { r with inService := none }) s)

/-- A bank write ends (R11). -/
def bankWriteEnds (matched : Bool) (s : Part) : Part :=
  match s.store.current with
  | none => s
  | some w =>
    if w.stopped then s
    else if matched then
      startWaiting (completeOp w.op w.op.status
        { s with store := { setBank s.store w.bank ⟨true, w.seq, w.copy⟩ with
                              lastBank := w.bank, lastSeq := w.seq, current := none } })
    else if w.second then
      startWaiting (completeOp w.op .storeFault
        { s with store := { s.store with current := none }, cause := { s.cause with status := .storeFault } })
    else { s with store := { s.store with current := some { w with second := true, copy := s.cfg } } }

/-- The checks of WRITE SETTINGS in their order (R5): role, identifiers, structure, topology. The refusal, if any. -/
def writeRefused (p : Port) (w : Written) (s : Part) : Option Status :=
  let r := keepLockout s.cfg w.record
  firstSome
    [failing (!writableFrom p w.record) .notPermitted, failing (!w.identified) .badRequest, structureCheck s.cfg r, topologyCheck s r]

/-- A record that passed the checks is clamped, takes effect, and begins a write operation (R5, R6, R11). -/
def acceptRecord (p : Port) (tag : Byte) (r : Record) (s : Part) : Part :=
  let k := clampRecord r
  acceptWrite ⟨some ⟨p, tag, 3⟩, if k = r then .ok else .okClamped, putRecord k⟩ (applyRecord k s)

/-- WRITE SETTINGS after its body has been read (R5). -/
def takeWrite (p : Port) (tag : Byte) (w : Written) (s : Part) : Reply :=
  match writeRefused p w s with
  | some st => refuse st s
  | none => (acceptRecord p tag (keepLockout s.cfg w.record) s, none)

/-! ### Lockout (R10, R69) -/

/-- The record of the element a LOCKOUT names. -/
def lockKey : LockTarget → RecordKey
  | .station a => .station a
  | .probe t => .probe t
  | .dock d => .dock d
  | .portal q => .portal q
  | .evap e => .evap e

def setLock (b : Bool) : Record → Record
  | .station a x => .station a { x with lockout := b }
  | .probe t x => .probe t { x with lockout := b }
  | .dock d x => .dock d { x with lockout := b }
  | .portal q x => .portal q { x with lockout := b }
  | .evap e x => .evap e { x with lockout := b }
  | .zone z x => .zone z x
  | .handling d x => .handling d x
  | .defrost x => .defrost x
  | .staging x => .staging x
  | .cls k x => .cls k x
  | .rule k x => .rule k x
  | .port p n => .port p n

/-- Service and lockout of the element as stored. -/
def lockState (c : Settings) : LockTarget → Bool × Bool
  | .station a => ((c.stations.get a).inService, (c.stations.get a).lockout)
  | .probe t => ((c.probes.get t).inService, (c.probes.get t).lockout)
  | .dock d => ((c.docks.get d).inService, (c.docks.get d).lockout)
  | .portal q => ((c.portals.get q).inService, (c.portals.get q).lockout)
  | .evap e => ((c.evaps.get e).inService, (c.evaps.get e).lockout)

/-- The checks of R10 on setting a lockout: may it be set? -/
def mayLock (s : Part) : LockTarget → Bool
  | .station a => !boundInService s.cfg a true
  | .evap e =>
    match batchOf s e with
    | some (_, b) => b.phase == .gather
    | none => true
  | .probe _ | .dock _ | .portal _ => true

/-- The lockout of an in-service dock door takes hold: LOCKED_OUT (R69), with the resume check (R168). -/
def lockDock (d : DoorId) (s : Part) : Part := resumeCheck 0 (lockOutDock d s)

def lockPortal (q : PortalId) (s : Part) : Part := resumeCheck (portalZone s q) (lockOutPortal q s)

/-- The lockout of an evaporator takes hold (R10). DEDUCED (notes/assumptions/19.md): out of FAULT this is a return to IDLE by leaving FAULT
that raises no demand, and sets the backstop deadline from the last defrost end as R151 says. DESIGN CHOICE (notes/assumptions/17.md): the
demand is dropped, with the end of DEFROST_OVERDUE's condition, before the evaporator leaves its batch, although the table of R10 names the
removal first; so ALARM_CLEARED stands before the DEFROST_END of a batch left empty. -/
def lockEvap (e : EvapId) (s : Part) : Part :=
  let backstop := backstopFrom (s.cfg.evaps.get e) (s.evaps.get e).lastEnd
  leaveBatch e (dropDemand e (modEvap e (fun k => { k with
    sub := .idle, faultCause := none, backstopDl := if k.sub = .fault then backstop else k.backstopDl }) s))

/-- The lockout of an in-service element takes hold, or is cleared (R10). DESIGN CHOICE (notes/assumptions/17.md): the end of PROBE_FAULT
comes before the recompute. -/
def lockEffect (t : LockTarget) (b : Bool) (s : Part) : Part :=
  match t, b with
  | .dock d, true => lockDock d s
  | .dock d, false => trackDock d (modDock d fun k => { k with state := .fault, firstPending := true, refusal := false }) s
  | .portal q, true => lockPortal q s
  | .portal q, false => trackPortal q (modPortal q fun k => { k with state := .fault, firstPending := true }) s
  | .evap e, true => lockEvap e s
  | .evap e, false => idleCheck e (modEvap e (fun k => { k with sub := .idle }) s)
  | .probe p, true =>
    recomputeOpt (s.cfg.probes.get p).zone (endCondition .probeFault (.probe p) (clearProbe p s))
  | .probe p, false => recomputeOpt (s.cfg.probes.get p).zone (clearProbe p s)
  | .station a, true => stationLeaves a s
  | .station a, false => stationBegins a s

/-- LOCKOUT after its body has been read (R10). DESIGN CHOICE (notes/assumptions/14.md): setting a lockout that is already set is accepted
before the checks on setting one, also for a station with a bound in-service element whose lockout is clear: there the first bullet of
R10 refuses BUSY_STATE and the third accepts. -/
def takeLockout (p : Port) (tag : Byte) (t : LockTarget) (b : Bool) (s : Part) : Reply :=
  let (inService, locked) := lockState s.cfg t
  if b && inService && !locked && !mayLock s t then refuse .busyState s
  else
    let r := setLock b (readCfg s.cfg (lockKey t))
    let op : WriteOp := ⟨some ⟨p, tag, 4⟩, .ok, putRecord r⟩
    (acceptWrite op (onlyIf (inService && locked != b) (lockEffect t b) (putCfg r s)), none)

end Sys2Proof.Machine
end

