-- ==== Sys2Proof/Machine/Command.lean ====
section
/-! DEFINITION. The form every command's meaning takes: its effect on the part, with the frames it sends in `out`. No command
of the CDC-24 faults. -/

namespace Sys2Proof.Machine

open Sys2Proof

/-- The outcome of a command. -/
abbrev Result := Host.Outcome State Fault Refusal

/-- A command's effect on the part; the frames of the command before have left, and the waiting commands stay. -/
def command (f : Part → Part) (s : State) : Result := .next { s with part := f { s.part with out := [] } }

/-- An effect taken only while the part operates: reports, expiries and polls stop from RIDE_THROUGH to the restart and while the part
is held stopped (R13, R14). -/
def whileRunning (f : Part → Part) (s : Part) : Part := if s.running then f s else s

end Sys2Proof.Machine
end

