-- ==== Sys2Proof/Machine/Alarms.lean ====
section
/-! DEFINITION. The Alarm Unit's requests: ACK ALARM (R179) and READ ALARMS (R184). -/

namespace Sys2Proof.Machine

open Sys2Proof

/-- An alarm record with every field of Section 9.1. -/
def putAlarm (a : Alarm) : List Byte :=
  putU16 a.number ++ putU8 (AlarmKind.code a.kind) ++ putSubject a.subject ++ putU8 (severityCode a.kind) ++ putU8 (latchingCode a.kind)
    ++ putU8 (AlarmState.code a.state) ++ putU32 a.raised ++ putU32 a.lastRepeat ++ putU8 a.repeats

/-- Results of the acknowledgement table of R179. -/
inductive AckResult where
  | acked | removed | unchanged
deriving DecidableEq, Repr

def ackResult (a : Alarm) : AckResult :=
  match a.state with
  | .activeUnack => if a.kind.latched then .removed else .acked
  | .activeAck => .unchanged
  | .clearedUnack => .removed

/-- One record is acknowledged; the change count is the caller's (R179). -/
def ackAlarm (p : Port) (a : Alarm) (s : Part) : Part :=
  match ackResult a with
  | .acked => notifyBoth (.alarmAcked a.number a.kind a.subject p) (modAlarms (setAlarmState a .activeAck) s)
  | .removed => removeAlarm a .ack s
  | .unchanged => s

/-- The state byte of an ACK ALARM response: 4 for REMOVED. -/
def putAckState (a : Alarm) : List Byte :=
  match ackResult a with
  | .removed => putU8 4
  | .acked | .unchanged => putU8 (AlarmState.code .activeAck)

/-- ACK ALARM for one record (R179). -/
def ackOne (p : Port) (number repeats last : Nat) (s : Part) : Reply :=
  if number = 0 then refuse .badRequest s
  else
    match s.alarms.records.find? fun a => a.number == number with
    | none => refuse .unknownId s
    | some a =>
      if a.repeats ≠ repeats ∨ a.lastRepeat ≠ last then reply .stale (putAlarm a) s
      else reply .ok (putAckState a) (onlyIf (ackResult a != .unchanged) (fun s => countChange (ackAlarm p a s)) s)

/-- ACK ALARM with ALL (R179): every record in table order, as one event. The first number counts every record that changed, the second
those of them that were removed. -/
def ackAll (p : Port) (s : Part) : Reply :=
  let rs := s.alarms.records
  let changed := (rs.filter fun a => ackResult a != .unchanged).length
  let removed := (rs.filter fun a => ackResult a == .removed).length
  reply .ok (putU8 changed ++ putU8 removed) (onlyIf (0 < changed) countChange (forList rs (ackAlarm p) s))

/-- ACK ALARM (R179). -/
def execAckAlarm (p : Port) (tag : Byte) (body : List Byte) (s : State) : Result :=
  command (serve 38 none p tag (withBody (readAck body) fun x =>
    match x with
    | .one n r l => ackOne p n r l
    | .all => ackAll p)) s

/-- Does a record pass the filter (R184)? -/
def passes (f : AlarmFilter) (a : Alarm) : Bool :=
  match f with
  | .all => true
  | .unack => a.state == .activeUnack || a.state == .clearedUnack
  | .active => a.state == .activeUnack || a.state == .activeAck

/-- The body of a READ ALARMS response (R184): END, an absent position, where no further record passes the filter. -/
def alarmsBody (s : Part) (start : Nat) (f : AlarmFilter) : List Byte :=
  let t := s.alarms
  let found := (t.records.zipIdx.drop start).filter fun x => passes f x.1
  let shown := found.take 8
  let next : Option Nat := if found.length ≤ 8 then none else shown.getLast?.map fun x => x.2 + 1
  putU8 t.records.length ++ putU8 (t.records.filter (passes f)).length ++ putMark t.full ++ putU8 (relayCode t.relay) ++ putU16 t.changes
    ++ (shown.map fun x => putAlarm x.1).flatten ++ putOpt 1 putU8 next

/-- READ ALARMS (R184). -/
def execReadAlarms (p : Port) (tag : Byte) (body : List Byte) (s : State) : Result :=
  command (serve 39 none p tag (withBody (readAlarmQuery body) fun x s => reply .ok (alarmsBody s x.1 x.2) s)) s

end Sys2Proof.Machine
end

