-- ==== Sys2Proof/Machine/Zones.lean ====
section
/-! DEFINITION. The Zone Supervisor's commands: READ ZONE (R58), the mode requests (R49, R51, R52, R54) and its expiries (R41, R42, R45,
R46, R47, R51). -/

namespace Sys2Proof.Machine

open Sys2Proof

/-- A request that names a zone: its body, then its service (Section 3.5). -/
def zoneRequest (body : List Byte) (h : ZoneId → Part → Reply) : Part → Reply :=
  withBody (readZone body) fun z s => inServiceOr (zoneInService s z) (h z) s

/-- The probes READ ZONE returns (R58). DESIGN CHOICE (notes/assumptions/4.md): they stand in ascending probe number. -/
def putZoneProbes (s : Part) (z : ZoneId) : List Byte :=
  (((List.finRange 24).filter fun t => (s.cfg.probes.get t).inService && (s.cfg.probes.get t).zone == some z).map fun t =>
    let k := s.probes.get t
    putElem t ++ putMark (s.cfg.probes.get t).lockout ++ putOpt 2 putI16 k.last ++ putTime? k.freshUntil).flatten

/-- The body of a READ ZONE response (R58). The limit in force is followed by 1 for normal, 2 for raised. -/
def zoneBody (s : Part) (z : ZoneId) : List Byte :=
  let k := s.zones.get z
  putU8 (Mode.code k.mode) ++ putI16 k.temp ++ putMark k.stale ++ putI16 (limitInForce s z)
    ++ putU8 (if limitRaised s z then 2 else 1) ++ putTime? k.holdOff ++ putTime? k.bulkDl ++ putTime? k.recoveryDl
    ++ putTime? k.warmDl ++ putTime? k.exposureDl ++ putElem k.pointer ++ putZoneProbes s z

/-- READ ZONE (R58). -/
def execReadZone (p : Port) (tag : Byte) (body : List Byte) (s : State) : Result :=
  command (serve 6 none p tag (zoneRequest body fun z s => reply .ok (zoneBody s z) s)) s

/-- Entry to BULK from OPEN by ZONE BULK (R49, R50). -/
def enterBulk (z : ZoneId) (s : Part) : Part :=
  modeNotice z .open .request (portalsEnterBulk z (setMode z .bulk (bulkDeadline s) s))

/-- ZONE BULK with its zone read (R49). -/
def zoneBulk (z : ZoneId) (s : Part) : Reply :=
  if z = 0 then refuse .badRequest s
  else
    match (s.zones.get z).mode with
    | .draining | .pulldown | .outOfService => refuse .held s
    | .bulk => reply .ok [] (modeNotice z .bulk .request (setMode z .bulk (bulkDeadline s) s))
    | .bulkPending => reply .deferred [] s
    | .open =>
      match defrostAnswer s z with
      | .proceed => reply .ok [] (enterBulk z s)
      | .proceedSuspended => reply .ok [] (enterBulk z (suspendBatch z s))
      | .deferred => reply .deferred [] (modeNotice z .open .request (setMode z .bulkPending none s))
      | .refused => refuse .zoneDefrost s

/-- ZONE BULK (R49). -/
def execZoneBulk (p : Port) (tag : Byte) (body : List Byte) (s : State) : Result :=
  command (serve 7 (some .warehouse) p tag (zoneRequest body zoneBulk)) s

/-- ZONE BULK RELEASE with its zone read (R51). -/
def zoneBulkRelease (z : ZoneId) (s : Part) : Reply :=
  match (s.zones.get z).mode with
  | .bulk | .bulkPending => reply .ok [] (bulkToOpen z none .request s)
  | .open => reply .ok [] s
  | .draining | .pulldown | .outOfService => if z = 0 then reply .ok [] s else refuse .held s

/-- ZONE BULK RELEASE (R51). -/
def execZoneBulkRelease (p : Port) (tag : Byte) (body : List Byte) (s : State) : Result :=
  command (serve 8 (some .warehouse) p tag (zoneRequest body zoneBulkRelease)) s

/-- Entry to DRAINING from OPEN with its drain check (R52). -/
def enterDraining (z : ZoneId) (s : Part) : Part :=
  drainCheck z (modeNotice z .open .request (setMode z .draining none s))

/-- The OK of ZONE PULLDOWN, with the mode as it stands (R52). -/
def pulldownReply (z : ZoneId) (s : Part) : Reply := reply .ok (putU8 (Mode.code (s.zones.get z).mode)) s

/-- ZONE PULLDOWN with its zone read (R52). -/
def zonePulldown (z : ZoneId) (s : Part) : Reply :=
  match (s.zones.get z).mode with
  | .open => pulldownReply z (enterDraining z s)
  | .bulk | .bulkPending => pulldownReply z (enterDraining z (bulkToOpen z (some .pulldown) .revoked s))
  | .draining | .pulldown | .outOfService => pulldownReply z s

/-- ZONE PULLDOWN (R52). -/
def execZonePulldown (p : Port) (tag : Byte) (body : List Byte) (s : State) : Result :=
  command (serve 9 (some .plant) p tag (zoneRequest body zonePulldown)) s

/-- ZONE RELEASE of a plant-held mode (R54). DESIGN CHOICE (notes/assumptions/19.md): its change to OPEN makes the resume check of R168,
through `defrostModeOpen`. -/
def releaseZone (z : ZoneId) (s : Part) : Part :=
  let old := (s.zones.get z).mode
  modeNotice z old .request (defrostModeOpen z (portalsUnblock z (setMode z .open none s)))

/-- ZONE RELEASE with its zone read (R54). -/
def zoneRelease (z : ZoneId) (s : Part) : Reply :=
  match (s.zones.get z).mode with
  | .draining | .pulldown => reply .ok [] (releaseZone z s)
  | .open | .outOfService => reply .ok [] s
  | .bulk | .bulkPending => refuse .held s

/-- ZONE RELEASE (R54). -/
def execZoneRelease (p : Port) (tag : Byte) (body : List Byte) (s : State) : Result :=
  command (serve 10 (some .plant) p tag (zoneRequest body zoneRelease)) s

/-- FRESHNESS_EXPIRY (R41): taken once for a reading. -/
def execFreshnessExpiry (t : ProbeId) (s : State) : Result :=
  command (whileRunning fun s =>
    let k := s.probes.get t
    if k.expiryDue ∧ reached k.freshUntil s.time then
      recomputeOpt (s.cfg.probes.get t).zone (modProbe t (fun k => { k with expiryDue := false }) s)
    else s) s

/-- STALE_HOLD_OFF_EXPIRY (R42). -/
def execStaleHoldOffExpiry (z : ZoneId) (s : State) : Result :=
  command (whileRunning fun s =>
    let k := s.zones.get z
    if reached k.holdOff s.time then
      onlyIf k.stale (raiseAlarm .zoneStale (.zone z)) (modZone z (fun k => { k with holdOff := none }) s)
    else s) s

/-- WARM_DEADLINE_EXPIRY (R45). -/
def execWarmDeadlineExpiry (z : ZoneId) (s : State) : Result :=
  command (whileRunning fun s =>
    if reached (s.zones.get z).warmDl s.time then
      raiseAlarm .zoneWarm (.zone z) (modZone z (fun k => { k with warmDl := none }) s)
    else s) s

/-- RECOVERY_DEADLINE_EXPIRY (R46). -/
def execRecoveryDeadlineExpiry (z : ZoneId) (s : State) : Result :=
  command (whileRunning fun s =>
    if reached (s.zones.get z).recoveryDl s.time then warmEvaluate z (modZone z (fun k => { k with recoveryDl := none }) s)
    else s) s

/-- The location a zone's interval updates: HALL for Z0 (R47). -/
def zoneLoc (z : ZoneId) : Loc := if z = 0 then .hall else .zone z

/-- ZONE_EXPOSURE_INTERVAL_EXPIRY (R47): the updates, then the frost settlement. -/
def execZoneExposureIntervalExpiry (z : ZoneId) (s : State) : Result :=
  command (whileRunning fun s =>
    if reached (s.zones.get z).exposureDl s.time then
      let next := some (addTime s.time s.cfg.staging.exposureInterval)
      settleZoneDoors z (updateAt (zoneLoc z) (modZone z (fun k => { k with exposureDl := next }) s))
    else s) s

/-- BULK_DEADLINE_EXPIRY (R51). -/
def execBulkDeadlineExpiry (z : ZoneId) (s : State) : Result :=
  command (whileRunning fun s =>
    if reached (s.zones.get z).bulkDl s.time then bulkToOpen z none .deadline s else s) s

end Sys2Proof.Machine
end

