-- ==== Sys2Proof/Machine/Defrost.lean ====
section
/-! DEFINITION. The Defrost Scheduler's commands: DEFROST REQUEST (R152), FORCE DEFROST (R156), CANCEL DEFROST (R158), SET HEAT SLOTS
(R161), the two reads (R173) and its expiries (R151, R153, R155, R159, R162, R164, R169). -/

namespace Sys2Proof.Machine

open Sys2Proof

/-- One evaporator of a DEFROST REQUEST (R152). -/
def requestDefrost (x : Part × Nat) (e : EvapId) : Part × Nat :=
  if evapActive x.1 e ∧ (x.1.evaps.get e).sub = .idle then (enterDemand e x.1, x.2 + 1) else x

/-- DEFROST REQUEST with its list read (R152): OK with the number that entered DEMAND. -/
def defrostRequest (es : List EvapId) (s : Part) : Reply :=
  let x := es.foldl requestDefrost (s, 0)
  reply .ok (putU8 x.2) x.1

/-- DEFROST REQUEST (R152). -/
def execDefrostRequest (p : Port) (tag : Byte) (body : List Byte) (s : State) : Result :=
  command (serve 32 (some .plant) p tag (withBody (readEvapList body) defrostRequest)) s

/-- The eligible evaporators of a zone (R156). -/
def eligible (s : Part) (z : ZoneId) : List EvapId :=
  (List.finRange 16).filter fun e => evapOf s z e && (s.evaps.get e).sub != .fault

/-- An evaporator joins a forced batch: from IDLE it takes a demand time (R156). -/
def joinForced (now deferral : Nat) (k : Evap) : Evap :=
  { (if k.sub = .idle then demandNow now deferral k else k) with sub := .gather }

/-- Entry to FORCE_WAIT (R157). -/
def enterForceWait (z : ZoneId) (s : Part) : Part :=
  let t := modBatch z (fun b => { b with kind := .forced, phase := .forceWait, deadline := none }) s
  closingCheck z (withdraw z .forceDefrost (zonePastGather z t))

/-- The forced batch is formed (R156). -/
def formForced (z : ZoneId) (s : Part) : Part :=
  let es := eligible s z
  let t := match s.batches.get z with
    | none => putBatch z (some (openedBatch s .forced .gather es none)) s
    | some _ => modBatch z (fun b => { b with members := addMembers b.members es }) s
  forList es (fun e => modEvap e (joinForced s.time s.cfg.defrost.maxDeferral)) t

/-- An entry of a member list (Section 8.1): evaporator, outcome, fan started mark. -/
def putMember (m : Member) : List Byte := putElem m.evap ++ putOutcome m.outcome ++ putMark m.fanStarted

/-- The member list of a batch, as FORCE DEFROST and READ DEFROST carry it (R156, R173). -/
def putMembers (b : Batch) : List Byte := (b.members.map putMember).flatten

/-- The member list of a zone's batch. -/
def zoneMembers (s : Part) (z : ZoneId) : List Byte :=
  match s.batches.get z with
  | some b => putMembers b
  | none => []

/-- FORCE DEFROST with its zone read (R156): a BULK is revoked first (R55), then the batch is formed and enters FORCE_WAIT. -/
def forceDefrost (z : ZoneId) (s : Part) : Reply :=
  let m := (s.zones.get z).mode
  if m = .draining ∨ m = .pulldown then refuse .zoneClosed s
  else if pastGather s z then refuse .defrostRunning s
  else if (eligible s z).isEmpty then refuse .notReady s
  else
    let t := if m = .bulk then bulkToOpen z (some .forceDefrost) .revoked s else s
    let t := formForced z t
    reply .ok (zoneMembers t z) (enterForceWait z t)

/-- FORCE DEFROST (R156). -/
def execForceDefrost (p : Port) (tag : Byte) (body : List Byte) (s : State) : Result :=
  command (serve 33 (some .plant) p tag (zoneRequest body forceDefrost)) s

/-- CANCEL DEFROST with its zone read (R158). -/
def cancelDefrost (z : ZoneId) (s : Part) : Reply :=
  match s.batches.get z with
  | none => reply .ok [] s
  | some b =>
    match b.phase with
    | .gather | .forceWait => reply .ok [] (endBatch z .cancelled s)
    | .pumpdown | .heat | .drip | .refreeze => refuse .defrostRunning s

/-- CANCEL DEFROST (R158). -/
def execCancelDefrost (p : Port) (tag : Byte) (body : List Byte) (s : State) : Result :=
  command (serve 34 (some .plant) p tag (zoneRequest body cancelDefrost)) s

/-- SET HEAT SLOTS with its count read (R161): the count in force follows while the plant port is ACTIVE, which the request makes it. -/
def setHeatSlots (n : Nat) (s : Part) : Reply :=
  let k := min n 8
  let t := { s with heatCommanded := k }
  let t := if t.portPlant.silent then t else setInForce k t
  reply (if n ≤ 8 then .ok else .okClamped) (putU8 t.heatCommanded ++ putU8 t.heatInForce) t

/-- SET HEAT SLOTS (R161). -/
def execSetHeatSlots (p : Port) (tag : Byte) (body : List Byte) (s : State) : Result :=
  command (serve 35 (some .plant) p tag (withBody (readCount body) setHeatSlots)) s

def putEvapLast (r : EvapReport) : List Byte := putOpt 2 putI16 r.coil ++ putMark r.current ++ putMark r.fan

/-- The batch fields READ EVAPORATOR gives for a member. -/
def putMembership (s : Part) (e : EvapId) : List Byte :=
  putOpt 5 (fun (x : ZoneId × Batch) =>
    let m := (memberOf s e).getD (newMember e)
    putZone x.1 ++ putU8 (Phase.code x.2.phase) ++ putOutcome m.outcome ++ putMark m.fanStarted) (batchOf s e)

/-- The image of an evaporator's station. -/
def evapImage (s : Part) (e : EvapId) : Image :=
  if evapActive s e then
    let o := evapOutputs s e
    .evap o.1 o.2.1 o.2.2
  else .evap false false false

/-- The body of a READ EVAPORATOR response (R173). -/
def evapBody (s : Part) (e : EvapId) : List Byte :=
  let k := s.evaps.get e
  putU8 (SubState.code k.sub) ++ putOpt 1 (fun c => putU8 (FaultCause.code c)) k.faultCause ++ putU16 k.frost ++ putTime? k.demandTime
    ++ putTime? k.overdueDl ++ putU32 k.lastEnd ++ putTime? k.backstopDl ++ putTime? k.heatStart ++ putTime? k.heatDl
    ++ putU16 k.heatUsed ++ putU8 k.noCurrent ++ putU8 k.stuck ++ putOpt 5 putEvapLast k.last
    ++ putOpt 1 putZone (s.cfg.evaps.get e).zone ++ putImage (evapImage s e) ++ putMembership s e

/-- READ EVAPORATOR (R173). -/
def execReadEvaporator (p : Port) (tag : Byte) (body : List Byte) (s : State) : Result :=
  command (serve 36 none p tag
    (withBody (readEvap body) fun e s =>
      inServiceOr (s.cfg.evaps.get e).inService (fun s => reply .ok (evapBody s e) s) s)) s

/-- A batch record (Section 8.1). -/
def putBatchRecord (z : ZoneId) (b : Batch) : List Byte :=
  putZone z ++ putU8 (BatchKind.code b.kind) ++ putU8 (Phase.code b.phase) ++ putMembers b ++ putTime? b.deadline
    ++ putU32 b.opened ++ putU8 b.suspendLimit ++ putU8 b.suspendCount ++ putMark b.suspended ++ putTime? b.suspendedSince
    ++ putTime? b.suspensionDl ++ putMark b.withdrawn

/-- The body of a READ DEFROST response (R173). DESIGN CHOICE (notes/assumptions/4.md): the evaporators in DEMAND stand in ascending
number. -/
def defrostBody (s : Part) (z : ZoneId) : List Byte :=
  (match s.batches.get z with | some b => 1 :: putBatchRecord z b | none => [0])
    ++ ((demanding s z).map fun e => putElem e).flatten ++ putU8 s.heatCommanded ++ putU8 s.heatInForce ++ putU8 (heatingCount s)

/-- READ DEFROST (R173). -/
def execReadDefrost (p : Port) (tag : Byte) (body : List Byte) (s : State) : Result :=
  command (serve 37 none p tag (zoneRequest body fun z s => reply .ok (defrostBody s z) s)) s

/-! ### Expiries -/

/-- BACKSTOP_DEADLINE_EXPIRY (R151). -/
def execBackstopDeadlineExpiry (e : EvapId) (s : State) : Result :=
  command (whileRunning fun s =>
    if reached (s.evaps.get e).backstopDl s.time then
      onlyIf (evapActive s e && (s.evaps.get e).sub == .idle) (enterDemand e) (modEvap e (fun k => { k with backstopDl := none }) s)
    else s) s

/-- OVERDUE_DEADLINE_EXPIRY (R153). -/
def execOverdueDeadlineExpiry (e : EvapId) (s : State) : Result :=
  command (whileRunning fun s =>
    if reached (s.evaps.get e).overdueDl s.time then
      raiseAlarm .defrostOverdue (.evap e) (modEvap e (fun k => { k with overdueDl := none }) s)
    else s) s

/-- The batch of a zone is in the phase and its deadline is reached. -/
def phaseDue (s : Part) (z : ZoneId) (ph : Phase) : Bool :=
  match s.batches.get z with
  | some b => b.phase == ph && reached b.deadline s.time
  | none => false

/-- GATHER_WINDOW_EXPIRY (R155). -/
def execGatherWindowExpiry (z : ZoneId) (s : State) : Result :=
  command (whileRunning fun s =>
    if phaseDue s z .gather then
      onlyIf ((s.zones.get z).mode == .open) (enterPumpdown z) (modBatch z (fun b => { b with deadline := none }) s)
    else s) s

/-- PUMPDOWN_DEADLINE_EXPIRY (R159). -/
def execPumpdownDeadlineExpiry (z : ZoneId) (s : State) : Result :=
  command (whileRunning fun s => if phaseDue s z .pumpdown then enterHeat z s else s) s

/-- The heat deadline of a member (R162): outcome TIME with DEFROST_INCOMPLETE, then the arbiter and R164. -/
def heatTimeout (e : EvapId) (s : Part) : Part :=
  let z := batchZone s e
  leaveHeatCheck z (arbiter (raiseAlarm .defrostIncomplete (.evap e) (giveOutcome e .time s.time s)))

/-- HEAT_DEADLINE_EXPIRY (R162). -/
def execHeatDeadlineExpiry (e : EvapId) (s : State) : Result :=
  command (whileRunning fun s =>
    if (s.evaps.get e).sub = .heating ∧ reached (s.evaps.get e).heatDl s.time then heatTimeout e s else s) s

/-- The drip deadline (R164): REFREEZE, with no fan started. -/
def enterRefreeze (z : ZoneId) (s : Part) : Part :=
  match s.batches.get z with
  | none => s
  | some b =>
    let t := modBatch z (fun b => { b with
      phase := .refreeze, deadline := some (addTime s.time s.cfg.defrost.refreezeMax)
      members := b.members.map fun m => { m with fanStarted := false } }) s
    refreezeCheck z (forList b.members (fun m => modEvap m.evap fun k => if k.sub = .fault then k else { k with sub := .refreeze }) t)

/-- DRIP_DEADLINE_EXPIRY (R164). -/
def execDripDeadlineExpiry (z : ZoneId) (s : State) : Result :=
  command (whileRunning fun s => if phaseDue s z .drip then enterRefreeze z s else s) s

/-- The refreeze maximum (R164): late fans are started, each with REFREEZE_LATE, and the batch ends. -/
def refreezeTimeout (z : ZoneId) (s : Part) : Part :=
  match s.batches.get z with
  | none => s
  | some b =>
    let late := b.members.filter fun m => !m.fanStarted && (s.evaps.get m.evap).sub != .fault
    endBatch z .complete
      (forList late (fun m t => raiseAlarm .refreezeLate (.evap m.evap) (modBatch z (startFan m.evap) t)) s)

/-- REFREEZE_MAXIMUM_EXPIRY (R164). -/
def execRefreezeMaximumExpiry (z : ZoneId) (s : State) : Result :=
  command (whileRunning fun s => if phaseDue s z .refreeze then refreezeTimeout z s else s) s

/-- Is the suspension deadline of the zone's batch reached? -/
def suspensionDue (s : Part) (z : ZoneId) : Bool :=
  match s.batches.get z with
  | some b => reached b.suspensionDl s.time
  | none => false

/-- SUSPENSION_DEADLINE_EXPIRY (R169). -/
def execSuspensionDeadlineExpiry (z : ZoneId) (s : State) : Result :=
  command (whileRunning fun s =>
    if suspensionDue s z then
      resumeCheck z (withdraw z .suspendLimit (modBatch z (fun b => { b with suspensionDl := none, withdrawn := true }) s))
    else s) s

end Sys2Proof.Machine
end

