-- ==== Sys2Proof/Machine/Doors.lean ====
section
/-! DEFINITION. The Door Controller's commands: READ DOOR (R90), claims and holds (R71 to R73), seal requests (R63, R64), OPEN DOOR
(R74), CLOSE DOOR (R78) and its expiries (R63 to R66, R79, R82, R84, R89). -/

namespace Sys2Proof.Machine

open Sys2Proof

/-- A door's in-service field. -/
def doorInService (s : Part) : DoorRef → Bool
  | .dock d => dockInService s d
  | .portal q => portalInService s q

/-- A request whose body has been read and that names a door: the door must be in service (Section 4.3). -/
def doorRequest {α : Type} (x : Option α) (door : α → DoorRef) (h : α → Part → Reply) : Part → Reply :=
  withBody x fun a s => inServiceOr (doorInService s (door a)) (h a) s

/-- A request of dock doors only: a portal is refused BAD_REQUEST (R63, R64, R71, R72, R74). -/
def dockOnly (d : DoorRef) (h : DoorId → Part → Reply) (s : Part) : Reply :=
  match d with
  | .dock d => h d s
  | .portal _ => refuse .badRequest s

/-- The revision check: STALE carries the current revision (Section 4.3). -/
def revisionOr (current expected : Nat) (h : Part → Reply) (s : Part) : Reply :=
  if current = expected then h s else reply .stale (putU16 current) s

/-- OK with the revision as it stands. -/
def okDockRevision (d : DoorId) (s : Part) : Reply := reply .ok (putU16 (s.docks.get d).revision) s

def okPortalRevision (q : PortalId) (s : Part) : Reply := reply .ok (putU16 (s.portals.get q).revision) s

/-! ### READ DOOR -/

def putPending (r : Option PendingReq) : List Byte := putOpt 5 (fun r => putU8 (Origin.code r.origin) ++ putU32 r.time) r

def putDockLast (r : DockLast) : List Byte :=
  putMark r.presence ++ putU8 (Position.code r.position) ++ putU8 (SealState.code r.sealState) ++ putOpt 2 putI16 r.temp
    ++ putU32 r.time

def putPortalLast (r : PortalLast) : List Byte := putU8 (Position.code r.position) ++ putU32 r.time

/-- The body of READ DOOR for a dock door (R90). -/
def dockBody (s : Part) (d : DoorId) : List Byte :=
  let k := s.docks.get d
  putU8 (DockState.code k.state) ++ putMark k.firstPending ++ putU8 (Claim.code k.claim) ++ putOpt 4 putU32 k.trailer
    ++ putMark k.returnMark ++ putU16 k.revision ++ putOpt 1 putU8 k.capture ++ putTime? k.captureStart ++ putTime? k.sealDl
    ++ putTime? k.travelDl ++ putTime? k.openDl ++ putTime? k.exposureDl ++ putU8 k.extensions ++ putU8 k.consistent
    ++ putPending k.pending ++ putMark k.refusal ++ putOpt 10 putDockLast k.last ++ putTime? k.settleFrom ++ putU8 k.carry
    ++ putImage (.dock (driveOf k.state) k.sealOut (lampOf k)) ++ putU8 (SlotState.code (s.slots.get d).state)

/-- The body of READ DOOR for a portal (R90). -/
def portalBody (s : Part) (q : PortalId) : List Byte :=
  let k := s.portals.get q
  putU8 (PortalState.code k.state) ++ putMark k.firstPending ++ putU8 (Claim.code k.claim) ++ putU16 k.revision
    ++ putTime? k.grantDl ++ putTime? k.travelDl ++ putU8 k.consistent ++ putPending k.pending ++ putOpt 5 putPortalLast k.last
    ++ putTime? k.settleFrom ++ putU8 k.carry ++ putImage (.portal k.openCommand)

def doorBody (s : Part) : DoorRef → List Byte
  | .dock d => dockBody s d
  | .portal q => portalBody s q

/-- READ DOOR (R90). -/
def execReadDoor (p : Port) (tag : Byte) (body : List Byte) (s : State) : Result :=
  command (serve 11 none p tag (doorRequest (readDoor body) id fun d s => reply .ok (doorBody s d) s)) s

/-! ### Claims and holds -/

/-- A claim is set; the refusal mark is cleared (R81). -/
def setClaim (c : Claim) (trailer : Option Nat) (k : Dock) : Dock :=
  { k with claim := c, trailer := trailer, returnMark := false, refusal := false }

/-- CLAIM DOOR from check 2 on (R71). -/
def claimDock (x : ClaimReq) (d : DoorId) : Part → Reply := fun s =>
  revisionOr (s.docks.get d).revision x.revision (fun s =>
    if (s.docks.get d).claim ≠ .none then refuse .held s
    else okDockRevision d (trackDock d (modDock d (setClaim x.direction (some x.trailer))) s)) s

/-- CLAIM DOOR (R71). -/
def execClaimDoor (p : Port) (tag : Byte) (body : List Byte) (s : State) : Result :=
  command (serve 12 (some .warehouse) p tag (doorRequest (readClaim body) (·.door) fun x => dockOnly x.door (claimDock x))) s

/-- The cases in which UNCLAIM DOOR is refused BUSY_STATE (R72). -/
def unclaimBusy (s : Part) (d : DoorId) : Bool :=
  let k := s.docks.get d
  k.state == .opening || k.state == .open || k.state == .closing || k.state == .breach || (s.slots.get d).state == .loading
    || anyPalletAt s (.trailer d) || anyMoveUses s d

/-- UNCLAIM DOOR from check 2 on (R72). -/
def unclaimDock (rev : Nat) (d : DoorId) : Part → Reply := fun s =>
  revisionOr (s.docks.get d).revision rev (fun s =>
    match (s.docks.get d).claim with
    | .none => okDockRevision d s
    | .plantHold => refuse .held s
    | .inbound | .outbound =>
      if unclaimBusy s d then refuse .busyState s
      else
        okDockRevision d
          (emptySlotAt d (trackDock d (fun s => endPendingDock d .cancelled (modDock d (setClaim .none none) s)) s))) s

/-- UNCLAIM DOOR (R72). -/
def execUnclaimDoor (p : Port) (tag : Byte) (body : List Byte) (s : State) : Result :=
  command (serve 13 (some .warehouse) p tag
    (doorRequest (readDoorRev body) (·.1) fun x => dockOnly x.1 (unclaimDock x.2))) s

/-- HOLD DOOR at a dock door (R73). -/
def holdDock (d : DoorId) (s : Part) : Reply :=
  match (s.docks.get d).claim with
  | .inbound | .outbound => refuse .held s
  | .plantHold => okDockRevision d s
  | .none => okDockRevision d (trackDock d (modDock d fun k => { k with claim := .plantHold, refusal := false }) s)

/-- What a hold ends at a portal (R73): a grant, or a pending request. -/
def holdEnds (q : PortalId) (s : Part) : Part :=
  let k := s.portals.get q
  if grantLive k then modPortal q (grantEnded s.time) s
  else if k.state = .deferred then endPendingPortal q .cancelled (modPortal q (fun k => { k with state := .closed }) s)
  else s

/-- HOLD DOOR at a portal (R73). -/
def holdPortal (q : PortalId) (s : Part) : Reply :=
  match (s.portals.get q).claim with
  | .inbound | .outbound => refuse .held s
  | .plantHold => okPortalRevision q s
  | .none =>
    okPortalRevision q (trackPortal q (fun s => holdEnds q (modPortal q (fun k => { k with claim := .plantHold }) s)) s)

/-- HOLD DOOR after its service check (R73). -/
def holdDoor (x : DoorRef × Nat) (s : Part) : Reply :=
  match x.1 with
  | .dock d => revisionOr (s.docks.get d).revision x.2 (holdDock d) s
  | .portal q => revisionOr (s.portals.get q).revision x.2 (holdPortal q) s

/-- HOLD DOOR (R73). -/
def execHoldDoor (p : Port) (tag : Byte) (body : List Byte) (s : State) : Result :=
  command (serve 14 (some .plant) p tag (doorRequest (readDoorRev body) (·.1) holdDoor)) s

/-- UNHOLD DOOR at a dock door (R73). -/
def unholdDock (d : DoorId) (s : Part) : Reply :=
  match (s.docks.get d).claim with
  | .none => okDockRevision d s
  | .inbound | .outbound => refuse .held s
  | .plantHold => okDockRevision d (trackDock d (modDock d fun k => { k with claim := .none, refusal := false }) s)

/-- A portal released from the hold becomes HELD while its zone is in BULK (R73, R85). -/
def unholdBulk (q : PortalId) (s : Part) : Part :=
  onlyIf ((s.zones.get (portalZone s q)).mode == .bulk && bulkHolds (s.portals.get q)) (becomeHeld q) s

/-- UNHOLD DOOR at a portal (R73). -/
def unholdPortal (q : PortalId) (s : Part) : Reply :=
  match (s.portals.get q).claim with
  | .none => okPortalRevision q s
  | .inbound | .outbound => refuse .held s
  | .plantHold =>
    okPortalRevision q (trackPortal q (fun s => unholdBulk q (modPortal q (fun k => { k with claim := .none }) s)) s)

/-- UNHOLD DOOR after its service check (R73). -/
def unholdDoor (x : DoorRef × Nat) (s : Part) : Reply :=
  match x.1 with
  | .dock d => revisionOr (s.docks.get d).revision x.2 (unholdDock d) s
  | .portal q => revisionOr (s.portals.get q).revision x.2 (unholdPortal q) s

/-- UNHOLD DOOR (R73). -/
def execUnholdDoor (p : Port) (tag : Byte) (body : List Byte) (s : State) : Result :=
  command (serve 15 (some .plant) p tag (doorRequest (readDoorRev body) (·.1) unholdDoor)) s

/-! ### Seals -/

/-- SEAL or RESEAL at a dock door, taken from the given state (R63). -/
def inflate (from_ : DockState) (d : DoorId) (s : Part) : Reply :=
  let k := s.docks.get d
  if k.state ≠ from_ then refuse .busyState s
  else if k.claim = .plantHold then refuse .held s
  else reply .ok [] (trackDock d (modDock d (enterInflating s.time (s.cfg.docks.get d).sealLimit)) s)

/-- SEAL (R63). -/
def execSealDoor (p : Port) (tag : Byte) (body : List Byte) (s : State) : Result :=
  command (serve 16 (some .warehouse) p tag (doorRequest (readDoor body) id fun d => dockOnly d (inflate .arrived))) s

/-- RESEAL (R63). -/
def execReseal (p : Port) (tag : Byte) (body : List Byte) (s : State) : Result :=
  command (serve 19 none p tag (doorRequest (readDoor body) id fun d => dockOnly d (inflate .sealFault))) s

/-- RELEASE DOOR at a dock door (R64). DESIGN CHOICE (notes/assumptions/16.md): the unloaded check comes before the state, in the order of
the rule's list, so a door that fails both is refused UNLOADED; the rule gives no order between them. -/
def releaseDock (ret : Bool) (d : DoorId) (s : Part) : Reply :=
  let k := s.docks.get d
  let mark : Part → Part := modDock d fun k => { k with returnMark := ret }
  if k.claim = .inbound ∧ ret = false ∧ waitingOnTrailer s d then refuse .unloaded s
  else
    match k.state with
    | .sealed =>
      reply .ok []
        (trackDock d (fun s =>
          endPendingDock d .cancelled (mark (modDock d (enterReleasing s.time (s.cfg.docks.get d).sealLimit) s))) s)
    | .arrived | .sealFault => reply .ok [] (trackDock d mark s)
    | .vacant | .inflating | .opening | .open | .closing | .releasing | .breach | .fault | .lockedOut => refuse .busyState s

/-- RELEASE DOOR (R64). -/
def execReleaseDoor (p : Port) (tag : Byte) (body : List Byte) (s : State) : Result :=
  command (serve 17 (some .warehouse) p tag
    (doorRequest (readRelease body) (·.1) fun x => dockOnly x.1 (releaseDock x.2))) s

/-! ### Opening and closing -/

/-- OPEN DOOR at a dock door (R74, R75): absorbed by a pending request, else checked. The body carries the suspended flag. -/
def openDock (d : DoorId) (s : Part) : Reply :=
  if (s.docks.get d).pending.isSome then reply .deferred (putMark false) s
  else
    let x := askDock d .openDoor s
    match x.1 with
    | .refused st => refuse st x.2
    | .granted sus => reply .ok (putMark sus) x.2
    | .deferred => reply .deferred (putMark false) x.2

/-- OPEN DOOR (R74). -/
def execOpenDoor (p : Port) (tag : Byte) (body : List Byte) (s : State) : Result :=
  command (serve 18 (some .warehouse) p tag (doorRequest (readDoor body) id fun d => dockOnly d openDock)) s

/-- CLOSE DOOR after its service check (R78). -/
def closeDoor (x : DoorRef) (s : Part) : Reply :=
  match x with
  | .dock d =>
    let k := s.docks.get d
    if k.state = .opening ∨ k.state = .open then reply .ok [] (closeDock d s)
    else if k.state = .sealed then reply .ok [] (trackDock d (endPendingDock d .cancelled) s)
    else reply .ok [] s
  | .portal q =>
    let k := s.portals.get q
    if k.state = .held then refuse .held s
    else if k.state = .granted ∨ (k.state = .open ∧ k.openCommand) then reply .ok [] (endGrant q s)
    else if k.state = .deferred then
      reply .ok []
        (trackPortal q (fun s => endPendingPortal q .cancelled (modPortal q (fun k => { k with state := .closed }) s)) s)
    else reply .ok [] s

/-- CLOSE DOOR (R78). -/
def execCloseDoor (p : Port) (tag : Byte) (body : List Byte) (s : State) : Result :=
  command (serve 20 none p tag (doorRequest (readDoor body) id closeDoor)) s

/-! ### Expiries -/

/-- The seal deadline reached in INFLATING or RELEASING (R63, R64). -/
def sealTimeout (d : DoorId) (s : Part) : Part :=
  raiseAlarm .sealFail (.door (.dock d)) (trackDock d (modDock d enterSealFault) s)

/-- SEAL_DEADLINE_EXPIRY (R63, R64). -/
def execSealDeadlineExpiry (d : DoorId) (s : State) : Result :=
  command (whileRunning fun s => if reached (s.docks.get d).sealDl s.time then sealTimeout d s else s) s

/-- TRAVEL_DEADLINE_EXPIRY (R65, R66): the door enters FAULT. -/
def execTravelDeadlineExpiry (d : DoorId) (s : State) : Result :=
  command (whileRunning fun s => if reached (s.docks.get d).travelDl s.time then faultDock d s else s) s

/-- PORTAL_TRAVEL_DEADLINE_EXPIRY (R82). -/
def execPortalTravelDeadlineExpiry (q : PortalId) (s : State) : Result :=
  command (whileRunning fun s => if reached (s.portals.get q).travelDl s.time then faultPortal q s else s) s

/-- The open deadline of a dock door (R79): extended while a move uses the door, at most three times, else the door closes. -/
def openTimeout (d : DoorId) (s : Part) : Part :=
  let k := s.docks.get d
  let limit := (s.cfg.handling.get d).openLimit
  if anyMoveUses s d ∧ k.extensions < 3 then
    modDock d (fun k => { k with
      openDl := if limit = 0 then none else some (addTime s.time limit), extensions := k.extensions + 1 }) s
  else notifyBoth (.doorAutoClose (.dock d) .openLimit (some k.extensions)) (closeDock d s)

/-- OPEN_DEADLINE_EXPIRY (R79). -/
def execOpenDeadlineExpiry (d : DoorId) (s : State) : Result :=
  command (whileRunning fun s => if reached (s.docks.get d).openDl s.time then openTimeout d s else s) s

/-- GRANT_DEADLINE_EXPIRY (R84). -/
def execGrantDeadlineExpiry (q : PortalId) (s : State) : Result :=
  command (whileRunning fun s => if reached (s.portals.get q).grantDl s.time then endGrant q s else s) s

/-- DOOR_EXPOSURE_INTERVAL_EXPIRY (R89). -/
def execDoorExposureIntervalExpiry (d : DoorId) (s : State) : Result :=
  command (whileRunning fun s =>
    if reached (s.docks.get d).exposureDl s.time then
      let next := some (addTime s.time s.cfg.staging.exposureInterval)
      updateAt (.trailer d) (modDock d (fun k => { k with exposureDl := next }) s)
    else s) s

end Sys2Proof.Machine
end

