-- ==== Sys2Proof/Machine/Loop.lean ====
section
/-! DEFINITION. The Field Loop Controller's commands: rounds and polls (R19, R20), the report window (R21), the reports (R30 to R33,
R202) and READ STATION (R36). -/

namespace Sys2Proof.Machine

open Sys2Proof

def modLoop (f : Loop → Loop) (s : Part) : Part := { s with loop := f s.loop }

/-- The stations of a round, in ascending address (R19). -/
def pollable (s : Part) : List StationId := (List.finRange 62).filter (stationActive s)

/-- May a round begin (R19)? The round before has ended, and 200 ms have passed since it began. -/
def roundMayBegin (s : Part) (ms : Nat) : Bool :=
  s.loop.round.isEmpty && s.loop.inFlight.isNone &&
    (match s.loop.roundStart with
     | some t => t + roundMs ≤ ms
     | none => true)

/-- ROUND_START (R19). -/
def execRoundStart (ms : Nat) (s : State) : Result :=
  command (whileRunning fun s =>
    if roundMayBegin s ms then modLoop (fun l => { l with roundStart := some ms, round := pollable s }) s else s) s

/-- POLL (R20): the next station of the round is polled, once the window of the poll before has ended. -/
def execPoll (s : State) : Result :=
  command (whileRunning fun s =>
    match s.loop.round, s.loop.inFlight with
    | a :: l, none =>
      let i := imageOf s a
      send (.poll a (s.cfg.stations.get a).kind i (s.loop.stations.get a).sectionTaken)
        (modLoop (fun k => { k with round := l, inFlight := some ⟨a, i, false⟩ }) s)
    | _, _ => s) s

/-- REPORT_WINDOW_EXPIRY (R20, R21). -/
def execReportWindowExpiry (s : State) : Result := command (whileRunning missInFlight) s

/-- A DOCK report (R29, R30). -/
def takeDockReport (a : StationId) (body : List Byte) : Part → Part :=
  goodReport .dock a (readDockReport body) fun _ r s => deliverDock a r (takeSection a r.events s)

/-- A PORTAL report (R29, R31). -/
def takePortalReport (a : StationId) (body : List Byte) : Part → Part :=
  goodReport .portal a (readPortalReport body) fun _ r s => deliverPortal a r (takeSection a r.events s)

/-- An EVAP report (R32). -/
def takeEvapReport (a : StationId) (body : List Byte) : Part → Part :=
  goodReport .evap a (readEvapReport body) fun i r s => deliverEvap a i r s

/-- A PROBE report (R33). -/
def takeProbeReport (a : StationId) (body : List Byte) : Part → Part :=
  goodReport .probe a (readProbeReport body) fun _ r s => deliverProbe a r s

/-- A report frame that passed the checks of R202, by its kind. -/
def takeReport (f : ReportFrame) : Part → Part :=
  match f.kind with
  | .dock => takeDockReport f.addr f.body
  | .portal => takePortalReport f.addr f.body
  | .evap => takeEvapReport f.addr f.body
  | .probe => takeProbeReport f.addr f.body
  | .none => missInFlight

/-- BAD_REPORT (R202): bytes that fail a check are a miss. Bytes that pass every check are taken as the report they are. -/
def execBadReport (bytes : List Byte) (s : State) : Result :=
  command (whileRunning
    (match readReport bytes with
     | some f => takeReport f
     | none => missInFlight)) s

/-- DOCK_REPORT (R30). -/
def execDockReport (a : StationId) (body : List Byte) (s : State) : Result := command (whileRunning (takeDockReport a body)) s

/-- PORTAL_REPORT (R31). -/
def execPortalReport (a : StationId) (body : List Byte) (s : State) : Result := command (whileRunning (takePortalReport a body)) s

/-- EVAP_REPORT (R32). -/
def execEvapReport (a : StationId) (body : List Byte) (s : State) : Result := command (whileRunning (takeEvapReport a body)) s

/-- PROBE_REPORT (R33). -/
def execProbeReport (a : StationId) (body : List Byte) (s : State) : Result := command (whileRunning (takeProbeReport a body)) s

/-- The elements bound to a station, one byte each. DESIGN CHOICE (notes/assumptions/4.md): R36 and R201 give no order for several of them;
they stand as dock doors, portals, evaporators, probes, each in ascending number, so the probes of a PROBE station stand in ascending probe
number and not in channel order. -/
def putBound (s : Part) (a : StationId) : List Byte :=
  (((List.finRange 24).filter fun d => (s.cfg.docks.get d).station == some a).map (fun d => putElem d)).flatten
    ++ (((List.finRange 12).filter fun q => (s.cfg.portals.get q).station == some a).map (fun q => putDoor (.portal q))).flatten
    ++ (((List.finRange 16).filter fun e => (s.cfg.evaps.get e).station == some a).map (fun e => putElem e)).flatten
    ++ (((List.finRange 24).filter fun t => (s.cfg.probes.get t).station == some a).map (fun t => putElem t)).flatten

/-- The body of a READ STATION response (R36). -/
def stationBody (s : Part) (a : StationId) : List Byte :=
  let c := s.cfg.stations.get a
  let k := s.loop.stations.get a
  putStationCfg c ++ putU8 (Link.code k.link) ++ putU8 k.miss ++ putU8 k.good ++ putTime? k.lastReport ++ putSection k.sectionTaken
    ++ putImage (imageOf s a) ++ putBound s a

/-- READ STATION (R36). -/
def execReadStation (p : Port) (tag : Byte) (body : List Byte) (s : State) : Result :=
  command (serve 5 none p tag (withBody (readStation body) fun a s => reply .ok (stationBody s a) s)) s

end Sys2Proof.Machine
end

