-- ==== Sys2Proof/Machine/Manifests.lean ====
section
/-! DEFINITION. The manifest requests of the Move Tracker (R93 to R102) and the entry deadline (R96). -/

namespace Sys2Proof.Machine

open Sys2Proof

/-- A manifest request (Section 5.1): a portal is refused BAD_REQUEST, an out-of-service dock door UNKNOWN_ID. -/
def manifestRequest {α : Type} (x : Option α) (door : α → DoorRef) (h : α → DoorId → Part → Reply) : Part → Reply :=
  withBody x fun a s => dockOnly (door a) (fun d s => inServiceOr (dockInService s d) (h a d) s) s

/-- A slot in LOADING (R93). -/
def loadingSlot (count now limit : Nat) : Slot :=
  { state := .loading, count := some count, next := some 1, entries := [], deadline := some (addTime now limit), fault := none
    committed := 0 }

/-- The door states in which a manifest may begin (R93). -/
def mayBegin : DockState → Bool
  | .arrived | .inflating | .sealed => true
  | .vacant | .opening | .open | .closing | .releasing | .breach | .sealFault | .fault | .lockedOut => false

/-- MANIFEST BEGIN with its door read (R93). -/
def beginManifest (count rev : Nat) (d : DoorId) (s : Part) : Reply :=
  let k := s.docks.get d
  let st := (s.slots.get d).state
  if ¬ (1 ≤ count ∧ count ≤ 36) then refuse .badRequest s
  else if k.revision ≠ rev then reply .stale (putU16 k.revision) s
  else if st = .loadFault then refuse .loadFault s
  else if st ≠ .empty then refuse .busyState s
  else if k.claim ≠ .inbound then refuse .notReady s
  else if ¬ mayBegin k.state then refuse .busyState s
  else okDockRevision d (changeSlot d (fun _ => loadingSlot count s.time s.cfg.staging.entryDeadline) s)

/-- MANIFEST BEGIN (R93). -/
def execManifestBegin (p : Port) (tag : Byte) (body : List Byte) (s : State) : Result :=
  command (serve 21 (some .warehouse) p tag
    (manifestRequest (readBegin body) (·.1) fun x => beginManifest x.2.1 x.2.2)) s

/-- The field checks of an ENTRY (R94). -/
def entryOf (x : EntryReq) : Option Entry :=
  if h : x.cls < 8 then
    if 1 ≤ x.seq ∧ x.seq ≤ 36 ∧ x.id ≠ 0 ∧ x.consignee ≤ 4095 ∧ -500 ≤ x.temp ∧ x.temp ≤ 500 then
      some ⟨x.seq, x.id, x.consignee, ⟨x.cls, h⟩, x.temp⟩
    else none
  else none

/-- OK of an ENTRY: next sequence and slot state (R94). -/
def entryReply (d : DoorId) (s : Part) : Reply :=
  let k := s.slots.get d
  reply .ok (putU8 (k.next.getD 0) ++ putU8 (SlotState.code k.state)) s

/-- The load faults (R97). -/
def loadFaults (d : DoorId) (c : LoadCause) (detail : Nat) (s : Part) : Reply := refuse .loadFault (faultSlot d c detail s)

/-- The slot after an accepted entry (R94). -/
def addEntry (e : Entry) (now limit : Nat) (k : Slot) : Slot :=
  let es := k.entries ++ [e]
  let full := k.count == some es.length
  { k with
    entries := es, next := k.next.map (· + 1), state := if full then .loaded else k.state
    deadline := if full then none else some (addTime now limit) }

/-- A well-formed ENTRY by the slot state (R94, R95). -/
def takeEntry (e : Entry) (d : DoorId) (s : Part) : Reply :=
  let k := s.slots.get d
  let isRepeat := k.entries.getLast? = some e
  match k.state with
  | .empty => refuse .notReady s
  | .committed => refuse .busyState s
  | .loadFault => refuse .loadFault s
  | .loading =>
    if isRepeat then entryReply d s
    else if k.next ≠ some e.seq then loadFaults d .sequence e.seq s
    else if k.entries.any fun x => x.id == e.id then loadFaults d .duplicateId e.id s
    else entryReply d (changeSlot d (addEntry e s.time s.cfg.staging.entryDeadline) s)
  | .loaded => if isRepeat then entryReply d s else loadFaults d .excessEntry e.seq s

/-- MANIFEST ENTRY (R94, R95). -/
def execManifestEntry (p : Port) (tag : Byte) (body : List Byte) (s : State) : Result :=
  command (serve 22 (some .warehouse) p tag
    (manifestRequest (readEntry body) (·.door) fun x d s =>
      match entryOf x with
      | some e => takeEntry e d s
      | none => refuse .badRequest s)) s

/-- Free records of the pallet table (R98). -/
def freeRecords (s : Part) : Nat := palletRoom - s.pallets.length

/-- OK of a COMMIT: committed count and revision (R98). -/
def commitReply (d : DoorId) (s : Part) : Reply :=
  reply .ok (putU8 (s.slots.get d).committed ++ putU16 (s.docks.get d).revision) s

/-- The records of a manifest are created (R98 step 3, R99). -/
def createRecords (d : DoorId) (s : Part) : Part :=
  let es := (s.slots.get d).entries
  let t := { s with pallets := es.foldl (fun l e => insertPallet (committedPallet s d e) l) s.pallets }
  changeSlot d (fun k => { k with state := .committed, committed := k.count.getD 0 }) t

/-- MANIFEST COMMIT by the slot state (R98). -/
def commitManifest (d : DoorId) (s : Part) : Reply :=
  let k := s.slots.get d
  match k.state with
  | .empty => refuse .notReady s
  | .loading => loadFaults d .shortCommit (k.next.getD 0) s
  | .committed => commitReply d s
  | .loadFault => refuse .loadFault s
  | .loaded =>
    match k.entries.find? fun e => (findPallet s e.id).isSome with
    | some e => loadFaults d .idInTable e.id s
    | none =>
      if freeRecords s < k.count.getD 0 then reply .tableFull (putU16 (freeRecords s)) s
      else commitReply d (createRecords d s)

/-- MANIFEST COMMIT (R98). -/
def execManifestCommit (p : Port) (tag : Byte) (body : List Byte) (s : State) : Result :=
  command (serve 23 (some .warehouse) p tag (manifestRequest (readDoor body) id fun _ => commitManifest)) s

/-- MANIFEST CLEAR by the slot state (R100). -/
def clearManifest (d : DoorId) (s : Part) : Reply :=
  match (s.slots.get d).state with
  | .empty => reply .ok [] s
  | .loading | .loaded | .loadFault => reply .ok [] (emptySlotAt d s)
  | .committed => refuse .busyState s

/-- MANIFEST CLEAR (R100). -/
def execManifestClear (p : Port) (tag : Byte) (body : List Byte) (s : State) : Result :=
  command (serve 24 (some .warehouse) p tag (manifestRequest (readDoor body) id fun _ => clearManifest)) s

def putEntry (e : Entry) : List Byte := putU8 e.seq ++ putU32 e.id ++ putU16 e.consignee ++ putU8 e.cls.val ++ putI16 e.temp

/-- A fault record (R91, R102): cause, detail, time. DESIGN CHOICE (notes/assumptions/4.md): the detail takes 4 bytes for every cause, since
it is a sequence number of 1 byte or a pallet identifier of 4 and no rule says which width the field has. -/
def putFault (f : FaultRecord) : List Byte := putU8 (LoadCause.code f.cause) ++ putU32 f.detail ++ putU32 f.time

/-- The body of a READ MANIFEST response (R102). -/
def manifestBody (s : Part) (d : DoorId) : List Byte :=
  let k := s.slots.get d
  putU8 (SlotState.code k.state) ++ putOpt 1 putU8 k.count ++ putOpt 1 putU8 k.next ++ (k.entries.map putEntry).flatten
    ++ putTime? k.deadline ++ putOpt 9 putFault k.fault ++ putU8 k.committed ++ putU16 (s.docks.get d).revision
    ++ putU8 (Claim.code (s.docks.get d).claim)

/-- READ MANIFEST (R102). -/
def execReadManifest (p : Port) (tag : Byte) (body : List Byte) (s : State) : Result :=
  command (serve 25 none p tag (manifestRequest (readDoor body) id fun _ d s => reply .ok (manifestBody s d) s)) s

/-- ENTRY_DEADLINE_EXPIRY (R96). -/
def execEntryDeadlineExpiry (d : DoorId) (s : State) : Result :=
  command (whileRunning fun s =>
    let k := s.slots.get d
    if k.state = .loading ∧ reached k.deadline s.time then faultSlot d .deadline (k.next.getD 0) s else s) s

end Sys2Proof.Machine
end

