-- ==== Sys2Proof/Machine/Pallets.lean ====
section
/-! DEFINITION. The pallet requests of the Move Tracker (R111 to R114, R117, R121, R129, R130) and the expiry of a move (R116). -/

namespace Sys2Proof.Machine

open Sys2Proof

/-- The service of a location's door or zone (R2). DESIGN CHOICE (notes/assumptions/10.md): HALL names neither, so it is never UNKNOWN_ID,
also while Z0 is out of service; the spec does not say whether HALL names Z0. -/
def locInService (s : Part) : Loc → Bool
  | .trailer d => dockInService s d
  | .hall => true
  | .zone z => zoneInService s z

/-- Check 4 of MOVE (R112). -/
def routeAgrees (p : Pallet) (e : Dest) : Bool :=
  match e with
  | .hall => true
  | .door _ => !p.quarantined && p.route.action == .cross
  | .zone z =>
    if p.quarantined then z == p.route.quarantineZone
    else
      match p.route.action with
      | .store y | .quarantine y => z == y
      | .cross => false

/-- Is a zone of the path open to moves (check 5, R113)? -/
def zoneTakesMoves (s : Part) (z : ZoneId) : Bool :=
  ((s.zones.get z).mode == .open || (s.zones.get z).mode == .bulk || (s.zones.get z).mode == .bulkPending) && !forcedRunning s z

/-- Check 6 of MOVE (R113): the refusal, if any. -/
def doorTakes (s : Part) (e : Dest) : Option Status :=
  match e with
  | .door d =>
    let k := s.docks.get d
    if ¬ (k.claim = .outbound ∧ (k.state = .sealed ∨ k.state = .opening ∨ k.state = .open)) then some .notReady
    else if loadLimit ≤ loadCount s d then some .trailerFull
    else none
  | .hall | .zone _ => none

/-- Check 7 of MOVE (R120). -/
def creditFree (s : Part) (o : Loc) : Bool :=
  match creditLimit s o with
  | some n => s.credits < n
  | none => true

/-- Checks 2 to 7 of MOVE (R111) in order: the refusal, if any. -/
def moveRefusal (s : Part) (p : Pallet) (e : Dest) : Option Status :=
  firstSome
    [failing (!(p.status == .waiting || p.status == .standing)) .busyState,
      failing (destOf e == p.loc) .badRequest,
      failing (!routeAgrees p e) .routeMismatch,
      failing (!(pathZones p.loc e).all (zoneTakesMoves s)) .zoneClosed,
      doorTakes s e,
      failing (!creditFree s p.loc) .noCredit]

/-- The move created at a grant (R114). -/
def newMove (s : Part) (p : Pallet) (e : Dest) : Move :=
  ⟨p.loc, e, s.time, addTime s.time s.cfg.staging.moveLimit, reserves p.loc⟩

/-- The grant of a move (R114). -/
def grantMove (p : Pallet) (e : Dest) (s : Part) : Part :=
  let m := newMove s p e
  { modPallet p.id (fun p => { p with move := some m, status := .moving }) s with
    credits := if m.reserved then s.credits + 1 else s.credits }

/-- The doors a path uses at one of its ends (R110): the dock door of a trailer, any in-service portal of a zone, none of the hall. -/
def endDoors (s : Part) : Loc → List DoorRef
  | .trailer d => [.dock d]
  | .hall => []
  | .zone z => ((List.finRange 12).filter (portalOf s z)).map .portal

/-- The doors of a path, in the order of its row in R110: those of the origin, then those of the destination. DESIGN CHOICE
(notes/assumptions/4.md): the portals of one zone stand in ascending number. -/
def pathDoors (s : Part) (o : Loc) (e : Dest) : List DoorRef := endDoors s o ++ endDoors s (destOf e)

/-- The OK of a MOVE (R114, Section 11.3). -/
def moveReply (m : Move) (s : Part) : Reply :=
  let ds := pathDoors s m.origin m.dest
  let zs := pathZones m.origin m.dest
  reply .ok (putU32 m.expiry ++ putMark m.reserved ++ putU8 ds.length ++ (ds.map putDoor).flatten ++ putU8 zs.length
    ++ (zs.map putZone).flatten) s

/-- MOVE with its body read (R111). -/
def moveRequest (id : Nat) (e : Dest) (s : Part) : Reply :=
  if id = 0 then refuse .badRequest s
  else if locInService s (destOf e) = false then refuse .unknownId s
  else
    match findPallet s id with
    | none => refuse .unknownId s
    | some p =>
      match moveRefusal s p e with
      | some st => refuse st s
      | none => moveReply (newMove s p e) (grantMove p e s)

/-- MOVE (R111). -/
def execMove (p : Port) (tag : Byte) (body : List Byte) (s : State) : Result :=
  command (serve 26 (some .warehouse) p tag (withBody (readMove body) fun x => moveRequest x.1 x.2)) s

/-- A request that names a pallet: 0 is refused BAD_REQUEST, an identifier with no record UNKNOWN_ID. -/
def palletRequest (body : List Byte) (h : Pallet → Part → Reply) : Part → Reply :=
  withBody (readPalletId body) fun id s =>
    if id = 0 then refuse .badRequest s
    else
      match findPallet s id with
      | some p => h p s
      | none => refuse .unknownId s

/-- CANCEL MOVE for a record (R117): the response carries the location and status after it. -/
def cancelMove (p : Pallet) (s : Part) : Reply :=
  let t := endMove p.id (some (NoticeBody.moveCancelled · .request)) s
  match findPallet t p.id with
  | some q => reply .ok (putLoc q.loc ++ putU8 (PalletStatus.code q.status)) t
  | none => reply .ok [] t

/-- CANCEL MOVE (R117). -/
def execCancelMove (p : Port) (tag : Byte) (body : List Byte) (s : State) : Result :=
  command (serve 27 (some .warehouse) p tag (palletRequest body cancelMove)) s

/-- REMOVE PALLET for a record (R129). -/
def removeRecord (p : Pallet) (s : Part) : Reply :=
  if p.status = .moving ∨ p.status = .loaded then refuse .busyState s
  else
    let t := updatePallet p.id s
    let q := (findPallet t p.id).getD p
    let t := match p.loc with
      | .hall => { t with credits := t.credits - 1 }
      | .zone z => drainCheck 0 (drainCheck z t)
      | .trailer _ => t
    reply .ok (putLoc q.loc ++ putU32 (reported q.exposure) ++ putMark q.quarantined) (dropPallet p.id t)

/-- REMOVE PALLET (R129). -/
def execRemovePallet (p : Port) (tag : Byte) (body : List Byte) (s : State) : Result :=
  command (serve 28 (some .warehouse) p tag (palletRequest body removeRecord)) s

/-- The move bytes of the pallet status record: presence, origin, destination, grant time, expiry, credit reserved. -/
def putMove (m : Option Move) : List Byte :=
  putOpt 13 (fun m => putLoc m.origin ++ putDest m.dest ++ putU32 m.granted ++ putU32 m.expiry ++ putMark m.reserved) m

/-- The pallet status record of 59 bytes (Section 11.3). -/
def putPallet (p : Pallet) : List Byte :=
  putU32 p.id ++ putLoc p.loc ++ putU8 (PalletStatus.code p.status) ++ putU16 p.consignee ++ putU8 p.cls.val
    ++ putAction p.route.action ++ putU16 p.route.dwell ++ putZone p.route.quarantineZone
    ++ putU8 (match p.route.source with | some i => i.val | none => 255) ++ putTime? p.hallEntry ++ putMark p.dwellRaised
    ++ putMove p.move ++ putI16 p.estimate ++ putI32 p.remainder ++ putU32 p.updated ++ putU32 p.exposure
    ++ putU32 (reported p.exposure) ++ putMark p.warned ++ putMark p.quarantined ++ [0, 0, 0]

/-- READ PALLET (R130). -/
def execReadPallet (p : Port) (tag : Byte) (body : List Byte) (s : State) : Result :=
  command (serve 29 none p tag (palletRequest body fun x s => reply .ok (putPallet x) s)) s

/-- The body of a FIND PALLETS response (R130). -/
def findBody (s : Part) (l : Loc) (start : Nat) : List Byte :=
  let ids := (idsAt s l).filter fun i => start < i
  ((ids.take 32).map putU32).flatten ++ putMark (32 < ids.length)

/-- FIND PALLETS (R130). -/
def execFindPallets (p : Port) (tag : Byte) (body : List Byte) (s : State) : Result :=
  command (serve 30 none p tag
    (withBody (readFind body) fun x s =>
      inServiceOr (locInService s x.1) (fun s => reply .ok (findBody s x.1 x.2) s) s)) s

/-- The body of a READ STAGING response (R121). -/
def stagingBody (s : Part) : List Byte :=
  putU16 s.credits ++ putU16 (hallCount s) ++ putU16 (reservedCount s) ++ putU16 s.cfg.staging.capacity ++ putU16 (reductionInForce s)
    ++ putU16 (effectiveCapacity s) ++ putU16 s.cfg.staging.inboundLimit ++ putU16 (trailerLimit s) ++ putU16 (effectiveCapacity s)
    ++ putU16 s.pallets.length ++ putU16 (freeRecords s)

/-- READ STAGING (R121). -/
def execReadStaging (p : Port) (tag : Byte) (body : List Byte) (s : State) : Result :=
  command (serve 31 none p tag (withBody (readEmpty body) fun _ s => reply .ok (stagingBody s) s)) s

/-- The expiry of a pallet's move. -/
def moveExpiry (s : Part) (id : Nat) : Option Nat :=
  match findPallet s id with
  | some p => p.move.map (·.expiry)
  | none => none

/-- MOVE_EXPIRY (R116). -/
def execMoveExpiry (id : Nat) (s : State) : Result :=
  command (whileRunning fun s => if reached (moveExpiry s id) s.time then endMove id (some .moveExpired) s else s) s

end Sys2Proof.Machine
end

