-- ==== Sys2Proof/Machine/Ports.lean ====
section
/-! DEFINITION. The Master Ports' own commands: damaged frames (R199), unknown codes (R185), PING (R188), FETCH NOTICES (R192) and the
supervision deadline (R193). -/

namespace Sys2Proof.Machine

open Sys2Proof

/-- Bytes at the receiver of a port. A whole valid frame is a request and comes as a command of its own; one that an ill-formed operand
completes here is dropped. -/
def feedPort (p : Port) (arrived : List (Nat × Byte)) (s : Part) : Part :=
  modPort p (fun r => { r with receiver := (receive r.receiver arrived).1 }) s

/-- RECEIVER_GAP_TIMEOUT (R199): bytes of a partial frame, then more than 5 ms without a byte. -/
def execReceiverGapTimeout (p : Port) (arrived : List (Nat × Byte)) (ms : Nat) (s : State) : Result :=
  command (whileRunning fun s =>
    modPort p (fun r => { r with receiver := afterGap r.receiver ms }) (feedPort p arrived s)) s

/-- FRAME_DISCARDED (R199): the bytes of a frame with a bad length or a CRC mismatch. -/
def execFrameDiscarded (p : Port) (arrived : List (Nat × Byte)) (s : State) : Result :=
  command (whileRunning (feedPort p arrived)) s

/-- UNKNOWN_REQUEST_CODE (R185): supervision is renewed and the code refused. -/
def execUnknownRequestCode (p : Port) (code tag : Byte) (_body : List Byte) (s : State) : Result :=
  command (serve code.toNat none p tag (refuse .badRequest)) s

/-- Port state, notices waiting and OVERFLOW, as PING carries them. -/
def putPortState (r : PortRec) : List Byte := putU8 (portStateCode r.silent) ++ putU8 r.queue.length ++ putMark r.overflow

/-- The body of a PING response (R188). -/
def pingBody (s : Part) : List Byte :=
  putU8 (Cause.code s.cause.cause) ++ putU8 (StoreStatus.code s.cause.status) ++ putU32 s.cause.startTime
    ++ putU16 s.cause.warmCount ++ putU16 s.cause.lastDip ++ putU32 s.time ++ putPortState s.portPlant
    ++ putPortState s.portWarehouse ++ putMark s.alarms.full ++ putU8 (relayCode s.alarms.relay)

/-- PING (R188). -/
def execPing (p : Port) (tag : Byte) (body : List Byte) (s : State) : Result :=
  command (serve 1 none p tag (withBody (readEmpty body) fun _ s => reply .ok (pingBody s) s)) s

/-- FETCH NOTICES with its maximum read (R192). -/
def fetchNotices (p : Port) (n : Nat) (s : Part) : Reply :=
  if 1 ≤ n ∧ n ≤ 8 then
    let r := s.port p
    let taken := r.queue.take n
    let left := r.queue.drop n
    reply .ok (putMark r.overflow ++ putU8 left.length ++ putU8 taken.length ++ (taken.map putNotice).flatten)
      (modPort p (fun r => { r with queue := left, overflow := false }) s)
  else refuse .badRequest s

/-- FETCH NOTICES (R192). -/
def execFetchNotices (p : Port) (tag : Byte) (body : List Byte) (s : State) : Result :=
  command (serve 40 none p tag (withBody (readCount body) (fetchNotices p))) s

/-- SUPERVISION_DEADLINE (R193, R194): without effect while a request is in service. -/
def execSupervisionDeadline (p : Port) (s : State) : Result :=
  command (whileRunning fun s =>
    let r := s.port p
    if r.silent = false ∧ r.inService = none ∧ reached r.supervisionDl s.time then becomeSilent p s else s) s

end Sys2Proof.Machine
end

