-- ==== Sys2Proof/Machine/SettingsCmds.lean ====
section
/-! DEFINITION. The Settings Store's commands: READ SETTINGS (R189), WRITE SETTINGS (R5), LOCKOUT (R10) and the end of a bank write
(R11). -/

namespace Sys2Proof.Machine

open Sys2Proof

/-- READ SETTINGS (R189). -/
def execReadSettings (p : Port) (tag : Byte) (body : List Byte) (s : State) : Result :=
  command (serve 2 none p tag (withBody (readRecordKey body) fun k s => reply .ok (putRecord (readCfg s.cfg k)) s)) s

/-- WRITE SETTINGS (R5): its role is checked by the record kind it carries. -/
def execWriteSettings (p : Port) (tag : Byte) (body : List Byte) (s : State) : Result :=
  command (serve 3 none p tag (withBody (readRecord body) (takeWrite p tag))) s

/-- LOCKOUT (R10). -/
def execLockout (p : Port) (tag : Byte) (body : List Byte) (s : State) : Result :=
  command (serve 4 (some .plant) p tag (withBody (readLockout body) fun x => takeLockout p tag x.1 x.2)) s

/-- BANK_WRITE_COMPLETE (R11): a bank write ends, and its check value matches or not. -/
def execBankWriteComplete (matched : Bool) (s : State) : Result := command (whileRunning (bankWriteEnds matched)) s

end Sys2Proof.Machine
end

