-- ==== Sys2Proof/Machine/Supply.lean ====
section
/-! DEFINITION. The supply monitor, the reset input, starts and device time (R13 to R17), with what each block does at a warm restart
(R24, R35, R143, R172, R174, R196). -/

namespace Sys2Proof.Machine

open Sys2Proof

def modSupply (f : Supply → Supply) (s : Part) : Part := { s with supply := f s.supply }

/-- Has the supply been above 20.0 V for `n` ms, counted from its rise and not before `from_`? -/
def qualified (u : Supply) (from_ n ms : Nat) : Bool :=
  match u.risen with
  | some q => max q from_ + n ≤ ms
  | none => false

/-- Have `n` ms passed since the dip start? -/
def dipLasted (u : Supply) (n ms : Nat) : Bool :=
  match u.dipStart with
  | some t => t + n ≤ ms
  | none => false

/-- A write operation loses its response (R15, R187). -/
def loseRequester (op : WriteOp) : WriteOp := { op with requester := none }

/-- The store when service is suspended: the bank write in progress stops (R13). -/
def suspendStore (st : Store) : Store :=
  { st with
    current := st.current.map fun w => { w with op := loseRequester w.op, stopped := true }
    waiting := st.waiting.map loseRequester }

/-- A port when service is suspended: its partial frame and the response of its request are lost (R13, R187). -/
def suspendPort (r : PortRec) : PortRec := { r with receiver := .hunt, inService := none }

/-- Service is suspended at the entry to RIDE_THROUGH (R13). DESIGN CHOICE (notes/assumptions/13.md): a poll that awaits its report is
dropped, and counts neither as a good report nor as a miss; R35 speaks only of polls that were not sent. -/
def suspendService (s : Part) : Part :=
  { s with
    supply := { s.supply with service := .suspended, suspendedAt := s.time }
    store := suspendStore s.store
    loop := { s.loop with round := [], inFlight := none }
    alarms := { s.alarms with relay := false }
    portPlant := suspendPort s.portPlant
    portWarehouse := suspendPort s.portWarehouse }

/-- SUPPLY_FALL (R13): below 19.0 V in NORMAL a dip begins. -/
def execSupplyFall (ms : Nat) (s : State) : Result :=
  command (modSupply fun u =>
    if u.state = .normal then { u with state := .dipPending, dipStart := some ms, risen := none } else { u with risen := none }) s

/-- SUPPLY_RISE (R13): above 20.0 V in DIP_PENDING the dip has no effect; in every state the time is kept for the qualification. -/
def execSupplyRise (ms : Nat) (s : State) : Result :=
  command (modSupply fun u =>
    if u.state = .dipPending then { u with state := .normal, dipStart := none, risen := some ms } else { u with risen := some ms }) s

/-- DIP_FILTER_EXPIRY (R13): 10 ms after the dip start the monitor enters RIDE_THROUGH, and a part that operates is suspended. -/
def execDipFilterExpiry (ms : Nat) (s : State) : Result :=
  command (fun s =>
    if s.supply.state = .dipPending ∧ dipLasted s.supply dipFilterMs ms then
      let t := modSupply (fun u => { u with state := .rideThrough }) s
      if s.running then suspendService t else t
    else s) s

/-- RIDE_THROUGH_LIMIT (R13): 500 ms after the dip start the part is DOWN and its records are lost. -/
def execRideThroughLimit (ms : Nat) (s : State) : Result :=
  command (fun s =>
    if s.supply.state = .rideThrough ∧ dipLasted s.supply rideThroughMs ms then
      lostPart { s.supply with state := .down, dipStart := none, resetWait := false } s.store.bank1 s.store.bank2
    else s) s

/-- The start-cause record at a warm restart (R17). -/
def warmCause (c : StartCause) (now dip : Nat) : StartCause :=
  { c with cause := .warm, startTime := now, warmCount := satInc 65535 c.warmCount, lastDip := dip }

/-- A port at a warm restart (R196). -/
def warmPort (now interval : Nat) (c : StartCause) (r : PortRec) : PortRec :=
  { r with
    supervisionDl := if r.silent then none else some (addTime now interval)
    inService := none, queue := [startNotice c], overflow := false, nextNumber := 2, receiver := .hunt }

/-- The store at a warm restart (R15): a stopped bank write starts again from the working copy, into the same bank. -/
def warmStore (cfg : Settings) (st : Store) : Store :=
  { st with current := st.current.map fun w => { w with copy := cfg, second := false, stopped := false } }

/-- The field loop at a warm restart (R18, R35). -/
def warmLoop (l : Loop) : Loop :=
  { stations := l.stations.map fun k => { k with miss := 0, good := 0 }, roundStart := none, round := [], inFlight := none }

/-- A warm restart (R15): cause and ports first, then the store, the loop, the Defrost Scheduler (R172), the relay (R174), and the
settlement of every pallet (R143). `dip` is the length of the dip. DESIGN CHOICE (notes/assumptions/16.md): the door records are kept
whole, with the mark that a report has come since the door took its state (`heard`); R53 asks for a report since the start and does not
say whether a warm restart is such a start. -/
def warmRestart (dip : Nat) (s : Part) : Part :=
  let c := warmCause s.cause s.time dip
  let t := { s with
    supply := { s.supply with state := .normal, dipStart := none, service := .running }
    cause := c
    portPlant := warmPort s.time s.cfg.portPlant c s.portPlant
    portWarehouse := warmPort s.time s.cfg.portWarehouse c s.portWarehouse
    store := warmStore s.cfg s.store
    loop := warmLoop s.loop
    evaps := s.evaps.map (backToWait s.supply.suspendedAt) }
  let t := setInForce (if t.portPlant.silent then t.cfg.defrost.fallbackSlots else t.heatCommanded) t
  updateAll (modAlarms setRelay t)

/-- The length of the dip: from the dip start to the supply qualifying (R17). -/
def dipLength (u : Supply) : Nat := u.risen.getD 0 + qualifyMs - u.dipStart.getD 0

/-- WARM_RESTART (R13, R15): in RIDE_THROUGH with the supply qualified, not later than the ride-through limit. With the reset input
asserted, or released during the dip, the monitor returns to NORMAL and nothing restarts (R14). -/
def execWarmRestart (ms : Nat) (s : State) : Result :=
  command (fun s =>
    if s.supply.state = .rideThrough ∧ qualified s.supply 0 qualifyMs ms ∧ dipLength s.supply ≤ rideThroughMs then
      if s.supply.service = .suspended then warmRestart (dipLength s.supply) s
      else modSupply (fun u => { u with state := .normal, dipStart := none }) s
    else s) s

/-- The cold start with the monitor in NORMAL (R14). -/
def coldStart (c : Cause) (s : Part) : Part :=
  coldPart { s.supply with state := .normal, dipStart := none } s.store.bank1 s.store.bank2 c

/-- COLD_START (R13, R14): from DOWN once the supply has qualified for 100 ms, cause COLD_POWER; or, where the reset was released during
a dip, once it has qualified for 10 ms, cause COLD_RESET. -/
def execColdStart (ms : Nat) (s : State) : Result :=
  command (fun s =>
    let u := s.supply
    if u.resetAsserted then s
    else if u.state = .down ∧ qualified u u.released coldQualifyMs ms then coldStart .coldPower s
    else if u.resetWait ∧ (u.state = .rideThrough ∨ u.state = .normal) ∧ qualified u 0 qualifyMs ms then coldStart .coldReset s
    else s) s

/-- RESET_ASSERT (R14): the part is held stopped with its records lost; the monitor keeps its state. -/
def execResetAssert (s : State) : Result :=
  command (fun s =>
    lostPart { s.supply with resetAsserted := true, resetWait := false } s.store.bank1 s.store.bank2) s

/-- RESET_RELEASE (R14): in NORMAL a cold start with cause COLD_RESET; in a dip the part waits for the supply to qualify; in DOWN the
time of the release counts. -/
def execResetRelease (ms : Nat) (s : State) : Result :=
  command (fun s =>
    if s.supply.resetAsserted then
      let t := modSupply (fun u => { u with resetAsserted := false }) s
      match s.supply.state with
      | .normal => coldStart .coldReset t
      | .dipPending | .rideThrough => modSupply (fun u => { u with resetWait := true }) t
      | .down => modSupply (fun u => { u with released := ms }) t
    else s) s

/-- DEVICE_TIME_TICK (R16): one second passes, through RIDE_THROUGH as well; a stopped part counts no time. -/
def execDeviceTimeTick (s : State) : Result :=
  command (fun s => if s.supply.service = .stopped then s else { s with time := satInc maxTime s.time }) s

end Sys2Proof.Machine
end

