-- ==== Sys2Proof/Machine/Dispatch.lean ====
section
/-! DEFINITION. The meaning of every command, one arm per row of spec/opcode_table.json. -/

namespace Sys2Proof.Machine

open Sys2Proof

def exec (i : Instr) (s : State) : Host.Outcome State Fault Refusal :=
  match i with
  | .supplyFall ms => Sys2Proof.Machine.execSupplyFall ms s
  | .supplyRise ms => Sys2Proof.Machine.execSupplyRise ms s
  | .dipFilterExpiry ms => Sys2Proof.Machine.execDipFilterExpiry ms s
  | .rideThroughLimit ms => Sys2Proof.Machine.execRideThroughLimit ms s
  | .warmRestart ms => Sys2Proof.Machine.execWarmRestart ms s
  | .coldStart ms => Sys2Proof.Machine.execColdStart ms s
  | .resetAssert => Sys2Proof.Machine.execResetAssert s
  | .resetRelease ms => Sys2Proof.Machine.execResetRelease ms s
  | .deviceTimeTick => Sys2Proof.Machine.execDeviceTimeTick s
  | .bankWriteComplete matched => Sys2Proof.Machine.execBankWriteComplete matched s
  | .receiverGapTimeout p arrived ms => Sys2Proof.Machine.execReceiverGapTimeout p arrived ms s
  | .frameDiscarded p arrived => Sys2Proof.Machine.execFrameDiscarded p arrived s
  | .unknownRequestCode p code tag body => Sys2Proof.Machine.execUnknownRequestCode p code tag body s
  | .ping p tag body => Sys2Proof.Machine.execPing p tag body s
  | .readSettings p tag body => Sys2Proof.Machine.execReadSettings p tag body s
  | .writeSettings p tag body => Sys2Proof.Machine.execWriteSettings p tag body s
  | .lockout p tag body => Sys2Proof.Machine.execLockout p tag body s
  | .readStation p tag body => Sys2Proof.Machine.execReadStation p tag body s
  | .readZone p tag body => Sys2Proof.Machine.execReadZone p tag body s
  | .zoneBulk p tag body => Sys2Proof.Machine.execZoneBulk p tag body s
  | .zoneBulkRelease p tag body => Sys2Proof.Machine.execZoneBulkRelease p tag body s
  | .zonePulldown p tag body => Sys2Proof.Machine.execZonePulldown p tag body s
  | .zoneRelease p tag body => Sys2Proof.Machine.execZoneRelease p tag body s
  | .readDoor p tag body => Sys2Proof.Machine.execReadDoor p tag body s
  | .claimDoor p tag body => Sys2Proof.Machine.execClaimDoor p tag body s
  | .unclaimDoor p tag body => Sys2Proof.Machine.execUnclaimDoor p tag body s
  | .holdDoor p tag body => Sys2Proof.Machine.execHoldDoor p tag body s
  | .unholdDoor p tag body => Sys2Proof.Machine.execUnholdDoor p tag body s
  | .sealDoor p tag body => Sys2Proof.Machine.execSealDoor p tag body s
  | .reseal p tag body => Sys2Proof.Machine.execReseal p tag body s
  | .releaseDoor p tag body => Sys2Proof.Machine.execReleaseDoor p tag body s
  | .openDoor p tag body => Sys2Proof.Machine.execOpenDoor p tag body s
  | .closeDoor p tag body => Sys2Proof.Machine.execCloseDoor p tag body s
  | .manifestBegin p tag body => Sys2Proof.Machine.execManifestBegin p tag body s
  | .manifestEntry p tag body => Sys2Proof.Machine.execManifestEntry p tag body s
  | .manifestCommit p tag body => Sys2Proof.Machine.execManifestCommit p tag body s
  | .manifestClear p tag body => Sys2Proof.Machine.execManifestClear p tag body s
  | .readManifest p tag body => Sys2Proof.Machine.execReadManifest p tag body s
  | .move p tag body => Sys2Proof.Machine.execMove p tag body s
  | .cancelMove p tag body => Sys2Proof.Machine.execCancelMove p tag body s
  | .removePallet p tag body => Sys2Proof.Machine.execRemovePallet p tag body s
  | .readPallet p tag body => Sys2Proof.Machine.execReadPallet p tag body s
  | .findPallets p tag body => Sys2Proof.Machine.execFindPallets p tag body s
  | .readStaging p tag body => Sys2Proof.Machine.execReadStaging p tag body s
  | .defrostRequest p tag body => Sys2Proof.Machine.execDefrostRequest p tag body s
  | .forceDefrost p tag body => Sys2Proof.Machine.execForceDefrost p tag body s
  | .cancelDefrost p tag body => Sys2Proof.Machine.execCancelDefrost p tag body s
  | .setHeatSlots p tag body => Sys2Proof.Machine.execSetHeatSlots p tag body s
  | .readEvaporator p tag body => Sys2Proof.Machine.execReadEvaporator p tag body s
  | .readDefrost p tag body => Sys2Proof.Machine.execReadDefrost p tag body s
  | .ackAlarm p tag body => Sys2Proof.Machine.execAckAlarm p tag body s
  | .readAlarms p tag body => Sys2Proof.Machine.execReadAlarms p tag body s
  | .fetchNotices p tag body => Sys2Proof.Machine.execFetchNotices p tag body s
  | .supervisionDeadline p => Sys2Proof.Machine.execSupervisionDeadline p s
  | .roundStart ms => Sys2Proof.Machine.execRoundStart ms s
  | .poll => Sys2Proof.Machine.execPoll s
  | .reportWindowExpiry => Sys2Proof.Machine.execReportWindowExpiry s
  | .badReport bytes => Sys2Proof.Machine.execBadReport bytes s
  | .dockReport a body => Sys2Proof.Machine.execDockReport a body s
  | .portalReport a body => Sys2Proof.Machine.execPortalReport a body s
  | .evapReport a body => Sys2Proof.Machine.execEvapReport a body s
  | .probeReport a body => Sys2Proof.Machine.execProbeReport a body s
  | .freshnessExpiry t => Sys2Proof.Machine.execFreshnessExpiry t s
  | .staleHoldOffExpiry z => Sys2Proof.Machine.execStaleHoldOffExpiry z s
  | .warmDeadlineExpiry z => Sys2Proof.Machine.execWarmDeadlineExpiry z s
  | .recoveryDeadlineExpiry z => Sys2Proof.Machine.execRecoveryDeadlineExpiry z s
  | .zoneExposureIntervalExpiry z => Sys2Proof.Machine.execZoneExposureIntervalExpiry z s
  | .bulkDeadlineExpiry z => Sys2Proof.Machine.execBulkDeadlineExpiry z s
  | .sealDeadlineExpiry d => Sys2Proof.Machine.execSealDeadlineExpiry d s
  | .travelDeadlineExpiry d => Sys2Proof.Machine.execTravelDeadlineExpiry d s
  | .portalTravelDeadlineExpiry q => Sys2Proof.Machine.execPortalTravelDeadlineExpiry q s
  | .openDeadlineExpiry d => Sys2Proof.Machine.execOpenDeadlineExpiry d s
  | .grantDeadlineExpiry q => Sys2Proof.Machine.execGrantDeadlineExpiry q s
  | .doorExposureIntervalExpiry d => Sys2Proof.Machine.execDoorExposureIntervalExpiry d s
  | .entryDeadlineExpiry d => Sys2Proof.Machine.execEntryDeadlineExpiry d s
  | .moveExpiry id => Sys2Proof.Machine.execMoveExpiry id s
  | .backstopDeadlineExpiry e => Sys2Proof.Machine.execBackstopDeadlineExpiry e s
  | .overdueDeadlineExpiry e => Sys2Proof.Machine.execOverdueDeadlineExpiry e s
  | .gatherWindowExpiry z => Sys2Proof.Machine.execGatherWindowExpiry z s
  | .pumpdownDeadlineExpiry z => Sys2Proof.Machine.execPumpdownDeadlineExpiry z s
  | .heatDeadlineExpiry e => Sys2Proof.Machine.execHeatDeadlineExpiry e s
  | .dripDeadlineExpiry z => Sys2Proof.Machine.execDripDeadlineExpiry z s
  | .refreezeMaximumExpiry z => Sys2Proof.Machine.execRefreezeMaximumExpiry z s
  | .suspensionDeadlineExpiry z => Sys2Proof.Machine.execSuspensionDeadlineExpiry z s

end Sys2Proof.Machine
end

