-- ==== Sys2Proof/Safety.lean ====
section
/-! DEFINITION. What counts as a safe state of the CDC-24, and the words the statements are written in: when a request is taken and
answered, what its port and role are, the groups of records a command may change, and the properties that hold of every
state the part reaches. -/

namespace Sys2Proof.Machine

open Sys2Proof

/-! ### Requests -/

/-- The part as a command finds it: the frames of the command before have left. -/
def cleared (s : State) : Part := { s.part with out := [] }

/-- The part after the first step a port takes with a valid request (R185). -/
def renewed (p : Port) (s : State) : Part := renew p (cleared s)

/-- A request on the port is dispatched: the part operates and the port has no request in service (R13, R185, R186). -/
def takes (p : Port) (s : State) : Prop := s.part.running = true ∧ (s.part.port p).inService = none

/-- The command answered the request with one response frame and sent nothing else. -/
def answered (p : Port) (code : Nat) (tag : Byte) (st : Status) (body : List Byte) (t : State) : Prop :=
  t.part.out = [.response p ⟨code, tag, st, body⟩]

/-- Port, request code (R198) and tag of a request; none for every other command. -/
def asRequest : Instr → Option (Port × Nat × Byte)
  | .unknownRequestCode p code tag _ => some (p, code.toNat, tag)
  | .ping p tag _ => some (p, 1, tag)
  | .readSettings p tag _ => some (p, 2, tag)
  | .writeSettings p tag _ => some (p, 3, tag)
  | .lockout p tag _ => some (p, 4, tag)
  | .readStation p tag _ => some (p, 5, tag)
  | .readZone p tag _ => some (p, 6, tag)
  | .zoneBulk p tag _ => some (p, 7, tag)
  | .zoneBulkRelease p tag _ => some (p, 8, tag)
  | .zonePulldown p tag _ => some (p, 9, tag)
  | .zoneRelease p tag _ => some (p, 10, tag)
  | .readDoor p tag _ => some (p, 11, tag)
  | .claimDoor p tag _ => some (p, 12, tag)
  | .unclaimDoor p tag _ => some (p, 13, tag)
  | .holdDoor p tag _ => some (p, 14, tag)
  | .unholdDoor p tag _ => some (p, 15, tag)
  | .sealDoor p tag _ => some (p, 16, tag)
  | .releaseDoor p tag _ => some (p, 17, tag)
  | .openDoor p tag _ => some (p, 18, tag)
  | .reseal p tag _ => some (p, 19, tag)
  | .closeDoor p tag _ => some (p, 20, tag)
  | .manifestBegin p tag _ => some (p, 21, tag)
  | .manifestEntry p tag _ => some (p, 22, tag)
  | .manifestCommit p tag _ => some (p, 23, tag)
  | .manifestClear p tag _ => some (p, 24, tag)
  | .readManifest p tag _ => some (p, 25, tag)
  | .move p tag _ => some (p, 26, tag)
  | .cancelMove p tag _ => some (p, 27, tag)
  | .removePallet p tag _ => some (p, 28, tag)
  | .readPallet p tag _ => some (p, 29, tag)
  | .findPallets p tag _ => some (p, 30, tag)
  | .readStaging p tag _ => some (p, 31, tag)
  | .defrostRequest p tag _ => some (p, 32, tag)
  | .forceDefrost p tag _ => some (p, 33, tag)
  | .cancelDefrost p tag _ => some (p, 34, tag)
  | .setHeatSlots p tag _ => some (p, 35, tag)
  | .readEvaporator p tag _ => some (p, 36, tag)
  | .readDefrost p tag _ => some (p, 37, tag)
  | .ackAlarm p tag _ => some (p, 38, tag)
  | .readAlarms p tag _ => some (p, 39, tag)
  | .fetchNotices p tag _ => some (p, 40, tag)
  | .supplyFall _ | .supplyRise _ | .dipFilterExpiry _ | .rideThroughLimit _ | .warmRestart _ | .coldStart _ | .resetAssert
  | .resetRelease _ | .deviceTimeTick | .bankWriteComplete _ | .receiverGapTimeout _ _ _ | .frameDiscarded _ _
  | .supervisionDeadline _ | .roundStart _ | .poll | .reportWindowExpiry | .badReport _ | .dockReport _ _ | .portalReport _ _
  | .evapReport _ _ | .probeReport _ _ | .freshnessExpiry _ | .staleHoldOffExpiry _ | .warmDeadlineExpiry _
  | .recoveryDeadlineExpiry _ | .zoneExposureIntervalExpiry _ | .bulkDeadlineExpiry _ | .sealDeadlineExpiry _
  | .travelDeadlineExpiry _ | .portalTravelDeadlineExpiry _ | .openDeadlineExpiry _ | .grantDeadlineExpiry _
  | .doorExposureIntervalExpiry _ | .entryDeadlineExpiry _ | .moveExpiry _ | .backstopDeadlineExpiry _
  | .overdueDeadlineExpiry _ | .gatherWindowExpiry _ | .pumpdownDeadlineExpiry _ | .heatDeadlineExpiry _
  | .dripDeadlineExpiry _ | .refreezeMaximumExpiry _ | .suspensionDeadlineExpiry _ => none

/-- The one port a request may be made from, by the request table of Section 10.2, by its code; none for either port. -/
def roleOf (code : Nat) : Option Port :=
  if code ∈ [4, 9, 10, 14, 15, 32, 33, 34, 35] then some .plant
  else if code ∈ [7, 8, 12, 13, 16, 17, 18, 21, 22, 23, 24, 26, 27, 28] then some .warehouse
  else none

/-- A supply, reset or tick event: what the part answers whether it operates or not (R13, R14, R16). -/
def isSupplyEvent : Instr → Bool
  | .supplyFall _ | .supplyRise _ | .dipFilterExpiry _ | .rideThroughLimit _ | .warmRestart _ | .coldStart _ | .resetAssert
  | .resetRelease _ | .deviceTimeTick => true
  | _ => false

/-- Does the body of a request read as its code requires (R200)? Commands that are no requests carry no such body. -/
def bodyReads : Instr → Bool
  | .ping _ _ b | .readStaging _ _ b => (readEmpty b).isSome
  | .readSettings _ _ b => (readRecordKey b).isSome
  | .writeSettings _ _ b => (readRecord b).isSome
  | .lockout _ _ b => (readLockout b).isSome
  | .readStation _ _ b => (readStation b).isSome
  | .readZone _ _ b | .zoneBulk _ _ b | .zoneBulkRelease _ _ b | .zonePulldown _ _ b | .zoneRelease _ _ b | .forceDefrost _ _ b
  | .cancelDefrost _ _ b | .readDefrost _ _ b => (readZone b).isSome
  | .readDoor _ _ b | .sealDoor _ _ b | .reseal _ _ b | .openDoor _ _ b | .closeDoor _ _ b | .manifestCommit _ _ b
  | .manifestClear _ _ b | .readManifest _ _ b => (readDoor b).isSome
  | .claimDoor _ _ b => (readClaim b).isSome
  | .unclaimDoor _ _ b | .holdDoor _ _ b | .unholdDoor _ _ b => (readDoorRev b).isSome
  | .releaseDoor _ _ b => (readRelease b).isSome
  | .manifestBegin _ _ b => (readBegin b).isSome
  | .manifestEntry _ _ b => (readEntry b).isSome
  | .move _ _ b => (readMove b).isSome
  | .cancelMove _ _ b | .removePallet _ _ b | .readPallet _ _ b => (readPalletId b).isSome
  | .findPallets _ _ b => (readFind b).isSome
  | .defrostRequest _ _ b => (readEvapList b).isSome
  | .setHeatSlots _ _ b | .fetchNotices _ _ b => (readCount b).isSome
  | .readEvaporator _ _ b => (readEvap b).isSome
  | .ackAlarm _ _ b => (readAck b).isSome
  | .readAlarms _ _ b => (readAlarmQuery b).isSome
  | .unknownRequestCode _ _ _ _ => false
  | .supplyFall _ | .supplyRise _ | .dipFilterExpiry _ | .rideThroughLimit _ | .warmRestart _ | .coldStart _ | .resetAssert
  | .resetRelease _ | .deviceTimeTick | .bankWriteComplete _ | .receiverGapTimeout _ _ _ | .frameDiscarded _ _
  | .supervisionDeadline _ | .roundStart _ | .poll | .reportWindowExpiry | .badReport _ | .dockReport _ _ | .portalReport _ _
  | .evapReport _ _ | .probeReport _ _ | .freshnessExpiry _ | .staleHoldOffExpiry _ | .warmDeadlineExpiry _
  | .recoveryDeadlineExpiry _ | .zoneExposureIntervalExpiry _ | .bulkDeadlineExpiry _ | .sealDeadlineExpiry _
  | .travelDeadlineExpiry _ | .portalTravelDeadlineExpiry _ | .openDeadlineExpiry _ | .grantDeadlineExpiry _
  | .doorExposureIntervalExpiry _ | .entryDeadlineExpiry _ | .moveExpiry _ | .backstopDeadlineExpiry _
  | .overdueDeadlineExpiry _ | .gatherWindowExpiry _ | .pumpdownDeadlineExpiry _ | .heatDeadlineExpiry _
  | .dripDeadlineExpiry _ | .refreezeMaximumExpiry _ | .suspensionDeadlineExpiry _ => true

/-- The door a request names once its body has been read. -/
def namedDoor : Instr → Option DoorRef
  | .readDoor _ _ b | .sealDoor _ _ b | .reseal _ _ b | .openDoor _ _ b | .closeDoor _ _ b | .manifestCommit _ _ b
  | .manifestClear _ _ b | .readManifest _ _ b => readDoor b
  | .claimDoor _ _ b => (readClaim b).map (·.door)
  | .unclaimDoor _ _ b | .holdDoor _ _ b | .unholdDoor _ _ b => (readDoorRev b).map (·.1)
  | .releaseDoor _ _ b => (readRelease b).map (·.1)
  | .manifestBegin _ _ b => (readBegin b).map (·.1)
  | .manifestEntry _ _ b => (readEntry b).map (·.door)
  | _ => none

/-- The zone a request names once its body has been read. -/
def namedZone : Instr → Option ZoneId
  | .readZone _ _ b | .zoneBulk _ _ b | .zoneBulkRelease _ _ b | .zonePulldown _ _ b | .zoneRelease _ _ b | .forceDefrost _ _ b
  | .cancelDefrost _ _ b | .readDefrost _ _ b => readZone b
  | _ => none

/-- Codes of the manifest requests (Section 5.1). -/
def manifestCodes : List Nat := [21, 22, 23, 24, 25]

/-- Codes of the other requests that take a dock door and no portal: CLAIM, UNCLAIM, SEAL, RELEASE and OPEN DOOR, RESEAL (R63, R64, R71,
R72, R74). -/
def dockCodes : List Nat := [12, 13, 16, 17, 18, 19]

/-! ### Settings -/

/-- `y` is `x`, or the nearer bound where `x` lies outside the range (R6). -/
def heldNat (lo hi x y : Nat) : Prop := (x < lo → y = lo) ∧ (hi < x → y = hi) ∧ (lo ≤ x → x ≤ hi → y = x)

/-- `y` is `x`, or the nearer bound where `x` lies outside the range (R6). -/
def heldInt (lo hi x y : Int) : Prop := (x < lo → y = lo) ∧ (hi < x → y = hi) ∧ (lo ≤ x → x ≤ hi → y = x)

/-- The station an element's record names (R1). -/
def Elem.station (c : Settings) : Elem → Option StationId
  | .dock d => (c.docks.get d).station
  | .portal q => (c.portals.get q).station
  | .evap e => (c.evaps.get e).station
  | .probe t => (c.probes.get t).station

/-- The binding a record would make: the element, the kind of station it needs, and the station (R1). -/
def bindingOf : Record → Option (Elem × StationKind × StationId)
  | .dock d x => x.station.map (Elem.dock d, .dock, ·)
  | .portal q x => x.station.map (Elem.portal q, .portal, ·)
  | .evap e x => x.station.map (Elem.evap e, .evap, ·)
  | .probe t x => x.station.map (Elem.probe t, .probe, ·)
  | .station .. | .zone .. | .handling .. | .defrost .. | .staging .. | .cls .. | .rule .. | .port .. => none

/-! ### Reports -/

/-- The part once the report to the poll in flight has been accounted as good (R21), before its events. -/
def accounted (a : StationId) (s : State) : Part := accountGood a (clearFlight (cleared s))

/-- A report of the kind answers the poll in flight, which carried the image, and its station is ONLINE once it has been accounted: the
report gives its events (R30 to R33). -/
def reportTaken (a : StationId) (k : StationKind) (i : Image) (s : State) : Prop :=
  s.part.running = true ∧ s.part.loop.inFlight = some ⟨a, i, false⟩ ∧ (s.part.cfg.stations.get a).kind = k
    ∧ ((accounted a s).loop.stations.get a).link = .online

/-- The frost carry of a door once its open time up to `upTo` has been settled (R88); without a settle-from it is kept. -/
def carryAfter (settleFrom : Option Nat) (upTo weight carry : Nat) : Nat :=
  match settleFrom with
  | some from_ => ((upTo - from_) * weight + carry) % 10
  | none => carry

/-- A settlement of `a` units has been divided among the counted evaporators of the zone (R48, R150), from `s` to `t`: the shares in the
order the rotation pointer starts, the pointer moved past the last unit, and a demand of each idle one that reached its trigger. -/
def dividedIn (z : ZoneId) (a : Nat) (s t : Part) : Prop :=
  let order := rotated (s.zones.get z).pointer (counted s z)
  let n := order.length
  (∀ (i : Fin 16) e, order[i.val]? = some e →
      let f := min ((s.evaps.get e).frost + (a / n + if i.val < a % n then 1 else 0)) 65535
      (t.evaps.get e).frost = f
        ∧ ((s.evaps.get e).sub = .idle → (s.cfg.evaps.get e).trigger ≤ f →
            (t.evaps.get e).demandTime = some s.time ∧ (t.evaps.get e).sub ≠ .idle)
        ∧ ((s.evaps.get e).sub ≠ .idle ∨ f < (s.cfg.evaps.get e).trigger →
            (t.evaps.get e).demandTime = (s.evaps.get e).demandTime))
    ∧ (∀ e, e ∉ order → (t.evaps.get e).frost = (s.evaps.get e).frost)
    ∧ (n ≠ 0 → a % n = 0 → (t.zones.get z).pointer = (s.zones.get z).pointer)
    ∧ (∀ e, n ≠ 0 → a % n ≠ 0 → order[a % n]? = some e → (t.zones.get z).pointer = e)

/-- The condition of an alarm has ended: no record of it is active (R178). -/
def conditionOver (k : AlarmKind) (x : Subject) (t : Part) : Prop :=
  ∀ a ∈ t.alarms.records, a.kind = k → a.subject = x → a.state = .clearedUnack

/-- A notice with the body stands in the warehouse port's queue, placed now, unless that queue has overflowed (R190, R191). -/
def warehouseTold (b : NoticeBody) (t : Part) : Prop :=
  t.portWarehouse.overflow = false → ∃ n ∈ t.portWarehouse.queue, n.body = b ∧ n.time = t.time

/-- The batch of the zone has been suspended now (R167). -/
def suspendedNow (z : ZoneId) (r t : Part) : Prop :=
  ∀ b, r.batches.get z = some b →
    (∃ c, t.batches.get z = some c ∧ c.suspendCount = b.suspendCount + 1 ∧ c.suspended = true ∧ c.suspendedSince = some r.time
        ∧ c.suspensionDl = some (addTime r.time r.cfg.defrost.maxSuspended) ∧ c.phase = b.phase ∧ c.members = b.members)
      ∧ ∀ m ∈ b.members, (r.evaps.get m.evap).sub = .heating →
          (t.evaps.get m.evap).sub = .waitSlot ∧ (t.evaps.get m.evap).heatStart = none ∧ (t.evaps.get m.evap).heatDl = none
            ∧ ∀ h, (r.evaps.get m.evap).heatStart = some h →
                (t.evaps.get m.evap).heatUsed = (r.evaps.get m.evap).heatUsed + (r.time - h)

/-! ### Which records a command changes -/

/-- The groups of records of the part. The model's own `out` and `draws` are in none. -/
inductive Group where
  | supply | cause | time | cfg | store | loop | zones | probes | docks | portals | slots | pallets | credits | evaps | batches
  | heatSlots | alarms | ports
deriving DecidableEq, Repr

/-- Two parts agree in a group. -/
def Group.same (g : Group) (s t : Part) : Prop :=
  match g with
  | .supply => t.supply = s.supply
  | .cause => t.cause = s.cause
  | .time => t.time = s.time
  | .cfg => t.cfg = s.cfg
  | .store => t.store = s.store
  | .loop => t.loop = s.loop
  | .zones => t.zones = s.zones
  | .probes => t.probes = s.probes
  | .docks => t.docks = s.docks
  | .portals => t.portals = s.portals
  | .slots => t.slots = s.slots
  | .pallets => t.pallets = s.pallets
  | .credits => t.credits = s.credits
  | .evaps => t.evaps = s.evaps
  | .batches => t.batches = s.batches
  | .heatSlots => t.heatCommanded = s.heatCommanded ∧ t.heatInForce = s.heatInForce
  | .alarms => t.alarms = s.alarms
  | .ports => t.portPlant = s.portPlant ∧ t.portWarehouse = s.portWarehouse

/-- The parts agree in every group outside `gs`. -/
def Within (gs : List Group) (s t : Part) : Prop := ∀ g, g ∉ gs → g.same s t

/-- The port is answered with the status and body, and no record of the part differs from `r`. -/
def onlyAnswers (p : Port) (code : Nat) (tag : Byte) (st : Status) (body : List Byte) (r : Part) (t : State) : Prop :=
  answered p code tag st body t ∧ Within [] r t.part

/-- The request completes with the status and body, changing no record but those its port renews (R185). -/
def readsOut (c : Instr) (p : Port) (code : Nat) (tag : Byte) (st : Status) (body : List Byte) (s : State) : Prop :=
  ∃ t, exec c s = .next t ∧ t.pending = s.pending ∧ onlyAnswers p code tag st body (renewed p s) t

/-- Every group. -/
def allGroups : List Group :=
  [.supply, .cause, .time, .cfg, .store, .loop, .zones, .probes, .docks, .portals, .slots, .pallets, .credits, .evaps, .batches,
    .heatSlots, .alarms, .ports]

/-- What a defrost event can reach: a batch that leaves HEAT or ends acts on its zone and on the zone's doors (Section 8.8). -/
def defrostGroups : List Group := [.zones, .docks, .portals, .evaps, .batches, .alarms, .ports]

/-- What the update of a pallet can reach: an update may end a move, and a move's end may complete a drain (R139, R115, R53). -/
def palletGroups : List Group := [.zones, .portals, .pallets, .credits, .alarms, .ports]

/-- The groups each command may change, beyond what its port renews. -/
def mayChange : Instr → List Group
  | .supplyFall _ | .supplyRise _ => [.supply]
  | .dipFilterExpiry _ => [.supply, .store, .loop, .alarms, .ports]
  | .rideThroughLimit _ | .coldStart _ | .resetAssert | .resetRelease _ => allGroups
  | .warmRestart _ => [.supply, .cause, .store, .loop, .heatSlots, .pallets, .credits] ++ defrostGroups
  | .deviceTimeTick => [.time]
  | .bankWriteComplete _ => [.store, .cause, .ports]
  | .receiverGapTimeout _ _ _ | .frameDiscarded _ _ | .fetchNotices _ _ _ => [.ports]
  | .unknownRequestCode _ _ _ _ | .ping _ _ _ | .readSettings _ _ _ | .readStation _ _ _ | .readZone _ _ _ | .readDoor _ _ _
  | .readManifest _ _ _ | .readPallet _ _ _ | .findPallets _ _ _ | .readStaging _ _ _ | .readEvaporator _ _ _
  | .readDefrost _ _ _ | .readAlarms _ _ _ => []
  | .writeSettings _ _ _ => [.cfg, .store, .loop, .probes, .slots] ++ defrostGroups
  | .lockout _ _ _ => [.cfg, .store, .loop, .probes] ++ defrostGroups
  | .zoneBulk _ _ _ | .zoneBulkRelease _ _ _ | .zonePulldown _ _ _ | .zoneRelease _ _ _ | .openDoor _ _ _ | .forceDefrost _ _ _
  | .bulkDeadlineExpiry _ | .pumpdownDeadlineExpiry _ | .heatDeadlineExpiry _ | .suspensionDeadlineExpiry _ => defrostGroups
  | .claimDoor _ _ _ | .sealDoor _ _ _ | .reseal _ _ _ => [.docks]
  | .unclaimDoor _ _ _ | .manifestEntry _ _ _ | .entryDeadlineExpiry _ => [.docks, .slots, .ports]
  | .holdDoor _ _ _ | .unholdDoor _ _ _ | .closeDoor _ _ _ => [.docks, .portals, .ports]
  | .releaseDoor _ _ _ | .openDeadlineExpiry _ => [.docks, .ports]
  | .manifestBegin _ _ _ | .manifestClear _ _ _ => [.docks, .slots]
  | .manifestCommit _ _ _ => [.docks, .slots, .pallets, .ports]
  | .move _ _ _ => [.pallets, .credits]
  | .cancelMove _ _ _ | .moveExpiry _ => [.zones, .portals, .pallets, .credits, .ports]
  | .removePallet _ _ _ => palletGroups
  | .defrostRequest _ _ _ | .backstopDeadlineExpiry _ => [.evaps, .batches]
  | .cancelDefrost _ _ _ | .gatherWindowExpiry _ | .dripDeadlineExpiry _ | .refreezeMaximumExpiry _ =>
    [.zones, .portals, .evaps, .batches, .alarms, .ports]
  | .setHeatSlots _ _ _ | .supervisionDeadline _ => .heatSlots :: defrostGroups
  | .ackAlarm _ _ _ => [.alarms, .ports]
  | .roundStart _ | .poll => [.loop]
  | .reportWindowExpiry | .evapReport _ _ => .loop :: defrostGroups
  | .badReport _ => [.loop, .probes, .slots, .pallets, .credits] ++ defrostGroups
  | .dockReport _ _ => [.loop, .slots, .pallets, .credits] ++ defrostGroups
  | .portalReport _ _ => [.loop, .pallets, .credits] ++ defrostGroups
  | .probeReport _ _ => [.loop, .probes] ++ defrostGroups
  | .freshnessExpiry _ => .probes :: defrostGroups
  | .staleHoldOffExpiry _ | .warmDeadlineExpiry _ | .recoveryDeadlineExpiry _ => [.zones, .alarms, .ports]
  | .zoneExposureIntervalExpiry _ => [.docks, .evaps, .batches] ++ palletGroups
  | .sealDeadlineExpiry _ | .travelDeadlineExpiry _ => [.docks, .alarms, .ports]
  | .portalTravelDeadlineExpiry _ => [.portals, .alarms, .ports]
  | .grantDeadlineExpiry _ => [.portals]
  | .doorExposureIntervalExpiry _ => .docks :: palletGroups
  | .overdueDeadlineExpiry _ => [.evaps, .alarms, .ports]

/-- The part a command acts on: a request's port has been renewed if the part operates; the frames of the command before have left. -/
def basis (c : Instr) (s : State) : Part :=
  match asRequest c with
  | some (p, _, _) => if s.part.running then renewed p s else cleared s
  | none => cleared s

/-- Every entry of the table but the `i`-th is as it was. -/
def othersKept {α : Type} {n : Nat} (v w : Vector α n) (i : Fin n) : Prop := ∀ j, j ≠ i → w.get j = v.get j

/-- Notices offered to one queue, in order. -/
def offerAll (time : Nat) (bs : List NoticeBody) (r : PortRec) : PortRec := bs.foldl (fun r b => offer time b r) r

/-- The ports were offered these notices, in order, and are as they were otherwise. -/
def placed (s t : Part) (plant warehouse : List NoticeBody) : Prop :=
  t.portPlant = offerAll s.time plant s.portPlant ∧ t.portWarehouse = offerAll s.time warehouse s.portWarehouse

/-! ### Alarms -/

/-- There is a place for a raise: a record of the (kind, subject) is present, or the table holds fewer than 96 (R176, R177). -/
def roomFor (k : AlarmKind) (x : Subject) (s : Part) : Prop :=
  (∃ a ∈ s.alarms.records, a.kind = k ∧ a.subject = x) ∨ s.alarms.records.length < alarmRoom

/-- No record of the (kind, subject) is ACTIVE_ACK, so that none of a later raise in the same event can displace it (R180). -/
def notAcked (k : AlarmKind) (x : Subject) (s : Part) : Prop :=
  ∀ a ∈ s.alarms.records, a.kind = k → a.subject = x → a.state ≠ .activeAck

/-- A record of the (kind, subject) is present, active, and was last raised now. -/
def raisedNow (k : AlarmKind) (x : Subject) (t : Part) : Prop :=
  ∃ a ∈ t.alarms.records, a.kind = k ∧ a.subject = x ∧ a.state ≠ .clearedUnack ∧ a.lastRepeat = t.time

/-- R180: the alarm table holds at most 96 records. -/
def alarmsBounded (s : Part) : Prop := s.alarms.records.length ≤ alarmRoom

/-- Section 9.1: (kind, subject) is unique in the alarm table. -/
def alarmsUnique (s : Part) : Prop := (s.alarms.records.map fun a => (a.kind, a.subject)).Nodup

/-- R176: no two records of the alarm table share a number. -/
def alarmNumbersUnique (s : Part) : Prop := (s.alarms.records.map (·.number)).Nodup

/-- R179: a latched record is always in ACTIVE_UNACK while it is present. -/
def latchedUnacked (s : Part) : Prop := ∀ a ∈ s.alarms.records, a.kind.latched = true → a.state = .activeUnack

/-- The alarm table is sound. -/
def alarmsSound (s : Part) : Prop := alarmsBounded s ∧ alarmsUnique s ∧ alarmNumbersUnique s ∧ latchedUnacked s

/-- R182: while the part operates the relay is energised exactly while a CRITICAL record is ACTIVE_UNACK, and it is de-energised
otherwise. -/
def relayRight (s : Part) : Prop := s.alarms.relay = (s.running && relayWanted s.alarms.records)

/-- R13, R14: a part that operates is in NORMAL or DIP_PENDING, and one whose records are not lost has its reset input released. -/
def supplyRight (s : Part) : Prop :=
  (s.supply.service ≠ .stopped → s.supply.resetAsserted = false)
    ∧ (s.running = true → s.supply.state = .normal ∨ s.supply.state = .dipPending)

/-! ### Ports -/

/-- R190: each notice queue holds at most 64 notices. -/
def queuesBounded (s : Part) : Prop := s.portPlant.queue.length ≤ queueDepth ∧ s.portWarehouse.queue.length ≤ queueDepth

/-! ### Pallets -/

/-- R107: every pallet identifier appears in at most one record (the table stands in ascending identifier). -/
def palletsUnique (s : Part) : Prop := (s.pallets.map (·.id)).Pairwise (· < ·)

/-- R107: a record's status is MOVING exactly while it holds a move. -/
def movingMarked (s : Part) : Prop := ∀ p ∈ s.pallets, (p.status = .moving ↔ p.move.isSome = true)

/-- Section 5.1: a pallet identifier appears at most once in an entry list. -/
def entriesUnique (s : Part) : Prop := ∀ d : DoorId, ((s.slots.get d).entries.map (·.id)).Nodup

/-- R119: the credits in use equal the pallets located in the hall plus the moves in flight whose flag is set. -/
def creditsRight (s : Part) : Prop := s.credits = hallCount s + reservedCount s

/-- The pallet table and the staging credits are sound. -/
def tableSound (s : Part) : Prop := palletsUnique s ∧ movingMarked s ∧ entriesUnique s ∧ creditsRight s

/-- R112, R139: no quarantined pallet holds a move toward a dock door. -/
def quarantineKept (s : Part) : Prop := ∀ p ∈ s.pallets, p.quarantined = true → movesToDoor p = false

/-- Sections 7.2 and 7.5: the thermal fields lie in their ranges, and no pallet was updated after now. -/
def thermalInRange (s : Part) : Prop :=
  ∀ p ∈ s.pallets, -5000 ≤ p.estimate ∧ p.estimate ≤ 5000 ∧ -1000000 < p.remainder ∧ p.remainder < 1000000
    ∧ p.exposure ≤ maxExposure ∧ p.updated ≤ s.time

/-! ### Defrost -/

/-- R160: the evaporators in HEATING never exceed the heat slot count in force. -/
def heatWithinSlots (s : Part) : Prop := heatingCount s ≤ s.heatInForce

/-- R8, R154: the members of a zone's batch are distinct in-service evaporators of that zone. -/
def membersOwn (s : Part) : Prop :=
  ∀ z b, s.batches.get z = some b →
    (b.members.map (·.evap)).Nodup
      ∧ ∀ m ∈ b.members, (s.cfg.evaps.get m.evap).inService = true ∧ (s.cfg.evaps.get m.evap).zone = some z

/-! ### Safety -/

/-- The properties together. -/
structure Safe (s : Part) : Prop where
  queues : queuesBounded s
  alarms : alarmsSound s
  relay : relayRight s
  supply : supplyRight s
  table : tableSound s
  quarantine : quarantineKept s
  heat : heatWithinSlots s
  members : membersOwn s

end Sys2Proof.Machine
end

