-- ==== Sys2Proof/WellFormed.lean ====
section
/-! DEFINITION. Which commands are well formed: what the line, the receiver and the loop let reach the part. `exec` gives every command a
meaning, the ill-formed ones included. -/

namespace Sys2Proof

open Sys2Proof.Machine

/-- A request body: the length of a request frame, code and tag included, is 2 to 256 (R199). -/
def bodyFits (body : List Byte) : Bool := body.length ≤ 254

/-- Codes 0 and 41 to 255 name no request (R198). -/
def codeUnknown (code : Byte) : Bool := code.toNat = 0 || 40 < code.toNat

/-- Bytes of one frame that is discarded: from HUNT they leave the receiver in HUNT with no valid frame (R199). -/
def frameBad (arrived : List (Nat × Byte)) : Bool :=
  !arrived.isEmpty && receive .hunt arrived == (.hunt, [])

/-- Bytes of a partial frame that a gap of more than 5 ms ends (R199). -/
def framePartial (arrived : List (Nat × Byte)) (ms : Nat) : Bool :=
  let x := receive .hunt arrived
  x.2.isEmpty && x.1 != .hunt && afterGap x.1 ms == .hunt

/-- Do the encoded fields of a report hold defined values (R202)? -/
def reportReads (k : StationKind) (body : List Byte) : Bool :=
  match k with
  | .dock => (readDockReport body).isSome
  | .portal => (readPortalReport body).isSome
  | .evap => (readEvapReport body).isSome
  | .probe => (readProbeReport body).isSome
  | .none => false

/-- Bytes that fail a framing, CRC or value check of R202. -/
def reportBad (bytes : List Byte) : Bool :=
  match readReport bytes with
  | some f => !reportReads f.kind f.body
  | none => true

/-- A pallet identifier: 1 to 4,294,967,295 (Section 6.1). -/
def idFits (id : Nat) : Bool := 0 < id && id < 4294967296

/-- The well-formed commands. -/
def WellFormed (i : Instr) : Bool :=
  match i with
  | .ping _ _ b | .readSettings _ _ b | .writeSettings _ _ b | .lockout _ _ b | .readStation _ _ b | .readZone _ _ b
  | .zoneBulk _ _ b | .zoneBulkRelease _ _ b | .zonePulldown _ _ b | .zoneRelease _ _ b | .readDoor _ _ b | .claimDoor _ _ b
  | .unclaimDoor _ _ b | .holdDoor _ _ b | .unholdDoor _ _ b | .sealDoor _ _ b | .reseal _ _ b | .releaseDoor _ _ b
  | .openDoor _ _ b | .closeDoor _ _ b | .manifestBegin _ _ b | .manifestEntry _ _ b | .manifestCommit _ _ b
  | .manifestClear _ _ b | .readManifest _ _ b | .move _ _ b | .cancelMove _ _ b | .removePallet _ _ b | .readPallet _ _ b
  | .findPallets _ _ b | .readStaging _ _ b | .defrostRequest _ _ b | .forceDefrost _ _ b | .cancelDefrost _ _ b
  | .setHeatSlots _ _ b | .readEvaporator _ _ b | .readDefrost _ _ b | .ackAlarm _ _ b | .readAlarms _ _ b
  | .fetchNotices _ _ b => bodyFits b
  | .unknownRequestCode _ code _ b => codeUnknown code && bodyFits b
  | .receiverGapTimeout _ arrived ms => framePartial arrived ms
  | .frameDiscarded _ arrived => frameBad arrived
  | .badReport bytes => reportBad bytes
  | .dockReport _ b => reportLength .dock b
  | .portalReport _ b => reportLength .portal b
  | .evapReport _ b => reportLength .evap b
  | .probeReport _ b => reportLength .probe b
  | .moveExpiry id => idFits id
  | .supplyFall _ | .supplyRise _ | .dipFilterExpiry _ | .rideThroughLimit _ | .warmRestart _ | .coldStart _ | .resetAssert
  | .resetRelease _ | .deviceTimeTick | .bankWriteComplete _ | .supervisionDeadline _ | .roundStart _ | .poll
  | .reportWindowExpiry | .freshnessExpiry _ | .staleHoldOffExpiry _ | .warmDeadlineExpiry _ | .recoveryDeadlineExpiry _
  | .zoneExposureIntervalExpiry _ | .bulkDeadlineExpiry _ | .sealDeadlineExpiry _ | .travelDeadlineExpiry _
  | .portalTravelDeadlineExpiry _ | .openDeadlineExpiry _ | .grantDeadlineExpiry _ | .doorExposureIntervalExpiry _
  | .entryDeadlineExpiry _ | .backstopDeadlineExpiry _ | .overdueDeadlineExpiry _ | .gatherWindowExpiry _
  | .pumpdownDeadlineExpiry _ | .heatDeadlineExpiry _ | .dripDeadlineExpiry _ | .refreezeMaximumExpiry _
  | .suspensionDeadlineExpiry _ => true

end Sys2Proof
end

