-- ==== Sys2Proof/Certificates/Slice0/Obligations.lean ====
section
/-! DEFINITION. The statements for the provers. In a statement about a request `r` is the part its port has renewed (R185): a request
finds the records as the renewal leaves them. Other commands find `cleared s`, the part without the frames sent before. -/

open Sys2Proof Sys2Proof.Machine

/-! ### The machine -/

/-- A step with a command at the front of the queue is `exec` of that command with the rest of the queue, and every command has a next
state. -/
def Obligations.StepRunsTheFrontCommand : Prop :=
  ∀ (c : Instr) (s : State), step { s with pending := c :: s.pending } = exec c s
    ∧ ∃ t, exec c s = .next t ∧ t.pending = s.pending

/-- FRAME of every command: the groups of records outside `mayChange c` are as the command found them. -/
def Obligations.CommandsKeepToTheirRecords : Prop :=
  ∀ (c : Instr) (s t : State), exec c s = .next t → Within (mayChange c) (basis c s) t.part

/-- R13, R14 and R186: what finds the part or its port engaged. A part that does not operate takes no request, report, poll or expiry. A
request that arrives while another is in service on its port is answered PORT_BUSY with its own tag, and has no effect but the renewal of
the port. -/
def Obligations.StoppedOrBusyTakesNothing : Prop :=
  (∀ (c : Instr) (s : State), s.part.running = false → isSupplyEvent c = false →
      ∃ t, exec c s = .next t ∧ t.pending = s.pending ∧ t.part = cleared s)
    ∧ (∀ (c : Instr) (s : State) (p : Port) (code : Nat) (tag : Byte), asRequest c = some (p, code, tag) → s.part.running = true →
        (s.part.port p).inService ≠ none → readsOut c p code tag .portBusy [] s)

/-! ### Requests -/

/-- R185 steps 3 and 4, R200, R2: a request that the request table marks for the other port is refused NOT_PERMITTED; a code that names no
request, and a body that does not read as its code requires, are refused BAD_REQUEST; a request that names a door or a zone out of service
is refused UNKNOWN_ID; a request of dock doors only that names a portal is refused BAD_REQUEST, a manifest request whether or not the portal
is in service (Section 5.1). The response body is empty and nothing changes. That the body is read after the role check and before the
request's own checks is the model's reading (notes/assumptions/10.md). -/
def Obligations.RefusedRequestsChangeNothing : Prop :=
  ∀ (c : Instr) (s : State) (p : Port) (code : Nat) (tag : Byte), asRequest c = some (p, code, tag) → takes p s →
    (WellFormed c = true → roleOf code = some p.other → readsOut c p code tag .notPermitted [] s)
      ∧ (roleOf code ≠ some p.other → bodyReads c = false → readsOut c p code tag .badRequest [] s)
      ∧ (∀ b body, c = .unknownRequestCode p b tag body → WellFormed c = true → readsOut c p code tag .badRequest [] s)
      ∧ (roleOf code ≠ some p.other →
          (∀ x, namedDoor c = some x → doorInService s.part x = false → code ∉ manifestCodes → readsOut c p code tag .unknownId [] s)
          ∧ (∀ d, namedDoor c = some (.dock d) → dockInService s.part d = false → readsOut c p code tag .unknownId [] s)
          ∧ (∀ q, namedDoor c = some (.portal q) → code ∈ manifestCodes ∨ (code ∈ dockCodes ∧ portalInService s.part q = true) →
              readsOut c p code tag .badRequest [] s)
          ∧ (∀ z, namedZone c = some z → zoneInService s.part z = false → readsOut c p code tag .unknownId [] s))

/-- R185 step 1, R193 and R195: every valid request leaves its port ACTIVE with its deadline one supervision interval ahead, whatever
becomes of the request, and a port that was SILENT has PORT_RESTORED placed in the other port's queue. The port's interval is the one in
force when the request arrives. -/
def Obligations.ValidRequestRenewsItsPort : Prop :=
  ∀ (c : Instr) (s : State) (p : Port) (code : Nat) (tag : Byte), asRequest c = some (p, code, tag) → s.part.running = true →
    ∃ t, exec c s = .next t ∧ (t.part.port p).silent = false ∧ (t.part.port p).lastRequest = some s.part.time
      ∧ (t.part.port p).supervisionDl = some (addTime s.part.time (portInterval s.part p))
      ∧ ((s.part.port p).silent = true → (s.part.port p.other).queue.length < queueDepth →
          ⟨(s.part.port p.other).nextNumber, s.part.time, .portRestored p s.part.time⟩ ∈ ((renewed p s).port p.other).queue)
      ∧ ((s.part.port p).silent = true → p = .plant → (renewed p s).heatInForce = s.part.heatCommanded)
      ∧ ((s.part.port p).silent = false →
          renewed p s = modPort p (fun r => { r with
            receiver := .hunt, lastRequest := some s.part.time
            supervisionDl := some (addTime s.part.time (portInterval s.part p)) }) (cleared s))

/-- The read requests: each is answered OK with the fields its rule lists, as they stand, or UNKNOWN_ID where the element is out of
service or no record exists, and changes nothing (R36, R58, R90, R102, R121, R130, R173, R184, R188, R189). Bytes of a body that Section
11 leaves open are the model's choice (notes/assumptions/4.md). -/
def Obligations.ReadsAnswerAndChangeNothing : Prop :=
  ∀ (s : State) (p : Port) (tag : Byte) (body : List Byte), takes p s →
    let r := renewed p s
    (body = [] → readsOut (.ping p tag body) p 1 tag .ok (pingBody r) s)
      ∧ (∀ k, readRecordKey body = some k → readsOut (.readSettings p tag body) p 2 tag .ok (putRecord (readCfg s.part.cfg k)) s)
      ∧ (∀ a, readStation body = some a → readsOut (.readStation p tag body) p 5 tag .ok (stationBody r a) s)
      ∧ (∀ z, readZone body = some z →
          (zoneInService s.part z = true → readsOut (.readZone p tag body) p 6 tag .ok (zoneBody r z) s
            ∧ readsOut (.readDefrost p tag body) p 37 tag .ok (defrostBody r z) s)
          ∧ (zoneInService s.part z = false → readsOut (.readZone p tag body) p 6 tag .unknownId [] s
            ∧ readsOut (.readDefrost p tag body) p 37 tag .unknownId [] s))
      ∧ (∀ d, readDoor body = some d →
          (doorInService s.part d = true → readsOut (.readDoor p tag body) p 11 tag .ok (doorBody r d) s)
          ∧ (doorInService s.part d = false → readsOut (.readDoor p tag body) p 11 tag .unknownId [] s))
      ∧ (∀ d, readDoor body = some (.dock d) →
          (dockInService s.part d = true → readsOut (.readManifest p tag body) p 25 tag .ok (manifestBody r d) s)
          ∧ (dockInService s.part d = false → readsOut (.readManifest p tag body) p 25 tag .unknownId [] s))
      ∧ (∀ q, readDoor body = some (.portal q) → readsOut (.readManifest p tag body) p 25 tag .badRequest [] s)
      ∧ (∀ id, readPalletId body = some id →
          (id = 0 → readsOut (.readPallet p tag body) p 29 tag .badRequest [] s)
          ∧ (id ≠ 0 → findPallet s.part id = none → readsOut (.readPallet p tag body) p 29 tag .unknownId [] s)
          ∧ (∀ x, id ≠ 0 → findPallet s.part id = some x → readsOut (.readPallet p tag body) p 29 tag .ok (putPallet x) s))
      ∧ (∀ l n, readFind body = some (l, n) →
          (locInService s.part l = true → readsOut (.findPallets p tag body) p 30 tag .ok (findBody s.part l n) s)
          ∧ (locInService s.part l = false → readsOut (.findPallets p tag body) p 30 tag .unknownId [] s))
      ∧ (body = [] → readsOut (.readStaging p tag body) p 31 tag .ok (stagingBody r) s)
      ∧ (∀ e, readEvap body = some e →
          ((s.part.cfg.evaps.get e).inService = true → readsOut (.readEvaporator p tag body) p 36 tag .ok (evapBody r e) s)
          ∧ ((s.part.cfg.evaps.get e).inService = false → readsOut (.readEvaporator p tag body) p 36 tag .unknownId [] s))
      ∧ (∀ n f, readAlarmQuery body = some (n, f) → readsOut (.readAlarms p tag body) p 39 tag .ok (alarmsBody r n f) s)

/-- R192: FETCH NOTICES gives up to the maximum of the oldest notices, oldest first, the OVERFLOW mark as it stood and the number left; the
notices returned are removed and OVERFLOW is cleared. A maximum outside 1 to 8 is refused BAD_REQUEST. The bytes of a notice's body that
Section 11 leaves open are the model's choice (notes/assumptions/4.md). -/
def Obligations.FetchNoticesRemovesTheOldest : Prop :=
  ∀ (s : State) (p : Port) (tag : Byte) (n : Nat), takes p s → n < 256 →
    let r := renewed p s
    let q := (r.port p).queue
    (1 ≤ n → n ≤ 8 →
      ∃ t, exec (.fetchNotices p tag [BitVec.ofNat 8 n]) s = .next t ∧ t.pending = s.pending
        ∧ answered p 40 tag .ok
            (putMark (r.port p).overflow ++ putU8 (q.drop n).length ++ putU8 (q.take n).length ++ ((q.take n).map putNotice).flatten) t
        ∧ t.part.port p = { r.port p with queue := q.drop n, overflow := false }
        ∧ t.part.port p.other = r.port p.other ∧ Within [.ports] r t.part)
      ∧ (n = 0 ∨ 8 < n → readsOut (.fetchNotices p tag [BitVec.ofNat 8 n]) p 40 tag .badRequest [] s)

/-- R191: a notice offered to a queue that holds 64 notices is discarded: OVERFLOW is set, the next notice number moves on, and nothing
else of the part changes. Below 64 the notice is placed last with that number (R190). OVERFLOW stays set through every command but a
FETCH NOTICES on the port and the starts. -/
def Obligations.OfferedNoticeIsPlacedOrCounted : Prop :=
  ∀ (b : NoticeBody) (p : Port) (s : Part), (s.port p).queue.length ≤ queueDepth →
    let next := if (s.port p).nextNumber = 65535 then 1 else (s.port p).nextNumber + 1
    ((s.port p).queue.length = 64 → (notify p b s).port p = { s.port p with overflow := true, nextNumber := next })
      ∧ ((s.port p).queue.length < 64 →
          (notify p b s).port p
            = { s.port p with queue := (s.port p).queue ++ [⟨(s.port p).nextNumber, s.time, b⟩], nextNumber := next })
      ∧ (notify p b s).port p.other = s.port p.other ∧ Within [.ports] s (notify p b s)
      ∧ ∀ (c : Instr) (u t : State), u.part = s → (s.port p).overflow = true → isSupplyEvent c = false →
          (∀ tag body, c ≠ .fetchNotices p tag body) → exec c u = .next t → (t.part.port p).overflow = true

/-- R193 and R194: the deadline of an ACTIVE port reached with no request in service makes the port SILENT; PORT_SILENT is raised, and
PORT_SILENT is placed in the other port's queue with the time of the silent port's last valid request, for the plant port the fallback
heat slots come into force, for the warehouse port every pending OPEN DOOR request ends and every BULK ends. A deadline that is not due
does nothing, which is the model's reading (notes/assumptions/6.md). -/
def Obligations.SupervisionDeadlineSilencesThePort : Prop :=
  ∀ (s : State) (p : Port), s.part.running = true →
    let k := s.part.port p
    ∃ t, exec (.supervisionDeadline p) s = .next t ∧ t.pending = s.pending ∧ t.part.out = []
      ∧ ((k.silent = false ∧ k.inService = none ∧ reached k.supervisionDl s.part.time = true) →
          (t.part.port p).silent = true ∧ (t.part.port p).supervisionDl = none
            ∧ (roomFor .portSilent (.port p) s.part → notAcked .portSilent (.port p) s.part → raisedNow .portSilent (.port p) t.part)
            ∧ (∀ m, k.lastRequest = some m → (t.part.port p.other).overflow = false →
                ∃ n ∈ (t.part.port p.other).queue, n.body = .portSilent p m ∧ n.time = s.part.time)
            ∧ (p = .plant → t.part.heatInForce = s.part.cfg.defrost.fallbackSlots)
            ∧ (p = .warehouse → ∀ d, openDoorPending (t.part.docks.get d) = false)
            ∧ (p = .warehouse → ∀ z, (s.part.zones.get z).mode ≠ .draining → (s.part.zones.get z).mode ≠ .pulldown →
                (s.part.zones.get z).mode ≠ .outOfService → (t.part.zones.get z).mode = .open))
      ∧ (¬ (k.silent = false ∧ k.inService = none ∧ reached k.supervisionDl s.part.time = true) → t.part = cleared s)

/-- R199: a discarded frame, or one that a gap ends, gets no response, renews no supervision and changes no record; the receiver is back
in HUNT. The operands of the two commands are the model's (notes/assumptions/9.md). -/
def Obligations.DamagedFrameChangesNoRecord : Prop :=
  ∀ (s : State) (p : Port) (arrived : List (Nat × Byte)) (ms : Nat), s.part.running = true →
    ((s.part.port p).receiver = .hunt → frameBad arrived = true →
      ∃ t, exec (.frameDiscarded p arrived) s = .next t ∧ t.pending = s.pending ∧ t.part = cleared s)
    ∧ ((s.part.port p).receiver = .hunt → framePartial arrived ms = true →
      ∃ t, exec (.receiverGapTimeout p arrived ms) s = .next t ∧ t.pending = s.pending ∧ t.part = cleared s)
    ∧ (∃ t, exec (.frameDiscarded p arrived) s = .next t ∧ ∃ rc, t.part = modPort p (fun k => { k with receiver := rc }) (cleared s))
    ∧ (∃ t, exec (.receiverGapTimeout p arrived ms) s = .next t
        ∧ ∃ rc, t.part = modPort p (fun k => { k with receiver := rc }) (cleared s))

/-! ### Supply, starts and device time -/

/-- R13, R16: device time counts each second, in RIDE_THROUGH as well, stops at its maximum, and is not counted by a part whose records
are lost. What the supply events do to the monitor: A fall in NORMAL begins a dip, a rise in DIP_PENDING ends it with no effect on
operation; ten milliseconds after the dip start the monitor is in RIDE_THROUGH with service suspended: receivers and loop idle, no
request in service, the bank write stopped, the relay de-energised, every other record kept. The millisecond operands, and that an event
whose guard fails changes nothing, and that a poll in flight is dropped, are the model's (notes/assumptions/13.md). -/
def Obligations.SupplyDipSuspendsService : Prop :=
  ∀ (ms : Nat) (s : State),
    let u := s.part.supply
    (u.service ≠ .stopped → ∃ t, exec .deviceTimeTick s = .next t ∧ t.pending = s.pending ∧ t.part.out = []
      ∧ t.part.time = min (s.part.time + 1) 4294967295 ∧ Within [.time] (cleared s) t.part)
    ∧ (u.service = .stopped → ∃ t, exec .deviceTimeTick s = .next t ∧ t.part = cleared s)
    ∧ (∃ t, exec (.supplyFall ms) s = .next t ∧ t.pending = s.pending ∧ t.part.out = [] ∧ Within [.supply] (cleared s) t.part
      ∧ t.part.supply.service = u.service ∧ t.part.supply.risen = none
      ∧ (u.state = .normal → t.part.supply.state = .dipPending ∧ t.part.supply.dipStart = some ms)
      ∧ (u.state ≠ .normal → t.part.supply.state = u.state ∧ t.part.supply.dipStart = u.dipStart))
    ∧ (∃ t, exec (.supplyRise ms) s = .next t ∧ t.pending = s.pending ∧ t.part.out = [] ∧ Within [.supply] (cleared s) t.part
      ∧ t.part.supply.service = u.service ∧ t.part.supply.risen = some ms
      ∧ (u.state = .dipPending → t.part.supply.state = .normal)
      ∧ (u.state ≠ .dipPending → t.part.supply.state = u.state ∧ t.part.supply.dipStart = u.dipStart))
    ∧ (∀ d, u.state = .dipPending → u.dipStart = some d → d + 10 ≤ ms → s.part.running = true →
      ∃ t, exec (.dipFilterExpiry ms) s = .next t ∧ t.pending = s.pending ∧ t.part.out = []
        ∧ t.part.supply.state = .rideThrough ∧ t.part.supply.service = .suspended ∧ t.part.supply.suspendedAt = s.part.time
        ∧ (∀ p, (t.part.port p).receiver = .hunt ∧ (t.part.port p).inService = none
            ∧ (t.part.port p).queue = (s.part.port p).queue ∧ (t.part.port p).silent = (s.part.port p).silent)
        ∧ t.part.loop.stations = s.part.loop.stations ∧ t.part.loop.round = [] ∧ t.part.loop.inFlight = none
        ∧ (∀ w, t.part.store.current = some w → w.stopped = true ∧ w.op.requester = none)
        ∧ t.part.store.bank1 = s.part.store.bank1 ∧ t.part.store.bank2 = s.part.store.bank2
        ∧ t.part.alarms = { s.part.alarms with relay := false }
        ∧ Within [.supply, .store, .loop, .alarms, .ports] s.part t.part)
    ∧ (∀ d, u.state = .dipPending → u.dipStart = some d → ms < d + 10 →
      ∃ t, exec (.dipFilterExpiry ms) s = .next t ∧ t.part = cleared s)

/-- R12, R13, R14, R18, R37, R59, R91, R147, R174: what ends a run and begins it again. Past the ride-through limit, and while the reset
input is asserted, the records are lost and only the banks stay. A cold start, from DOWN after 100 ms of supply, from a released reset in
NORMAL, or from a released reset once the supply has qualified, loads the newer of two valid banks whose sequence numbers are one apart,
the valid bank of one, bank 1 of two that are otherwise apart, and the blank configuration of none, begins a repair write unless both banks
agree, sets device time to 0 and gives every record its first value. A reset released in a dip waits for the supply, in DOWN for the power.
The millisecond operands are the model's (notes/assumptions/13.md). A door starts in FAULT also where its stored lockout is set. -/
def Obligations.ColdStartClearsEveryRecord : Prop :=
  (∀ (b1 b2 : Bank),
    let x := loadBanks b1 b2
    (b1.valid = true → b2.valid = true → b2.seq = succSeq b1.seq →
        x.cfg = b2.data ∧ x.status = .good ∧ x.last = .two ∧ x.seq = b2.seq ∧ x.repair = false)
      ∧ (b1.valid = true → b2.valid = true → b1.seq = succSeq b2.seq → b2.seq ≠ succSeq b1.seq →
        x.cfg = b1.data ∧ x.status = .good ∧ x.last = .one ∧ x.seq = b1.seq ∧ x.repair = false)
      ∧ (b1.valid = true → (b2.valid = true → b2.seq ≠ succSeq b1.seq ∧ b1.seq ≠ succSeq b2.seq) →
        x.cfg = b1.data ∧ x.status = .oneBank ∧ x.last = .one ∧ x.seq = b1.seq ∧ x.repair = true)
      ∧ (b1.valid = false → b2.valid = true →
        x.cfg = b2.data ∧ x.status = .oneBank ∧ x.last = .two ∧ x.seq = b2.seq ∧ x.repair = true)
      ∧ (b1.valid = false → b2.valid = false →
        x.cfg = blankSettings ∧ x.status = .storeFault ∧ x.last = .two ∧ x.seq = 4294967295 ∧ x.repair = true)
      ∧ succSeq 4294967295 = 1 ∧ ∀ n, n < 4294967295 → succSeq n = n + 1)
  ∧ (∀ (ms : Nat) (s : State),
    let u := s.part.supply
    let x := loadBanks s.part.store.bank1 s.part.store.bank2
    let interval := some (addTime 0 x.cfg.staging.exposureInterval)
    let blocks (t : State) : Prop :=
      (∀ z, let c := x.cfg.zones.get z
        t.part.batches.get z = none
          ∧ (c.inService = true → t.part.zones.get z = ⟨500, true, some (addTime 0 c.staleTime), .open, none, none, none, interval, 0⟩)
          ∧ (c.inService = false → t.part.zones.get z = ⟨500, true, none, .outOfService, none, none, none, none, 0⟩))
        ∧ (∀ y, t.part.probes.get y = ⟨none, none, false⟩)
        ∧ (∀ d, let c := x.cfg.docks.get d
          t.part.slots.get d = ⟨.empty, none, none, [], none, none, 0⟩
            ∧ t.part.docks.get d
                = { state := .fault, firstPending := true, claim := .none, trailer := none
                    returnMark := false, revision := 0, capture := none, captureStart := none, sealDl := none, travelDl := none
                    openDl := none, extensions := 0, pending := none, refusal := false, consistent := 0, last := none
                    settleFrom := none, carry := 0, exposureDl := if c.inService then interval else none, sealOut := .deflate
                    heard := false })
        ∧ (∀ q, t.part.portals.get q
            = { state := .fault, firstPending := true, claim := .none, revision := 0
                openCommand := false, grantDl := none, travelDl := none, pending := none, consistent := 0, last := none
                settleFrom := none, carry := 0, heard := false })
        ∧ (∀ e, let c := x.cfg.evaps.get e
          t.part.evaps.get e
            = { sub := .idle, faultCause := none, frost := c.trigger / 2, demandTime := none, overdueDl := none, lastEnd := 0
                backstopDl := some (addTime 0 (c.backstopHours * 3600)), heatStart := none, heatDl := none, heatUsed := 0
                noCurrent := 0, stuck := 0, last := none })
        ∧ (∀ a, t.part.loop.stations.get a = ⟨.offline, 0, 0, none, none⟩)
    let cold (c : Cause) (t : State) : Prop :=
      t.pending = s.pending ∧ t.part.supply.state = .normal ∧ t.part.running = true ∧ t.part.time = 0 ∧ t.part.cfg = x.cfg
        ∧ t.part.cause = ⟨c, x.status, 0, 0, 0⟩ ∧ t.part.pallets = [] ∧ t.part.credits = 0 ∧ t.part.alarms = ⟨[], 1, false, 0, false⟩
        ∧ t.part.heatCommanded = 2 ∧ t.part.heatInForce = 2 ∧ blocks t
        ∧ (∀ p, (t.part.port p).queue = [⟨1, 0, .start c x.status 0⟩] ∧ (t.part.port p).silent = false
            ∧ (t.part.port p).supervisionDl = some (addTime 0 (portInterval t.part p)) ∧ (t.part.port p).inService = none)
        ∧ (x.repair = true → t.part.store.current.map (fun w => (w.op.requester, w.copy)) = some (none, x.cfg))
        ∧ (x.repair = false → t.part.store.current = none)
    let lost (t : State) : Prop :=
      t.pending = s.pending ∧ t.part.running = false ∧ t.part.store.bank1 = s.part.store.bank1 ∧ t.part.store.bank2 = s.part.store.bank2
        ∧ t.part.alarms.relay = false ∧ t.part.out = []
    (∀ d, u.state = .rideThrough → u.dipStart = some d → d + 500 ≤ ms →
        ∃ t, exec (.rideThroughLimit ms) s = .next t ∧ lost t ∧ t.part.supply.state = .down)
      ∧ (∃ t, exec .resetAssert s = .next t ∧ lost t ∧ t.part.supply.state = u.state ∧ t.part.supply.resetAsserted = true)
      ∧ (u.resetAsserted = true → u.state = .normal → ∃ t, exec (.resetRelease ms) s = .next t ∧ cold .coldReset t)
      ∧ (u.resetAsserted = true → u.state = .dipPending ∨ u.state = .rideThrough →
          ∃ t, exec (.resetRelease ms) s = .next t ∧ t.pending = s.pending
            ∧ t.part.supply = { u with resetAsserted := false, resetWait := true } ∧ Within [.supply] (cleared s) t.part)
      ∧ (u.resetAsserted = true → u.state = .down →
          ∃ t, exec (.resetRelease ms) s = .next t ∧ t.pending = s.pending
            ∧ t.part.supply = { u with resetAsserted := false, released := ms } ∧ Within [.supply] (cleared s) t.part)
      ∧ (u.resetAsserted = false → ∃ t, exec (.resetRelease ms) s = .next t ∧ t.part = cleared s)
      ∧ (∀ q, u.resetAsserted = false → u.state = .down → u.risen = some q → max q u.released + 100 ≤ ms →
          ∃ t, exec (.coldStart ms) s = .next t ∧ cold .coldPower t)
      ∧ (∀ q, u.resetAsserted = false → u.resetWait = true → u.state = .rideThrough ∨ u.state = .normal → u.risen = some q → q + 10 ≤ ms →
          ∃ t, exec (.coldStart ms) s = .next t ∧ cold .coldReset t))

/-- R15, R17, R35, R196: a warm restart resumes with the records kept: device time, settings, probes and manifests as they stood, the
cause record updated, both queues headed by START, the ports free for a new request, station counts at 0, the stopped bank write begun
again from the working copy, and every pallet settled up to the restart. The millisecond operands and the last dip are the model's
reading (notes/assumptions/13.md), and so is the second copy of the working copy into the bank (notes/assumptions/11.md). -/
def Obligations.WarmRestartResumesWithRecordsKept : Prop :=
  ∀ (ms q d : Nat) (s : State), s.part.supply.state = .rideThrough → s.part.supply.service = .suspended → s.part.supply.dipStart = some d →
    s.part.supply.risen = some q → q + 10 ≤ ms → q + 10 - d ≤ 500 → palletsUnique s.part → (∀ x ∈ s.part.pallets, x.updated ≤ s.part.time) →
    ∃ t, exec (.warmRestart ms) s = .next t ∧ t.pending = s.pending ∧ t.part.out = []
      ∧ t.part.supply.state = .normal ∧ t.part.running = true
      ∧ t.part.cause = ⟨.warm, s.part.cause.status, s.part.time, min (s.part.cause.warmCount + 1) 65535, q + 10 - d⟩
      ∧ Within (mayChange (.warmRestart ms)) s.part t.part
      ∧ (∀ p, (t.part.port p).queue.head? = some ⟨1, s.part.time, .start .warm s.part.cause.status s.part.time⟩
          ∧ (t.part.port p).inService = none ∧ (t.part.port p).receiver = .hunt ∧ (t.part.port p).silent = (s.part.port p).silent
          ∧ (t.part.port p).supervisionDl
              = if (s.part.port p).silent then none else some (addTime s.part.time (portInterval s.part p)))
      ∧ (∀ a, t.part.loop.stations.get a = { s.part.loop.stations.get a with miss := 0, good := 0 })
      ∧ t.part.loop.round = [] ∧ t.part.loop.inFlight = none
      ∧ t.part.store.bank1 = s.part.store.bank1 ∧ t.part.store.bank2 = s.part.store.bank2 ∧ t.part.store.waiting = s.part.store.waiting
      ∧ t.part.store.current
          = s.part.store.current.map (fun w => { w with copy := s.part.cfg, second := false, stopped := false })
      ∧ t.part.heatInForce = (if s.part.portPlant.silent then s.part.cfg.defrost.fallbackSlots else s.part.heatCommanded)
      ∧ t.part.pallets.map (·.id) = s.part.pallets.map (·.id) ∧ (∀ x ∈ t.part.pallets, x.updated = s.part.time)

/-- The state right after the first cold start of a part as shipped: the values the spec gives for a cold start on the blank
configuration (R12, R14, R17, R18, R37, R59, R91, R108, R147, R174, R196). Which part this is, is the model's choice
(notes/assumptions/7.md). -/
def Obligations.ResetIsTheFirstColdStart : Prop :=
  State.reset.pending = [] ∧ State.reset.part.time = 0 ∧ State.reset.part.cause = ⟨.coldPower, .good, 0, 0, 0⟩
    ∧ State.reset.part.cfg = blankSettings ∧ State.reset.part.pallets = [] ∧ State.reset.part.credits = 0
    ∧ State.reset.part.heatCommanded = 2 ∧ State.reset.part.heatInForce = 2 ∧ State.reset.part.alarms.records = []
    ∧ State.reset.part.alarms.nextNumber = 1 ∧ State.reset.part.alarms.relay = false
    ∧ (∀ p, (State.reset.part.port p).queue = [⟨1, 0, .start .coldPower .good 0⟩] ∧ (State.reset.part.port p).nextNumber = 2
        ∧ (State.reset.part.port p).silent = false ∧ (State.reset.part.port p).supervisionDl = some 15)
    ∧ (∀ z, (State.reset.part.zones.get z).temp = 500 ∧ (State.reset.part.zones.get z).stale = true
        ∧ (State.reset.part.zones.get z).mode = .outOfService ∧ State.reset.part.batches.get z = none)
    ∧ (∀ d, (State.reset.part.docks.get d).state = .fault ∧ (State.reset.part.docks.get d).firstPending = true
        ∧ (State.reset.part.docks.get d).claim = .none ∧ (State.reset.part.slots.get d).state = .empty)
    ∧ (∀ e, (State.reset.part.evaps.get e).sub = .idle ∧ (State.reset.part.evaps.get e).frost = 10000
        ∧ (State.reset.part.evaps.get e).backstopDl = some 43200)
    ∧ (∀ a, (State.reset.part.loop.stations.get a).link = .offline)

/-! ### Settings Store -/

/-- R5, R11, R1: WRITE SETTINGS through its checks. A kind of the other port is refused NOT_PERMITTED; then a record that names an element
there is not, BAD_REQUEST; a structure or topology that breaks is refused with its status; all leave the working copy. A record that
binds an element to a DOCK, PORTAL or EVAP station another element is bound to, or a probe to the channel of another, is DUPLICATE, to a
station of another kind BAD_REQUEST. An accepted record replaces the working-copy record at once, clamped and with the stored lockout, no
response leaves yet, and a write operation begins or waits. Which status a record with two breaches gets follows the order of
notes/assumptions/14.md, what the reading of the body checks is notes/assumptions/10.md, and the response body notes/assumptions/11.md. -/
def Obligations.WriteSettingsReplacesTheRecord : Prop :=
  ∀ (s : State) (p : Port) (tag : Byte) (body : List Byte) (w : Written), takes p s → readRecord body = some w →
    let r := renewed p s
    let k := keepLockout r.cfg w.record
    let may := writableFrom p w.record = true ∧ w.identified = true
    let verdict := firstSome [structureCheck r.cfg k, topologyCheck r k]
    let refuses (st : Status) : Prop := readsOut (.writeSettings p tag body) p 3 tag st [] s
    (writableFrom p w.record = false → refuses .notPermitted)
      ∧ (writableFrom p w.record = true → w.identified = false → refuses .badRequest)
      ∧ (∀ st, may → verdict = some st → refuses st)
      ∧ (∀ e kind a, may → bindingOf w.record = some (e, kind, a) →
          let full := (r.cfg.stations.get a).kind ∈ [.dock, .portal, .evap] ∧ ∃ e', e' ≠ e ∧ e'.station r.cfg = some a
          let channel := ∃ y x, w.record = .probe y x ∧ ∃ y', y' ≠ y ∧ (r.cfg.probes.get y').station = some a
            ∧ (r.cfg.probes.get y').channel = x.channel
          (full ∨ channel → refuses .duplicate)
          ∧ (¬ full → ¬ channel → (r.cfg.stations.get a).kind ≠ kind → refuses .badRequest))
      ∧ (may → verdict = none →
          let op : WriteOp := ⟨some ⟨p, tag, 3⟩, if clampRecord k = k then .ok else .okClamped, putRecord (clampRecord k)⟩
          ∃ t, exec (.writeSettings p tag body) s = .next t ∧ t.pending = s.pending ∧ t.part.out = []
            ∧ t.part.cfg = writeCfg (clampRecord k) s.part.cfg ∧ (t.part.port p).inService = some tag
            ∧ (s.part.store.current = none →
                t.part.store.current = some ⟨op, otherBank s.part.store.lastBank, succSeq s.part.store.lastSeq, t.part.cfg, false, false⟩
                  ∧ t.part.store.waiting = s.part.store.waiting
                  ∧ bankOf t.part.store s.part.store.lastBank = bankOf s.part.store s.part.store.lastBank)
            ∧ (s.part.store.current ≠ none →
                t.part.store = { s.part.store with waiting := s.part.store.waiting ++ [op] })
            ∧ Within (mayChange (.writeSettings p tag body)) r t.part)

/-- R6, with the ranges of R4: clamping stores every numeric field at the nearer bound where it lies outside its range and keeps it where it
lies inside; then a ZONE allowance below the high offset, and a STAGING reduction or inbound limit above the capacity, takes that bound;
every other field of the record is kept. Clamping again changes nothing. -/
def Obligations.ClampingHoldsEveryFieldInRange : Prop :=
  ∀ (w : Record), clampRecord (clampRecord w) = clampRecord w
    ∧ (∀ a c, w = .station a c → clampRecord w = w)
    ∧ (∀ z c, w = .zone z c → ∃ n m, clampRecord w = .zone z n ∧ n.inService = c.inService
        ∧ heldInt (-400) 150 c.setpoint n.setpoint ∧ heldInt 5 200 c.highOffset n.highOffset ∧ heldInt 10 250 c.allowance m
        ∧ (m < n.highOffset → n.allowance = n.highOffset) ∧ (n.highOffset ≤ m → n.allowance = m)
        ∧ heldNat 10 600 c.staleTime n.staleTime ∧ heldNat 0 3600 c.alarmDelay n.alarmDelay
        ∧ heldNat 0 1800 c.recoveryTime n.recoveryTime)
    ∧ (∀ t c, w = .probe t c → clampRecord w = w)
    ∧ (∀ d c, w = .dock d c → ∃ n, clampRecord w = .dock d n ∧ n.inService = c.inService ∧ n.lockout = c.lockout
        ∧ n.station = c.station ∧ heldNat 1 60 c.sealLimit n.sealLimit ∧ heldNat 0 255 c.weight n.weight)
    ∧ (∀ d c, w = .handling d c → ∃ n, clampRecord w = .handling d n ∧ heldNat 0 3600 c.openLimit n.openLimit
        ∧ heldInt (-300) 100 c.precool n.precool ∧ heldInt (-500) 500 c.assumedTemp n.assumedTemp)
    ∧ (∀ q c, w = .portal q c → ∃ n, clampRecord w = .portal q n ∧ n.inService = c.inService ∧ n.lockout = c.lockout
        ∧ n.zone = c.zone ∧ n.station = c.station ∧ heldNat 5 120 c.grantTime n.grantTime ∧ heldNat 0 255 c.weight n.weight)
    ∧ (∀ e c, w = .evap e c → ∃ n, clampRecord w = .evap e n ∧ n.inService = c.inService ∧ n.lockout = c.lockout
        ∧ n.zone = c.zone ∧ n.station = c.station ∧ heldNat 100 60000 c.trigger n.trigger ∧ heldNat 1 48 c.backstopHours n.backstopHours)
    ∧ (∀ c, w = .defrost c → ∃ n, clampRecord w = .defrost n ∧ heldNat 0 900 c.gatherWindow n.gatherWindow
        ∧ heldNat 30 600 c.pumpdownTime n.pumpdownTime ∧ heldNat 0 900 c.dripTime n.dripTime
        ∧ heldInt 20 250 c.terminationTemp n.terminationTemp ∧ heldInt (-300) 0 c.fanStartTemp n.fanStartTemp
        ∧ heldNat 60 1800 c.refreezeMax n.refreezeMax ∧ heldNat 300 3600 c.maxHeat n.maxHeat
        ∧ heldNat 600 43200 c.maxDeferral n.maxDeferral ∧ heldNat 0 3 c.suspendLimit n.suspendLimit
        ∧ heldNat 60 1800 c.maxSuspended n.maxSuspended ∧ heldNat 0 8 c.fallbackSlots n.fallbackSlots)
    ∧ (∀ c, w = .staging c → ∃ n, clampRecord w = .staging n ∧ heldNat 0 400 c.capacity n.capacity
        ∧ heldNat 0 n.capacity c.reduction n.reduction ∧ heldNat 0 n.capacity c.inboundLimit n.inboundLimit
        ∧ heldNat 30 3600 c.moveLimit n.moveLimit ∧ heldNat 10 300 c.entryDeadline n.entryDeadline
        ∧ heldNat 0 7200 c.bulkTime n.bulkTime ∧ heldNat 10 300 c.exposureInterval n.exposureInterval
        ∧ n.defaultAction = c.defaultAction ∧ heldNat 0 7200 c.defaultDwell n.defaultDwell ∧ n.quarantineZone = c.quarantineZone)
    ∧ (∀ k c, w = .cls k c → ∃ n, clampRecord w = .cls k n ∧ heldNat 1 5000 c.rate n.rate ∧ heldInt (-300) 0 c.critical n.critical
        ∧ heldNat 0 50000 c.warnLimit n.warnLimit ∧ heldNat 0 50000 c.holdLimit n.holdLimit)
    ∧ (∀ k c, w = .rule k c → ∃ n, clampRecord w = .rule k n ∧ n.valid = c.valid ∧ n.consignee = c.consignee ∧ n.cls = c.cls
        ∧ n.action = c.action ∧ heldNat 0 7200 c.dwell n.dwell)
    ∧ (∀ p i, w = .port p i → ∃ n, clampRecord w = .port p n ∧ heldNat 2 120 i n)

/-- R10: LOCKOUT stores the lockout of the element it names and answers when the write operation ends; a station with an in-service bound
element whose lockout is clear, and an evaporator in a batch past GATHER, are refused BUSY_STATE. The lockout of an in-service element
takes hold at once. The state of a door is the one of R69. Which bytes name the element is the model's choice (notes/assumptions/4.md), and
so is that a set lockout of a station may be set again whatever is bound to it (notes/assumptions/14.md). -/
def Obligations.LockoutIsStoredAndTakesHold : Prop :=
  ∀ (s : State) (tag : Byte) (body : List Byte) (e : LockTarget) (b : Bool), takes .plant s → readLockout body = some (e, b) →
    let r := renewed .plant s
    let was := lockState r.cfg e
    (b = true → was = (true, false) → mayLock r e = false → readsOut (.lockout .plant tag body) .plant 4 tag .busyState [] s)
      ∧ ((b = true → was = (true, false) → mayLock r e = true) →
          ∃ t, exec (.lockout .plant tag body) s = .next t ∧ t.pending = s.pending ∧ t.part.out = []
            ∧ t.part.cfg = writeCfg (setLock b (readCfg s.part.cfg (lockKey e))) s.part.cfg
            ∧ t.part.portPlant.inService = some tag ∧ t.part.store.current.isSome = true
            ∧ ((was.1 = false ∨ was.2 = b) → Within [.cfg, .store, .ports] r t.part)
            ∧ (was = (true, !b) →
                (∀ d, e = .dock d →
                  (b = true → (t.part.docks.get d).state = .lockedOut ∧ (t.part.docks.get d).pending = none
                    ∧ (t.part.docks.get d).sealOut = .deflate ∧ (t.part.docks.get d).travelDl = none)
                  ∧ (b = false → (t.part.docks.get d).state = .fault ∧ (t.part.docks.get d).firstPending = true))
                ∧ (∀ q, e = .portal q →
                  (b = true → (t.part.portals.get q).state = .lockedOut ∧ (t.part.portals.get q).pending = none
                    ∧ (t.part.portals.get q).openCommand = false ∧ (t.part.portals.get q).travelDl = none)
                  ∧ (b = false → (t.part.portals.get q).state = .fault ∧ (t.part.portals.get q).firstPending = true))
                ∧ (∀ x, e = .evap x →
                  (b = true → (t.part.evaps.get x).sub = .idle ∧ (t.part.evaps.get x).demandTime = none
                    ∧ (t.part.evaps.get x).overdueDl = none)
                  ∧ (b = false → (t.part.evaps.get x).frost = (r.evaps.get x).frost
                      ∧ (t.part.evaps.get x).lastEnd = (r.evaps.get x).lastEnd))
                ∧ (∀ x, e = .probe x → t.part.probes.get x = ⟨none, none, false⟩)
                ∧ (∀ a, e = .station a →
                  (t.part.loop.stations.get a).link = .offline ∧ (t.part.loop.stations.get a).miss = 0 ∧ a ∉ t.part.loop.round)))

/-- R11: the end of a bank write. A match completes the operation and sends its response; a first mismatch writes the same bank again
with the same sequence; a second one completes with STORE_FAULT, keeps the working copy, and leaves the bank and sequence written last. A
waiting operation then begins. That the second attempt copies the working copy anew, and that a STORE_FAULT response carries the record,
is the model's reading (notes/assumptions/11.md). -/
def Obligations.BankWriteEndsByItsCheck : Prop :=
  ∀ (s : State) (w : BankWrite), s.part.running = true → s.part.store.current = some w → w.stopped = false →
    let sent (st : Status) : List Output :=
      match w.op.requester with
      | some q => [.response q.port ⟨q.code, q.tag, st, w.op.body⟩]
      | none => []
    let next (t : State) : Prop :=
      (s.part.store.waiting = [] → t.part.store.current = none ∧ t.part.store.waiting = [])
        ∧ ∀ op l, s.part.store.waiting = op :: l → t.part.store.waiting = l ∧ t.part.store.current
            = some ⟨op, otherBank t.part.store.lastBank, succSeq t.part.store.lastSeq, s.part.cfg, false, false⟩
    (∃ t, exec (.bankWriteComplete true) s = .next t ∧ t.pending = s.pending ∧ t.part.out = sent w.op.status
        ∧ (∀ q, w.op.requester = some q → (t.part.port q.port).inService = none)
        ∧ t.part.store.lastBank = w.bank ∧ t.part.store.lastSeq = w.seq ∧ bankOf t.part.store w.bank = ⟨true, w.seq, w.copy⟩ ∧ next t
        ∧ t.part.cause = s.part.cause ∧ Within [.store, .ports] s.part t.part)
      ∧ (w.second = false → ∃ t, exec (.bankWriteComplete false) s = .next t ∧ t.pending = s.pending ∧ t.part.out = []
          ∧ t.part.store = { s.part.store with current := some { w with second := true, copy := s.part.cfg } }
          ∧ Within [.store] s.part t.part)
      ∧ (w.second = true → ∃ t, exec (.bankWriteComplete false) s = .next t ∧ t.pending = s.pending ∧ t.part.out = sent .storeFault
          ∧ t.part.cause = { s.part.cause with status := .storeFault } ∧ t.part.store.lastBank = s.part.store.lastBank
          ∧ t.part.store.lastSeq = s.part.store.lastSeq ∧ next t ∧ Within [.store, .cause, .ports] s.part t.part)

/-! ### Field loop -/

/-- R19, R20: a round begins when the one before has ended and 200 ms have passed since it began, and lists the in-service stations with
their lockout clear in ascending address. A poll goes to the next of them with its output image as it stands and the section taken, once
the window of the poll before has ended. That a ROUND_START or POLL out of turn changes nothing is the model's choice
(notes/assumptions/6.md). -/
def Obligations.RoundPollsEachActiveStation : Prop :=
  ∀ (s : State) (ms : Nat), s.part.running = true →
    (∃ t, exec (.roundStart ms) s = .next t ∧ t.pending = s.pending ∧ t.part.out = []
      ∧ (s.part.loop.round = [] → s.part.loop.inFlight = none → (∀ b, s.part.loop.roundStart = some b → b + 200 ≤ ms) →
          t.part.loop = { s.part.loop with
            roundStart := some ms
            round := (List.finRange 62).filter fun a => (s.part.cfg.stations.get a).inService && !(s.part.cfg.stations.get a).lockout }
          ∧ Within [.loop] (cleared s) t.part)
      ∧ (s.part.loop.round ≠ [] ∨ s.part.loop.inFlight ≠ none ∨ (∃ b, s.part.loop.roundStart = some b ∧ ms < b + 200) →
          t.part = cleared s))
    ∧ (∃ t, exec .poll s = .next t ∧ t.pending = s.pending
      ∧ (∀ a l, s.part.loop.round = a :: l → s.part.loop.inFlight = none →
          t.part.out = [.poll a (s.part.cfg.stations.get a).kind (imageOf s.part a) (s.part.loop.stations.get a).sectionTaken]
          ∧ t.part.loop = { s.part.loop with round := l, inFlight := some ⟨a, imageOf s.part a, false⟩ }
          ∧ Within [.loop] (cleared s) t.part)
      ∧ (s.part.loop.round = [] ∨ s.part.loop.inFlight ≠ none → t.part = cleared s))

/-- R21, R22, R34, R67, R87, R170, R202: a poll with no report in its window, or with bytes that fail a check, is accounted as one miss; the
third miss takes an ONLINE station OFFLINE with its section taken removed, and raises STATION_OFFLINE whatever its link. The report to a
station that left operation is not accounted. A station so lost takes its in-service door to FAULT, but for a door in LOCKED_OUT and one
with first report pending: its open time is settled to the last report time, the deadlines and the pending request end, DOOR_FAULT is
raised. Its evaporator goes to FAULT with cause STATION by the sub-state it held: a demand is dropped, a member in GATHER leaves its batch,
a member waiting to heat or heating takes outcome LOST with DEFROST_ABORTED. A settle-from later than the last report time settles 0 s
(notes/assumptions/27.md); bytes after a whole report are a failed check (notes/assumptions/9.md). -/
def Obligations.MissedPollIsAccountedOnce : Prop :=
  ∀ (s : State) (f : InFlight) (bytes : List Byte), s.part.running = true → s.part.loop.inFlight = some f → reportBad bytes = true →
    ∀ c, c = Instr.reportWindowExpiry ∨ c = Instr.badReport bytes →
      let k := s.part.loop.stations.get f.addr
      let n := min (k.miss + 1) 255
      ∃ t, exec c s = .next t ∧ t.pending = s.pending ∧ t.part.out = [] ∧ t.part.loop.inFlight = none
        ∧ t.part.loop.round = s.part.loop.round ∧ othersKept s.part.loop.stations t.part.loop.stations f.addr
        ∧ (f.discard = true → t.part.loop.stations.get f.addr = k ∧ Within [.loop] (cleared s) t.part)
        ∧ (f.discard = false →
            t.part.loop.stations.get f.addr
              = { k with
                  good := 0, miss := n, link := if n = 3 then .offline else k.link
                  sectionTaken := if k.link = .online ∧ n = 3 then none else k.sectionTaken }
            ∧ (n = 3 → roomFor .stationOffline (.station f.addr) s.part → raisedNow .stationOffline (.station f.addr) t.part)
            ∧ (n ≠ 3 ∨ k.link = .offline → Within [.loop, .alarms, .ports] (cleared s) t.part)
            ∧ (n ≠ 3 → Within [.loop] (cleared s) t.part))
        ∧ (∀ last, k.lastReport = some last → f.discard = false → k.link = .online → n = 3 →
            let room := s.part.alarms.records.length < 94
            (∀ d, dockAt s.part f.addr = some d → evapAt s.part f.addr = none →
              let x := s.part.docks.get d
              let y := { x with settleFrom := none, carry := carryAfter x.settleFrom last (s.part.cfg.docks.get d).weight x.carry }
              (x.state = .lockedOut → t.part.docks.get d = y)
              ∧ (x.state ≠ .lockedOut → x.firstPending = true → t.part.docks.get d = { y with consistent := 0 })
              ∧ (x.state ≠ .lockedOut → x.firstPending = false →
                  t.part.docks.get d
                      = { y with
                          state := .fault, sealDl := none, travelDl := none, openDl := none, captureStart := none, extensions := 0
                          consistent := 0, pending := none, refusal := if x.state = .fault then x.refusal else false
                          revision := if x.state = .fault ∧ x.pending = none then x.revision else (x.revision + 1) % 65536 }
                    ∧ (room → raisedNow .doorFault (.door (.dock d)) t.part)))
            ∧ (∀ q, portalAt s.part f.addr = some q → evapAt s.part f.addr = none →
              let x := s.part.portals.get q
              let y := { x with settleFrom := none, carry := carryAfter x.settleFrom last (s.part.cfg.portals.get q).weight x.carry }
              (x.state = .lockedOut → t.part.portals.get q = y)
              ∧ (x.state ≠ .lockedOut → x.firstPending = true → t.part.portals.get q = { y with consistent := 0 })
              ∧ (x.state ≠ .lockedOut → x.firstPending = false →
                  t.part.portals.get q
                      = { y with
                          state := .fault, openCommand := false, grantDl := none, travelDl := none, consistent := 0, pending := none
                          revision := if x.state = .fault ∧ x.pending = none then x.revision else (x.revision + 1) % 65536 }
                    ∧ (room → raisedNow .doorFault (.door (.portal q)) t.part)))
            ∧ (∀ e, evapAt s.part f.addr = some e → dockAt s.part f.addr = none → portalAt s.part f.addr = none →
              (s.part.cfg.evaps.get e).lockout = false →
              let x := s.part.evaps.get e
              let y := t.part.evaps.get e
              let waits := ∃ z b, batchOf s.part e = some (z, b) ∧ b.phase = .forceWait
              let aborts := x.sub = .pumpdown ∨ x.sub = .waitSlot ∨ x.sub = .heating ∨ (x.sub = .gather ∧ waits)
              y.sub = .fault ∧ y.noCurrent = 0 ∧ y.stuck = 0
                ∧ y.faultCause = (if x.sub = .fault then x.faultCause else some .station)
                ∧ (x.sub = .idle ∨ x.sub = .heatDone ∨ x.sub = .drip →
                    y = { x with sub := .fault, faultCause := some .station, noCurrent := 0, stuck := 0 }
                      ∧ t.part.batches = s.part.batches)
                ∧ (x.sub = .demand ∨ x.sub = .gather → y.demandTime = none ∧ y.overdueDl = none
                    ∧ (alarmsUnique s.part → conditionOver .defrostOverdue (.evap e) t.part))
                ∧ (x.sub = .gather → ¬ waits → membersOwn s.part →
                    ∀ z b, t.part.batches.get z = some b → ∀ m ∈ b.members, m.evap ≠ e)
                ∧ (x.sub = .heating → y.heatStart = none ∧ y.heatDl = none)
                ∧ (aborts → room → raisedNow .defrostAborted (.evap e) t.part)
                ∧ (∀ z b, aborts → batchOf s.part e = some (z, b) → membersOwn s.part →
                    (∃ m ∈ b.members, m.evap ≠ e ∧ m.outcome ≠ some .lost) →
                    (∃ b', t.part.batches.get z = some b' ∧ ∃ m ∈ b'.members, m.evap = e ∧ m.outcome = some .lost)
                      ∧ y.heatUsed = (if x.sub = .heating then x.heatUsed + (last - x.heatStart.getD last) else x.heatUsed))))

/-- R20, R21, R29: a report of the polled address and kind whose body reads is accounted as good: the second good report of an OFFLINE
station takes it ONLINE; a non-empty section of an ONLINE station is taken. A station that stays OFFLINE gives no event. A report of
another kind or address is a miss. That a section whose passes all carry identifier 0 is not empty is the model's reading
(notes/assumptions/15.md). The events a report gives are the statements that follow. -/
def Obligations.GoodReportIsAccountedOnce : Prop :=
  ∀ (s : State) (a : StationId) (i : Image) (body : List Byte), s.part.running = true → s.part.loop.inFlight = some ⟨a, i, false⟩ →
    let k := s.part.loop.stations.get a
    let kind := (s.part.cfg.stations.get a).kind
    let up := k.link = .online ∨ 2 ≤ min (k.good + 1) 255
    let good (sec : Option EventSection) (c : Instr) : Prop :=
      ∃ t, exec c s = .next t ∧ t.pending = s.pending ∧ t.part.out = [] ∧ t.part.loop.inFlight = none
        ∧ othersKept s.part.loop.stations t.part.loop.stations a
        ∧ (t.part.loop.stations.get a).miss = 0 ∧ (t.part.loop.stations.get a).good = min (k.good + 1) 255
        ∧ (t.part.loop.stations.get a).lastReport = some s.part.time
        ∧ (up → (t.part.loop.stations.get a).link = .online) ∧ (¬ up → (t.part.loop.stations.get a).link = k.link)
        ∧ (t.part.loop.stations.get a).sectionTaken
            = (match sec with
               | some e => if (t.part.loop.stations.get a).link = .online ∧ e.nonEmpty then some e.number else k.sectionTaken
               | none => k.sectionTaken)
        ∧ (¬ up → Within [.loop] (cleared s) t.part)
    (∀ x, kind = .dock → readDockReport body = some x → good (some x.events) (.dockReport a body))
      ∧ (∀ x, kind = .portal → readPortalReport body = some x → good (some x.events) (.portalReport a body))
      ∧ (∀ x, kind = .evap → readEvapReport body = some x → good none (.evapReport a body))
      ∧ (∀ x, kind = .probe → readProbeReport body = some x → good none (.probeReport a body))
      ∧ (∀ b, (b ≠ a ∨ kind ≠ .dock ∨ readDockReport body = none) → exec (.dockReport b body) s = exec .reportWindowExpiry s)
      ∧ (∀ b, (b ≠ a ∨ kind ≠ .portal ∨ readPortalReport body = none) → exec (.portalReport b body) s = exec .reportWindowExpiry s)
      ∧ (∀ b, (b ≠ a ∨ kind ≠ .evap ∨ readEvapReport body = none) → exec (.evapReport b body) s = exec .reportWindowExpiry s)
      ∧ (∀ b, (b ≠ a ∨ kind ≠ .probe ∨ readProbeReport body = none) → exec (.probeReport b body) s = exec .reportWindowExpiry s)

/-- R30, R61, R62, R65 to R68, R70, R74, R87: the events of a DOCK report. A good report of an ONLINE station gives its in-service door the
door report, then, unless the door is then in FAULT or LOCKED_OUT, its passes in order and the open button; with no such door only the
section is taken. A door report is stored and moves the door by the first row of R62 that applies; in FAULT it counts toward recovery and
the door takes its state by the table of R61, at once with first report pending; in LOCKED_OUT it is only stored. A door with first report
pending whose stored lockout is set enters LOCKED_OUT at that report, which is the model's reading (notes/assumptions/12.md). Open time
begins and is settled with a report, and the drain and closing checks follow. `heard` is what R53 asks for; whether the report that a state
is taken from counts is a free value (notes/assumptions/26.md). That a trailer end moves the revision a second time is R70's. -/
def Obligations.DockReportMovesTheDoor : Prop :=
  (∀ (s : State) (a : StationId) (i : Image) (body : List Byte) (x : DockReport), reportTaken a .dock i s → readDockReport body = some x →
    let r := takeSection a x.events (accounted a s)
    ∃ t, exec (.dockReport a body) s = .next t ∧ t.pending = s.pending ∧ (dockAt r a = none → t.part = r)
      ∧ ∀ d, dockAt r a = some d →
          let y := { x with temp := x.temp.map fun v => max (-500) (min 500 v) }
          let u := handOn 0 (accrueDock d (x.position != .closed) (dockReportState d y r))
          let passed := (x.events.passes.filter (·.id != 0)).foldl (fun s e => processPass (.dock d) e s) u
          let deaf := (u.docks.get d).state = .fault ∨ (u.docks.get d).state = .lockedOut
          (deaf → t.part = u) ∧ (¬ deaf → t.part = if x.events.flag then buttonEvent d passed else passed))
  ∧ (∀ (s : Part) (d : DoorId) (x : DockReport),
    let k := s.docks.get d
    let t := dockReportState d x s
    let last := some ⟨x.presence, x.position, x.sealState, x.temp, s.time⟩
    let stored := { k with last := last, heard := true }
    let shut := x.position = .closed
    let wasProven := (k.last.any fun l => l.sealState == .proven) = true
    let slots := if (s.slots.get d).state = .empty then 0 else 1
    let left (st : DockState) (n : Nat) : Dock :=
      { stored with
        state := st, refusal := false, sealDl := none, travelDl := none, openDl := none, captureStart := none
        revision := (k.revision + n) % 65536 }
    let vacant (y : Dock) : Dock :=
      { y with
        claim := if k.claim = .plantHold then .plantHold else .none, trailer := none, returnMark := false, pending := none
        refusal := false, sealOut := .deflate }
    let becomes (y : Dock) : Prop := t.docks.get d = y
    let gone : Prop := t.slots.get d = emptySlot ∨ (s.slots.get d).state = .empty
    let emptied : Prop := ∀ p ∈ t.pallets, p.loc ≠ .trailer d
    let quiet : Prop := Within [.docks, .alarms, .ports] s t
    let faults : Prop :=
      (k.firstPending = false → becomes { left .fault 1 with extensions := 0, consistent := 0, pending := none }
          ∧ (roomFor .doorFault (.door (.dock d)) s → raisedNow .doorFault (.door (.dock d)) t))
        ∧ (k.firstPending = true → becomes { stored with consistent := 0 })
    let taken (st : DockState) : Dock := { left st 1 with firstPending := false, consistent := 0, heard := Config.stateReportCounts }
    let takes : Prop :=
      match x.presence, x.position with
      | false, .closed =>
        becomes (vacant { taken .vacant with revision := (k.revision + (1 + slots)) % 65536 }) ∧ gone ∧ emptied
      | true, .closed => becomes { taken .arrived with sealOut := .deflate } ∧ quiet
      | true, _ =>
        becomes { taken .closing with
          travelDl := some (addTime s.time 30), sealOut := if x.sealState = .proven then .inflate else .deflate } ∧ quiet
      | false, _ =>
        becomes { taken .fault with refusal := k.refusal } ∧ quiet
          ∧ (roomFor .doorFault (.door (.dock d)) s → raisedNow .doorFault (.door (.dock d)) t)
    let count :=
      if x.presence = false ∧ ¬ shut then 0
      else if (k.last.any fun l => l.presence == x.presence && l.position == x.position && l.sealState == x.sealState) = true then
        min (k.consistent + 1) 2
      else 1
    othersKept s.docks t.docks d
    ∧ (k.state = .lockedOut → becomes stored ∧ Within [.docks] s t)
    ∧ (k.state = .fault → k.firstPending = true → (s.cfg.docks.get d).lockout = false → takes)
    ∧ (k.state = .fault → k.firstPending = true → (s.cfg.docks.get d).lockout = true →
        becomes { left .lockedOut 1 with extensions := 0, firstPending := false, sealOut := .deflate, pending := none } ∧ quiet
          ∧ (alarmsUnique s → conditionOver .doorFault (.door (.dock d)) t))
    ∧ (k.state = .fault → k.firstPending = false → count = 2 →
        takes ∧ (alarmsUnique s → conditionOver .doorFault (.door (.dock d)) t))
    ∧ (k.state = .fault → k.firstPending = false → count ≠ 2 → becomes { stored with consistent := count } ∧ Within [.docks] s t)
    ∧ (k.state ≠ .fault → k.state ≠ .lockedOut →
        if x.presence = false ∧ ¬ shut then faults ∧ quiet
        else if x.presence = false ∧ k.state ≠ .vacant then
          becomes (vacant (left .vacant (1 + slots))) ∧ gone ∧ emptied
        else if ¬ shut ∧ k.state ∈ [.vacant, .arrived, .inflating, .sealed, .releasing, .sealFault] then faults ∧ quiet
        else if x.sealState ≠ .proven ∧ wasProven ∧ k.state ∈ [.sealed, .opening, .open, .closing] then
          becomes { left .breach 1 with
            travelDl := some (addTime s.time 30), extensions := 0, sealOut := .deflate, pending := none } ∧ quiet
            ∧ (roomFor .sealBreach (.door (.dock d)) s → raisedNow .sealBreach (.door (.dock d)) t)
        else if x.presence = true ∧ k.state = .vacant then becomes { left .arrived 1 with sealOut := .deflate } ∧ Within [.docks] s t
        else if x.sealState = .proven ∧ k.state = .inflating then
          let took := s.time - k.captureStart.getD s.time
          let limit := (s.cfg.docks.get d).sealLimit
          becomes { left .sealed 1 with capture := some took, sealOut := .inflate }
            ∧ placed s t (if limit * 3 ≤ took * 4 then [.sealSlow d took limit] else []) [] ∧ Within [.docks, .ports] s t
        else if x.sealState = .released ∧ k.state = .releasing then
          becomes { left .arrived 1 with sealOut := .deflate } ∧ Within [.docks] s t
        else if x.position = .opened ∧ k.state = .opening then
          let limit := (s.cfg.handling.get d).openLimit
          becomes { left .open 1 with openDl := if limit = 0 then none else some (addTime s.time limit), extensions := 0 }
            ∧ Within [.docks] s t
        else if shut ∧ (k.state = .open ∨ k.state = .closing) then
          (x.sealState = .proven → becomes { left .sealed 1 with sealOut := .inflate })
            ∧ (x.sealState ≠ .proven → becomes { left .arrived 1 with sealOut := .deflate }) ∧ Within [.docks] s t
        else if shut ∧ x.sealState = .released ∧ k.state = .breach then
          becomes { left .sealFault 1 with sealOut := .deflate } ∧ Within [.docks] s t
        else becomes stored ∧ Within [.docks] s t))
  ∧ (∀ (s : Part) (d : DoorId) (isOpen : Bool),
    let k := s.docks.get d
    let t := accrueDock d isOpen s
    (isOpen = true → k.settleFrom = none → t = modDock d (fun k => { k with settleFrom := some s.time }) s)
      ∧ (isOpen = false → k.settleFrom.isSome = true →
          t.docks.get d
            = { k with settleFrom := none, carry := carryAfter k.settleFrom s.time (s.cfg.docks.get d).weight k.carry })
      ∧ (isOpen = k.settleFrom.isSome → t = s))
  ∧ (∀ (s : Part) (z : ZoneId),
    drainDue (handOn z s) z = false ∧ (drainDue s z = true → ((handOn z s).zones.get z).mode = .pulldown)
      ∧ ∀ b, s.batches.get z = some b → b.phase = .forceWait → zoneDoorsClosed s z = true →
          ∃ b', (handOn z s).batches.get z = some b' ∧ b'.phase = .pumpdown)
  ∧ (∀ (s : Part) (d : DoorId),
    let k := s.docks.get d
    let t := buttonEvent d s
    let asks := (k.claim = .inbound ∨ k.claim = .outbound) ∧ k.pending = none
    (¬ asks → t = s)
      ∧ (asks → ∀ st, dockVerdict s d = .refused st → t = modDock d (fun k => { k with refusal := true }) s)
      ∧ (asks → dockVerdict s d = .deferred →
          t.docks.get d = { k with pending := some ⟨.button, s.time⟩, revision := (k.revision + 1) % 65536 } ∧ Within [.docks] s t)
      ∧ (asks → ∀ b, dockVerdict s d = .granted b →
          t.docks.get d
            = { k with
                state := .opening, travelDl := some (addTime s.time 30), sealDl := none, openDl := none, captureStart := none
                refusal := false, pending := none, revision := (k.revision + 1) % 65536 }))

/-- R31, R68, R82, R83, R87: the events of a PORTAL report. A good report of an ONLINE station gives its in-service portal the door report,
then, unless the portal is then in FAULT or LOCKED_OUT, its passes in order and the approach. A door report is stored and moves the portal
as R82 says; in FAULT it counts toward recovery, and the portal takes its state by the table of R82. With first report pending and its
stored lockout set the portal enters LOCKED_OUT, which is the model's reading (notes/assumptions/12.md). An approach restarts a grant, is
absorbed or refused, or asks for a grant by its checks in order. Whether the report that a state is taken from counts for R53 is a free
value (notes/assumptions/26.md). -/
def Obligations.PortalReportMovesThePortal : Prop :=
  (∀ (s : State) (a : StationId) (i : Image) (body : List Byte) (x : PortalReport), reportTaken a .portal i s →
    readPortalReport body = some x →
    let r := takeSection a x.events (accounted a s)
    ∃ t, exec (.portalReport a body) s = .next t ∧ t.pending = s.pending ∧ (portalAt r a = none → t.part = r)
      ∧ ∀ q, portalAt r a = some q →
          let isOpen := x.position != .closed
          let u := handOn (portalZone r q) (accruePortal q isOpen (portalReportState q x.position r))
          let passed := (x.events.passes.filter (·.id != 0)).foldl (fun s e => processPass (.portal q) e s) u
          let deaf := (u.portals.get q).state = .fault ∨ (u.portals.get q).state = .lockedOut
          (deaf → t.part = u) ∧ (¬ deaf → t.part = if x.events.flag then approach q passed else passed))
  ∧ (∀ (s : Part) (q : PortalId) (pos : Position),
    let k := s.portals.get q
    let t := portalReportState q pos s
    let zone := portalZone s q
    let stored := { k with last := some ⟨pos, s.time⟩, heard := true }
    let moved (y : Portal) : Portal := { y with revision := (k.revision + 1) % 65536 }
    let becomes (y : Portal) : Prop := t.portals.get q = y
    let blocked := (s.zones.get zone).mode = .pulldown ∨ forcedPastWait s zone = true
    let taken (st : PortalState) (open_ : Bool) (dl : Option Nat) : Portal :=
      moved { stored with
        state := st, openCommand := open_, travelDl := dl, grantDl := none, firstPending := false, consistent := 0
        heard := Config.stateReportCounts }
    let takes : Prop :=
      if blocked then becomes (taken .blocked false (if pos = .closed then none else some (addTime s.time 30)))
      else if (s.zones.get zone).mode = .bulk ∧ k.claim = .none then becomes (taken .held true none)
      else if pos = .closed then becomes (taken .closed false none)
      else becomes (taken .open false (some (addTime s.time 30)))
    let count := if (k.last.any fun l => l.position == pos) = true then min (k.consistent + 1) 2 else 1
    othersKept s.portals t.portals q
    ∧ (k.state = .lockedOut → becomes stored ∧ Within [.portals] s t)
    ∧ (k.state = .fault → k.firstPending = true → (s.cfg.portals.get q).lockout = false → takes ∧ Within [.portals] s t)
    ∧ (k.state = .fault → k.firstPending = true → (s.cfg.portals.get q).lockout = true →
        becomes (moved { stored with
            state := .lockedOut, openCommand := false, grantDl := none, travelDl := none, firstPending := false, pending := none })
          ∧ Within [.portals, .alarms, .ports] s t ∧ (alarmsUnique s → conditionOver .doorFault (.door (.portal q)) t))
    ∧ (k.state = .fault → k.firstPending = false → count = 2 →
        takes ∧ Within [.portals, .alarms, .ports] s t ∧ (alarmsUnique s → conditionOver .doorFault (.door (.portal q)) t))
    ∧ (k.state = .fault → k.firstPending = false → count ≠ 2 → becomes { stored with consistent := count } ∧ Within [.portals] s t)
    ∧ (k.state ≠ .fault → k.state ≠ .lockedOut →
        Within [.portals] s t
          ∧ if k.state = .granted ∧ pos = .opened then becomes (moved { stored with state := .open, travelDl := none })
            else if k.state = .open ∧ pos = .closed then
              becomes (moved { stored with state := .closed, openCommand := false, grantDl := none, travelDl := none })
            else if k.state = .closed ∨ k.state = .deferred ∨ k.state = .blocked then
              becomes { stored with
                travelDl := if pos = .closed then none else some (k.travelDl.getD (addTime s.time 30)) }
            else becomes stored))
  ∧ (∀ (s : Part) (q : PortalId) (isOpen : Bool),
    let k := s.portals.get q
    let t := accruePortal q isOpen s
    (isOpen = true → k.settleFrom = none → t = modPortal q (fun k => { k with settleFrom := some s.time }) s)
      ∧ (isOpen = false → k.settleFrom.isSome = true →
          t.portals.get q
            = { k with settleFrom := none, carry := carryAfter k.settleFrom s.time (s.cfg.portals.get q).weight k.carry })
      ∧ (isOpen = k.settleFrom.isSome → t = s))
  ∧ (∀ (s : Part) (q : PortalId),
    let k := s.portals.get q
    let t := approach q s
    let zone := portalZone s q
    let dl := some (addTime s.time (s.cfg.portals.get q).grantTime)
    let grants := k.state = .granted ∨ (k.state = .open ∧ k.openCommand = true)
    let asks := k.state = .closed ∨ (k.state = .open ∧ k.openCommand = false)
    let passes := k.claim = .none ∧ (s.zones.get zone).mode ≠ .pulldown
    let shut := reportsClosed k = true
    (grants → t = modPortal q (fun k => { k with grantDl := dl }) s)
      ∧ (¬ grants → ¬ asks → t = s)
      ∧ (asks → ¬ passes ∨ defrostAnswer s zone = .refused → t = s)
      ∧ (asks → passes → defrostAnswer s zone = .deferred →
          t.portals.get q
              = { k with state := .deferred, pending := some ⟨.approach, s.time⟩, revision := (k.revision + 1) % 65536 }
            ∧ othersKept s.portals t.portals q ∧ Within [.portals] s t)
      ∧ (asks → passes → defrostAnswer s zone = .proceed →
          t.portals.get q
              = { k with
                  state := if shut then .granted else .open, openCommand := true, grantDl := dl, pending := none
                  travelDl := if shut then some (addTime s.time 30) else none
                  revision := if k.state = .open ∧ ¬ shut ∧ k.pending = none then k.revision else (k.revision + 1) % 65536 }
            ∧ othersKept s.portals t.portals q ∧ Within [.portals] s t)
      ∧ (asks → passes → defrostAnswer s zone = .proceedSuspended → membersOwn s →
          suspendedNow zone s t ∧ (t.portals.get q).state = (if shut then .granted else .open)
            ∧ (t.portals.get q).openCommand = true ∧ (t.portals.get q).grantDl = dl ∧ (t.portals.get q).pending = none
            ∧ (t.portals.get q).travelDl = if shut then some (addTime s.time 30) else none))

/-- R122 to R125, R79, R83: a pass. With no record of its identifier only UNKNOWN_PALLET and the hand-on follow. Otherwise the record, first
updated where it stood, takes the location of the door and direction, with LOCATION_JUMP where it stood elsewhere than expected; a move
that reaches its destination ends with MOVE_DONE, another goes on, with PASS_OFF_PATH where its path does not use the door; a pass without
a move is PASS_UNPLANNED; hall entry time, dwell mark and credits follow the change of location. The door's open or grant deadline
restarts, and no drain check is left undone. -/
def Obligations.PassesMoveThePallet : Prop :=
  ∀ (s : Part) (door : DoorRef) (x : Pass), palletsUnique s →
    let t := processPass door x s
    let v := updatePallet x.id s
    let places : Loc × Loc :=
      match door, x.dir with
      | .dock d, .inward => (.trailer d, .hall)
      | .dock d, .outward => (.hall, .trailer d)
      | .portal q, .inward => (.hall, .zone (portalZone s q))
      | .portal q, .outward => (.zone (portalZone s q), .hall)
    let new := places.2
    (findPallet s x.id = none → t.pallets = s.pallets ∧ t.credits = s.credits ∧ warehouseTold (.unknownPallet x.id x.dir door) t)
    ∧ (∀ p, findPallet v x.id = some p →
        let arrives := ∃ m, p.move = some m ∧ new = destOf m.dest
        let reserved := ∃ m, p.move = some m ∧ m.reserved = true
        let enters := new = .hall ∧ p.loc ≠ .hall
        let leaves := p.loc = .hall ∧ new ≠ .hall
        let kept := if p.loc = new then p else { p with hallEntry := none, dwellRaised := false }
        let y : Pallet :=
          { (if enters then { p with hallEntry := some s.time, dwellRaised := false } else if leaves then kept else p) with
            loc := new
            status := if p.move = none ∨ arrives then restingStatus v new else p.status
            move := if arrives then none else p.move.map fun m => if enters then { m with reserved := false } else m }
        t.pallets = v.pallets.map (fun w => if w.id = x.id then y else w)
          ∧ t.credits
              = v.credits - (if arrives ∧ reserved then 1 else 0) + (if enters ∧ (arrives ∨ ¬ reserved) then 1 else 0)
                - (if leaves then 1 else 0)
          ∧ (p.loc ≠ places.1 → warehouseTold (.locationJump x.id door x.dir p.loc new) t)
          ∧ (p.move = none → warehouseTold (.passUnplanned x.id door x.dir new) t)
          ∧ (∀ m, p.move = some m →
              (new = destOf m.dest → warehouseTold (.moveDone ⟨x.id, m.origin, m.dest, m.granted, new⟩) t)
              ∧ (new ≠ destOf m.dest → moveUses s m door = false → warehouseTold (.passOffPath x.id door x.dir new m.dest) t)))
    ∧ (∀ d, door = .dock d →
        let k := s.docks.get d
        let limit := (s.cfg.handling.get d).openLimit
        t.docks.get d
            = (if k.state = .open then
                { k with openDl := if limit = 0 then none else some (addTime s.time limit), extensions := 0 }
              else k)
          ∧ othersKept s.docks t.docks d)
    ∧ (∀ q, door = .portal q → (s.cfg.portals.get q).zone ≠ some 0 →
        let k := s.portals.get q
        (k.state = .granted ∨ (k.state = .open ∧ k.openCommand = true) →
            t.portals.get q = { k with grantDl := some (addTime s.time (s.cfg.portals.get q).grantTime) })
          ∧ drainDue t (portalZone s q) = false)
    ∧ drainDue t 0 = false

/-- R32, R149, R162, R164, R170, R171, R151: the event of an EVAP report, and the restore that precedes it. The report is stored in every
sub-state; the counts of the heater checks move against the heater field of the poll it answers, HEATER_STUCK at the second report with
current, HEATER_FAULT with outcome LOST at the second without; a coil at the termination temperature ends the heat of a member in HEATING
with outcome TEMP, and the last outcome takes the batch to DRIP; a coil at the fan start temperature starts the fan of a member in
REFREEZE, and the last fan ends the batch. A station restored ends a FAULT of cause STATION outside a batch, with a demand where one is due
and else the backstop deadline from the last defrost end. -/
def Obligations.EvapReportActsOnTheHeat : Prop :=
  (∀ (s : State) (a : StationId) (i : Image) (body : List Byte) (x : EvapReport), reportTaken a .evap i s → readEvapReport body = some x →
    let r := accounted a s
    ∃ t, exec (.evapReport a body) s = .next t ∧ t.pending = s.pending ∧ (evapAt r a = none → t.part = r)
      ∧ ∀ e, evapAt r a = some e →
          t.part = evapReportEvent e { x with coil := x.coil.map fun v => max (-500) (min 500 v) } i.heaterOn r)
  ∧ (∀ (s : Part) (e : EvapId) (x : EvapReport) (heaterOn : Bool),
    let k := s.evaps.get e
    let t := evapReportEvent e x heaterOn s
    let y := t.evaps.get e
    let dead := if x.current then 0 else if heaterOn then min (k.noCurrent + 1) 2 else k.noCurrent
    let stuck := if x.current then (if heaterOn then k.stuck else min (k.stuck + 1) 255) else 0
    let seen := { k with last := some x, noCurrent := dead, stuck := stuck }
    let fails := k.sub = .heating ∧ x.current = false ∧ heaterOn = true ∧ dead = 2
    let warm := ∃ v, x.coil = some v ∧ s.cfg.defrost.terminationTemp ≤ v
    let cold := ∃ v, x.coil = some v ∧ v ≤ s.cfg.defrost.fanStartTemp
    let ended (h : Nat) : Nat := k.heatUsed + (s.time - h)
    let only : Prop := y = seen ∧ othersKept s.evaps t.evaps e ∧ Within [.evaps, .alarms, .ports] s t
    y.last = some x ∧ y.stuck = stuck
    ∧ (x.current = true → heaterOn = false → k.stuck = 1 → roomFor .heaterStuck (.evap e) s → raisedNow .heaterStuck (.evap e) t)
    ∧ (k.sub ≠ .heating → k.sub ≠ .refreeze → only)
    ∧ (k.sub = .heating → ¬ fails → ¬ warm → only)
    ∧ (k.sub = .refreeze → ¬ cold → only)
    ∧ (fails → y.sub = .fault ∧ y.faultCause = some .heater ∧ y.heatStart = none ∧ y.heatDl = none
        ∧ (roomFor .heaterFault (.evap e) s → raisedNow .heaterFault (.evap e) t)
        ∧ ∀ z b, batchOf s e = some (z, b) → membersOwn s → (∃ m ∈ b.members, m.evap ≠ e ∧ m.outcome ≠ some .lost) →
            (∃ b', t.batches.get z = some b' ∧ ∃ m ∈ b'.members, m.evap = e ∧ m.outcome = some .lost)
              ∧ ∀ h, k.heatStart = some h → y.heatUsed = ended h)
    ∧ (k.sub = .heating → ¬ fails → warm → y.heatStart = none ∧ y.heatDl = none ∧ y.noCurrent = 0
        ∧ ∀ z b, batchOf s e = some (z, b) → membersOwn s →
            (y.sub = .heatDone ∨ y.sub = .drip) ∧ (∀ h, k.heatStart = some h → y.heatUsed = ended h)
              ∧ ∃ b', t.batches.get z = some b' ∧ (∃ m ∈ b'.members, m.evap = e ∧ m.outcome = some .temp)
                  ∧ (b.phase = .heat → (∀ m ∈ b.members, m.evap ≠ e → m.outcome ≠ none) →
                      y.sub = .drip ∧ b'.phase = .drip ∧ b'.deadline = some (addTime s.time s.cfg.defrost.dripTime)
                        ∧ b'.suspended = false))
    ∧ (k.sub = .refreeze → cold → ∀ z b, batchOf s e = some (z, b) → b.phase = .refreeze → membersOwn s →
        let last := ∀ m ∈ b.members, m.evap ≠ e → m.fanStarted = true ∨ (s.evaps.get m.evap).sub = .fault
        (¬ last → y = seen ∧ t.batches.get z
            = some { b with members := b.members.map fun m => if m.evap = e then { m with fanStarted := true } else m })
          ∧ (last → y.sub = .idle ∧ y.lastEnd = s.time ∧ y.heatUsed = 0
              ∧ y.backstopDl = some (addTime s.time ((s.cfg.evaps.get e).backstopHours * 3600))
              ∧ (∀ m ∈ b.members, m.evap = e → m.outcome = some .temp → y.frost = 0)
              ∧ ∀ b', t.batches.get z = some b' → b'.kind = .normal ∧ b'.phase = .gather ∧ b'.opened = s.time)))
  ∧ (∀ (s : State) (a : StationId) (e : EvapId), (s.part.loop.stations.get a).link = .offline →
    1 ≤ (s.part.loop.stations.get a).good → evapAt s.part a = some e →
    let k := s.part.evaps.get e
    let c := s.part.cfg.evaps.get e
    let t := accounted a s
    let y := t.evaps.get e
    let returns := k.sub = .fault ∧ k.faultCause = some .station ∧ batchOf s.part e = none
    let due := c.trigger ≤ k.frost ∨ c.backstopHours * 3600 ≤ s.part.time - k.lastEnd
    (¬ returns → t.evaps = s.part.evaps ∧ t.batches = s.part.batches)
      ∧ (returns → due → y.faultCause = none ∧ y.demandTime = some s.part.time ∧ (y.sub = .demand ∨ y.sub = .gather)
          ∧ y.overdueDl = some (addTime s.part.time s.part.cfg.defrost.maxDeferral))
      ∧ (returns → ¬ due →
          y = { k with sub := .idle, faultCause := none, backstopDl := some (addTime k.lastEnd (c.backstopHours * 3600)) }
            ∧ othersKept s.part.evaps t.evaps e ∧ t.batches = s.part.batches))

/-! ### Zones -/

/-- R33, R38, R40, R41: a PROBE report gives each channel's in-service probe, in ascending channel, a temperature or a FAULT. A temperature is
stored with its fresh-until time and ends PROBE_FAULT; a FAULT clears the reading and raises it; a probe without a zone stores no reading.
Then, and at a freshness expiry, the probe's zone is recomputed: with a fresh reading left the zone temperature is the highest of them,
without one it keeps its value and the zone is STALE, with ZONE_STALE unless it was STALE before or holds off. An expiry keeps the reading.
The model's own mark that an expiry has not been taken is notes/assumptions/6.md; that PROBE_FAULT ends before the recompute shows in no
clause (notes/assumptions/17.md). -/
def Obligations.ProbeEventsAndExpiriesRecomputeTheZone : Prop :=
  let recomputed (z : ZoneId) (s t : Part) : Prop :=
    let k := s.zones.get z
    let u := t.zones.get z
    (∀ q x, freshReading t z q = some x → u.stale = false ∧ x ≤ u.temp ∧ ∃ q', freshReading t z q' = some u.temp)
      ∧ ((∀ q, freshReading t z q = none) → u.stale = true ∧ u.temp = k.temp
          ∧ (k.stale = false → k.holdOff = none → s.alarms.records.length < 95 → raisedNow .zoneStale (.zone z) t))
  (∀ (s : State) (a : StationId) (i : Image) (body : List Byte) (x : Vector ProbeEntry 4), reportTaken a .probe i s →
    readProbeReport body = some x →
    let reading (y : ProbeEntry) : Option Int := if y.flag = .ok then some (max (-500) (min 500 y.temp)) else none
    ∃ t, exec (.probeReport a body) s = .next t ∧ t.pending = s.pending
      ∧ t.part = (List.finRange 4).foldl (fun s ch =>
          match probeAt s a ch with
          | some p => probeEvent p (reading (x.get ch)) s
          | none => s) (accounted a s))
  ∧ (∀ (s : Part) (p : ProbeId) (r : Option Int),
    let zone := (s.cfg.probes.get p).zone
    let t := probeEvent p r s
    othersKept s.probes t.probes p
      ∧ (∀ v, r = some v → (alarmsUnique s → conditionOver .probeFault (.probe p) t)
          ∧ (zone = none → t.probes = s.probes)
          ∧ ∀ z, zone = some z →
              t.probes.get p = ⟨some v, some (addTime s.time (s.cfg.zones.get z).staleTime), true⟩)
      ∧ (r = none → t.probes.get p = ⟨none, none, false⟩
          ∧ (roomFor .probeFault (.probe p) s → notAcked .probeFault (.probe p) s → raisedNow .probeFault (.probe p) t))
      ∧ (zone = none → Within [.probes, .alarms, .ports] s t)
      ∧ ∀ z, zone = some z →
          (zoneInService s z = true → recomputed z s t) ∧ (zoneInService s z = false → Within [.probes, .alarms, .ports] s t))
  ∧ (∀ (s : State) (p : ProbeId) (z : ZoneId), s.part.running = true → (s.part.probes.get p).expiryDue = true →
    reached (s.part.probes.get p).freshUntil s.part.time = true → (s.part.cfg.probes.get p).zone = some z → zoneInService s.part z = true →
    ∃ t, exec (.freshnessExpiry p) s = .next t ∧ t.pending = s.pending ∧ t.part.out = []
      ∧ t.part.probes.get p = { s.part.probes.get p with expiryDue := false } ∧ othersKept s.part.probes t.part.probes p
      ∧ recomputed z s.part t.part)

/-- R42, R45, R46: the stale hold-off deadline reached becomes none, and a zone STALE at that moment raises ZONE_STALE. The warm deadline
reached raises ZONE_WARM and becomes none. The recovery deadline reached becomes none and the warm alarm is evaluated against the limit
that then applies: a STALE zone loses its warm deadline; a zone above the limit has one (or, with an alarm delay of 0, raises ZONE_WARM
at once); a zone at or below it has none. That an alarm delay of 0 leaves no deadline is the model's reading (notes/assumptions/18.md). -/
def Obligations.ZoneDeadlinesRaiseTheirAlarms : Prop :=
  ∀ (s : State) (z : ZoneId), s.part.running = true →
    let k := s.part.zones.get z
    let c := s.part.cfg.zones.get z
    let limit := c.setpoint + if pastGather s.part z then c.allowance else c.highOffset
    (reached k.holdOff s.part.time = true →
      ∃ t, exec (.staleHoldOffExpiry z) s = .next t ∧ t.pending = s.pending ∧ t.part.out = []
        ∧ t.part.zones.get z = { k with holdOff := none } ∧ othersKept s.part.zones t.part.zones z
        ∧ (k.stale = true → (roomFor .zoneStale (.zone z) s.part → raisedNow .zoneStale (.zone z) t.part)
            ∧ Within [.zones, .alarms, .ports] (cleared s) t.part)
        ∧ (k.stale = false → Within [.zones] (cleared s) t.part))
    ∧ (reached k.warmDl s.part.time = true →
      ∃ t, exec (.warmDeadlineExpiry z) s = .next t ∧ t.pending = s.pending ∧ t.part.out = []
        ∧ t.part.zones.get z = { k with warmDl := none } ∧ othersKept s.part.zones t.part.zones z
        ∧ (roomFor .zoneWarm (.zone z) s.part → raisedNow .zoneWarm (.zone z) t.part))
    ∧ (reached k.recoveryDl s.part.time = true →
      ∃ t, exec (.recoveryDeadlineExpiry z) s = .next t ∧ t.pending = s.pending ∧ t.part.out = []
        ∧ othersKept s.part.zones t.part.zones z
        ∧ (k.stale = true → t.part.zones.get z = { k with recoveryDl := none, warmDl := none } ∧ Within [.zones] (cleared s) t.part)
        ∧ (k.stale = false → k.temp ≤ limit → t.part.zones.get z = { k with recoveryDl := none, warmDl := none })
        ∧ (k.stale = false → limit < k.temp → ∀ w, k.warmDl = some w →
            t.part.zones.get z = { k with recoveryDl := none } ∧ Within [.zones] (cleared s) t.part)
        ∧ (k.stale = false → limit < k.temp → k.warmDl = none → c.alarmDelay ≠ 0 →
            t.part.zones.get z = { k with recoveryDl := none, warmDl := some (addTime s.part.time c.alarmDelay) }
              ∧ Within [.zones] (cleared s) t.part)
        ∧ (k.stale = false → limit < k.temp → k.warmDl = none → c.alarmDelay = 0 →
            t.part.zones.get z = { k with recoveryDl := none }
              ∧ (roomFor .zoneWarm (.zone z) s.part → raisedNow .zoneWarm (.zone z) t.part)))

/-- R47, R89, R134 to R136, R48, R150: the exposure interval of a zone, or of a dock door, restarts its deadline and updates every pallet it
covers: those located in the hall for Z0, in the zone otherwise, on the door's trailer for a door. The estimate, remainder and exposure of
each become those of R135 and R136 at the air temperature of its place; no pallet located elsewhere is updated. A zone's expiry also
settles the open time of its in-service doors up to now: their settle-from becomes now and the carry the remainder, and, shown here for one
open door, the units are divided among the counted evaporators from the rotation pointer on. A settle-from later than now settles 0 s
(notes/assumptions/27.md). -/
def Obligations.ExposureIntervalUpdatesItsPallets : Prop :=
  ∀ (s : State), s.part.running = true → palletsUnique s.part → (∀ x ∈ s.part.pallets, x.updated ≤ s.part.time) →
    let now := s.part.time
    let restart := some (addTime now s.part.cfg.staging.exposureInterval)
    let air (l : Loc) : Int :=
      match l with
      | .hall => (s.part.zones.get 0).temp
      | .zone z => (s.part.zones.get z).temp
      | .trailer d => (((s.part.docks.get d).last.map (·.temp)).getD none).getD (s.part.cfg.handling.get d).assumedTemp
    let updates (l : Loc) (t : State) : Prop :=
      t.part.pallets.map (fun x => (x.id, x.loc)) = s.part.pallets.map (fun x => (x.id, x.loc))
        ∧ (∀ x ∈ s.part.pallets, x.loc ≠ l → x ∈ t.part.pallets)
        ∧ (∀ x ∈ s.part.pallets, x.loc = l → x.updated = now → x ∈ t.part.pallets)
        ∧ (∀ x ∈ s.part.pallets, x.loc = l → x.updated ≠ now →
            let c := s.part.cfg.classes.get x.cls
            let n := estimateStep (air l) c.rate (now - x.updated) x.estimate x.remainder
            ∃ y ∈ t.part.pallets, y.id = x.id ∧ y.updated = now ∧ y.estimate = n.1 ∧ y.remainder = n.2
              ∧ y.exposure = exposureStep c.critical n.1 (now - x.updated) x.exposure)
    (∀ z, reached (s.part.zones.get z).exposureDl now = true →
      ∃ t, exec (.zoneExposureIntervalExpiry z) s = .next t ∧ t.pending = s.pending ∧ t.part.out = []
        ∧ (t.part.zones.get z).exposureDl = restart ∧ updates (if z = 0 then .hall else .zone z) t
        ∧ (∀ d, let k := s.part.docks.get d
            t.part.docks.get d
              = if z = 0 ∧ dockInService s.part d = true ∧ k.settleFrom.isSome = true then
                  { k with settleFrom := some now, carry := carryAfter k.settleFrom now (s.part.cfg.docks.get d).weight k.carry }
                else k)
        ∧ (∀ q, let k := s.part.portals.get q
            let due := z ≠ 0 ∧ portalOf s.part z q = true ∧ k.settleFrom.isSome = true
            (t.part.portals.get q).settleFrom = (if due then some now else k.settleFrom)
              ∧ (t.part.portals.get q).carry
                = if due then carryAfter k.settleFrom now (s.part.cfg.portals.get q).weight k.carry else k.carry)
        ∧ (∀ d, z = 0 → dockInService s.part d = true → ∀ from_, (s.part.docks.get d).settleFrom = some from_ → from_ ≤ now →
            (∀ d', d' ≠ d → dockInService s.part d' = true → (s.part.docks.get d').settleFrom = none) →
            let units := ((now - from_) * (s.part.cfg.docks.get d).weight + (s.part.docks.get d).carry) / 10
            0 < units → dividedIn 0 units s.part t.part)
        ∧ (∀ q, z ≠ 0 → portalOf s.part z q = true → ∀ from_, (s.part.portals.get q).settleFrom = some from_ → from_ ≤ now →
            (∀ q', q' ≠ q → portalOf s.part z q' = true → (s.part.portals.get q').settleFrom = none) →
            let units := ((now - from_) * (s.part.cfg.portals.get q).weight + (s.part.portals.get q).carry) / 10
            0 < units → dividedIn z units s.part t.part)
        ∧ ((∀ d, z = 0 → dockInService s.part d = true → (s.part.docks.get d).settleFrom = none) →
            (∀ q, z ≠ 0 → portalOf s.part z q = true → (s.part.portals.get q).settleFrom = none) →
            t.part.evaps = s.part.evaps ∧ t.part.batches = s.part.batches))
    ∧ (∀ d, reached (s.part.docks.get d).exposureDl now = true →
      ∃ t, exec (.doorExposureIntervalExpiry d) s = .next t ∧ t.pending = s.pending ∧ t.part.out = []
        ∧ t.part.docks.get d = { s.part.docks.get d with exposureDl := restart }
        ∧ othersKept s.part.docks t.part.docks d ∧ updates (.trailer d) t)

/-- R49, R50, R85, R166, R167, R169: ZONE BULK by the mode of the zone and, on an OPEN zone, by the answer to the defrost question, which
comes from the zone's batch as it stands; in a zone in BULK a batch that heats answers deferred, which R169 says of a zone left in BULK and
the model follows there over the table of R166 (notes/assumptions/28.md). At the entry to BULK every in-service portal of the zone without a
claim that is CLOSED, GRANTED, OPEN or DEFERRED becomes HELD; on proceed-suspended the batch has been suspended. -/
def Obligations.ZoneBulkFollowsTheAnswer : Prop :=
  (∀ (s : Part) (z : ZoneId) (b : Batch),
    (s.batches.get z = none → defrostAnswer s z = .proceed)
      ∧ (s.batches.get z = some b →
          (b.kind = .normal → b.phase ≠ .heat → defrostAnswer s z = .proceed)
          ∧ (b.kind = .forced → b.phase = .gather → defrostAnswer s z = .proceed)
          ∧ (b.kind = .forced → b.phase ≠ .gather → defrostAnswer s z = .refused)
          ∧ (b.kind = .normal → b.phase = .heat → b.suspended = true → b.withdrawn = false → defrostAnswer s z = .proceed)
          ∧ (b.kind = .normal → b.phase = .heat → b.suspended = true → b.withdrawn = true → defrostAnswer s z = .deferred)
          ∧ (b.kind = .normal → b.phase = .heat → b.suspended = false → (s.zones.get z).mode = .bulk → defrostAnswer s z = .deferred)
          ∧ (b.kind = .normal → b.phase = .heat → b.suspended = false → (s.zones.get z).mode ≠ .bulk →
              b.suspendCount < b.suspendLimit → defrostAnswer s z = .proceedSuspended)
          ∧ (b.kind = .normal → b.phase = .heat → b.suspended = false → b.suspendLimit ≤ b.suspendCount →
              defrostAnswer s z = .deferred)))
  ∧ ∀ (s : State) (tag : Byte) (body : List Byte) (z : ZoneId), takes .warehouse s → readZone body = some z →
    let r := renewed .warehouse s
    let m := (r.zones.get z).mode
    let dl := if r.cfg.staging.bulkTime = 0 then none else some (addTime s.part.time r.cfg.staging.bulkTime)
    let done (st : Status) (after : Mode) (dl : Option Nat) : Prop :=
      ∃ t, exec (.zoneBulk .warehouse tag body) s = .next t ∧ t.pending = s.pending ∧ answered .warehouse 7 tag st [] t
        ∧ (t.part.zones.get z).mode = after ∧ (t.part.zones.get z).bulkDl = dl
        ∧ Within (mayChange (.zoneBulk .warehouse tag body)) r t.part
    let refuses (st : Status) : Prop := readsOut (.zoneBulk .warehouse tag body) .warehouse 7 tag st [] s
    (zoneInService s.part z = false → refuses .unknownId)
      ∧ (zoneInService s.part z = true →
          (z = 0 → refuses .badRequest)
          ∧ (z ≠ 0 → m = .draining ∨ m = .pulldown → refuses .held)
          ∧ (z ≠ 0 → m = .bulk → done .ok .bulk dl)
          ∧ (z ≠ 0 → m = .bulkPending → refuses .deferred)
          ∧ (z ≠ 0 → m = .open → defrostAnswer r z = .proceed ∨ defrostAnswer r z = .proceedSuspended →
              ∃ t, exec (.zoneBulk .warehouse tag body) s = .next t ∧ t.pending = s.pending ∧ answered .warehouse 7 tag .ok [] t
                ∧ (t.part.zones.get z).mode = .bulk ∧ (t.part.zones.get z).bulkDl = dl
                ∧ Within (mayChange (.zoneBulk .warehouse tag body)) r t.part
                ∧ (defrostAnswer r z = .proceed ∨ membersOwn r → ∀ q, portalOf r z q = true →
                    let k := r.portals.get q
                    t.part.portals.get q
                      = if k.claim = .none ∧ k.state ∈ [.closed, .granted, .open, .deferred] then
                          { k with
                            state := .held, openCommand := true, grantDl := none, travelDl := none, pending := none
                            revision := (k.revision + 1) % 65536 }
                        else k)
                ∧ (defrostAnswer r z = .proceedSuspended → membersOwn r → suspendedNow z r t.part))
          ∧ (z ≠ 0 → m = .open → defrostAnswer r z = .deferred → done .deferred .bulkPending none)
          ∧ (z ≠ 0 → m = .open → defrostAnswer r z = .refused → refuses .zoneDefrost))

/-- R51: BULK ends in OPEN at its deadline and at ZONE BULK RELEASE, with no deadline left; the zone's portals have left HELD. -/
def Obligations.BulkEndsInOpen : Prop :=
  ∀ (s : State) (tag : Byte) (body : List Byte) (z : ZoneId),
    let opened (t : State) : Prop :=
      (t.part.zones.get z).mode = .open ∧ (t.part.zones.get z).bulkDl = none
        ∧ ∀ q, portalOf s.part z q = true → (t.part.portals.get q).state ≠ .held
    (takes .warehouse s → readZone body = some z →
      let r := renewed .warehouse s
      let m := (r.zones.get z).mode
      (zoneInService s.part z = false → readsOut (.zoneBulkRelease .warehouse tag body) .warehouse 8 tag .unknownId [] s)
      ∧ (zoneInService s.part z = true →
          (m = .open → readsOut (.zoneBulkRelease .warehouse tag body) .warehouse 8 tag .ok [] s)
          ∧ (z ≠ 0 → m = .draining ∨ m = .pulldown → readsOut (.zoneBulkRelease .warehouse tag body) .warehouse 8 tag .held [] s)
          ∧ (z = 0 → m = .draining ∨ m = .pulldown → readsOut (.zoneBulkRelease .warehouse tag body) .warehouse 8 tag .ok [] s)
          ∧ (m = .bulk ∨ m = .bulkPending →
              ∃ t, exec (.zoneBulkRelease .warehouse tag body) s = .next t ∧ t.pending = s.pending
                ∧ answered .warehouse 8 tag .ok [] t ∧ opened t)))
    ∧ (s.part.running = true → reached (s.part.zones.get z).bulkDl s.part.time = true →
        ∃ t, exec (.bulkDeadlineExpiry z) s = .next t ∧ t.pending = s.pending ∧ t.part.out = [] ∧ opened t)

/-- R52, R53, R54: ZONE PULLDOWN takes an OPEN, BULK or BULK_PENDING zone to DRAINING, or on to PULLDOWN where no move touches it and its
doors count as closed; the response carries the mode as it stands. ZONE RELEASE takes DRAINING and PULLDOWN to OPEN and is refused HELD
in BULK and BULK_PENDING. That the mode in the OK of ZONE PULLDOWN is one byte is the model's choice (notes/assumptions/4.md). -/
def Obligations.PulldownAndReleaseChangeTheMode : Prop :=
  ∀ (s : State) (tag : Byte) (body : List Byte) (z : ZoneId), takes .plant s → readZone body = some z →
    let r := renewed .plant s
    let m := (r.zones.get z).mode
    (zoneInService s.part z = false → readsOut (.zonePulldown .plant tag body) .plant 9 tag .unknownId [] s
      ∧ readsOut (.zoneRelease .plant tag body) .plant 10 tag .unknownId [] s)
    ∧ (zoneInService s.part z = true →
        (m = .draining ∨ m = .pulldown → readsOut (.zonePulldown .plant tag body) .plant 9 tag .ok (putU8 (Mode.code m)) s)
        ∧ (m = .open ∨ m = .bulk ∨ m = .bulkPending →
            ∃ t, exec (.zonePulldown .plant tag body) s = .next t ∧ t.pending = s.pending
              ∧ answered .plant 9 tag .ok (putU8 (Mode.code (t.part.zones.get z).mode)) t
              ∧ ((t.part.zones.get z).mode = .draining ∨ (t.part.zones.get z).mode = .pulldown)
              ∧ (t.part.zones.get z).bulkDl = none
              ∧ (anyMoveTouches s.part z = true → (t.part.zones.get z).mode = .draining)
              ∧ (m = .open → anyMoveTouches s.part z = false → zoneDoorsClosed r z = true →
                  (t.part.zones.get z).mode = .pulldown
                    ∧ ∀ q, portalOf s.part z q = true →
                        (t.part.portals.get q).state = .blocked ∨ (t.part.portals.get q).state = .fault
                          ∨ (t.part.portals.get q).state = .lockedOut))
        ∧ (m = .open → readsOut (.zoneRelease .plant tag body) .plant 10 tag .ok [] s)
        ∧ (m = .bulk ∨ m = .bulkPending → readsOut (.zoneRelease .plant tag body) .plant 10 tag .held [] s)
        ∧ (m = .draining ∨ m = .pulldown →
            ∃ t, exec (.zoneRelease .plant tag body) s = .next t ∧ t.pending = s.pending ∧ answered .plant 10 tag .ok [] t
              ∧ (t.part.zones.get z).mode = .open))

/-! ### Doors -/

/-- R71: CLAIM DOOR. A portal is refused BAD_REQUEST, another revision STALE with the current one, a door that is claimed HELD; otherwise the
door takes the direction and the trailer reference, its return mark is cleared, its revision moves once, and a second claim made on the
same revision is STALE. The claim may be taken in any state of the door. -/
def Obligations.ClaimDoorTakesAFreeDoor : Prop :=
  ∀ (s : State) (tag tag' : Byte) (body : List Byte) (x : ClaimReq), takes .warehouse s → readClaim body = some x →
    let r := renewed .warehouse s
    (∀ q, x.door = .portal q → portalInService s.part q = true →
        readsOut (.claimDoor .warehouse tag body) .warehouse 12 tag .badRequest [] s)
      ∧ (takes .plant s → readsOut (.claimDoor .plant tag body) .plant 12 tag .notPermitted [] s)
      ∧ (doorInService s.part x.door = false → readsOut (.claimDoor .warehouse tag body) .warehouse 12 tag .unknownId [] s)
      ∧ (∀ d, x.door = .dock d → dockInService s.part d = true →
          let k := r.docks.get d
          (k.revision ≠ x.revision →
              readsOut (.claimDoor .warehouse tag body) .warehouse 12 tag .stale (putU16 k.revision) s)
          ∧ (k.revision = x.revision → k.claim ≠ .none → readsOut (.claimDoor .warehouse tag body) .warehouse 12 tag .held [] s)
          ∧ (k.revision = x.revision → k.claim = .none →
              ∃ t, exec (.claimDoor .warehouse tag body) s = .next t ∧ t.pending = s.pending
                ∧ answered .warehouse 12 tag .ok (putU16 ((k.revision + 1) % 65536)) t
                ∧ t.part.docks.get d
                    = { k with
                        claim := x.direction, trailer := some x.trailer, returnMark := false, refusal := false
                        revision := (k.revision + 1) % 65536 }
                ∧ othersKept r.docks t.part.docks d ∧ Within [.docks] r t.part
                ∧ readsOut (.claimDoor .warehouse tag' body) .warehouse 12 tag' .stale (putU16 ((k.revision + 1) % 65536)) t))

/-- R72: UNCLAIM DOOR ends a claim of the warehouse: the claim, trailer reference and return mark go, a pending request ends, the manifest
slot returns to EMPTY. It is refused STALE on another revision, HELD under a plant hold and BUSY_STATE in the cases listed. -/
def Obligations.UnclaimDoorEndsTheClaim : Prop :=
  ∀ (s : State) (tag : Byte) (body : List Byte) (d : DoorId) (rev : Nat), takes .warehouse s → readDoorRev body = some (.dock d, rev) →
    dockInService s.part d = true →
    let r := renewed .warehouse s
    let k := r.docks.get d
    let busy := k.state = .opening ∨ k.state = .open ∨ k.state = .closing ∨ k.state = .breach ∨ (r.slots.get d).state = .loading
      ∨ (∃ x ∈ r.pallets, x.loc = .trailer d) ∨ (∃ x ∈ r.pallets, ∃ m, x.move = some m ∧ d ∈ pathDocks m.origin m.dest)
    (k.revision ≠ rev → readsOut (.unclaimDoor .warehouse tag body) .warehouse 13 tag .stale (putU16 k.revision) s)
      ∧ (k.revision = rev → k.claim = .none → readsOut (.unclaimDoor .warehouse tag body) .warehouse 13 tag .ok (putU16 rev) s)
      ∧ (k.revision = rev → k.claim = .plantHold → readsOut (.unclaimDoor .warehouse tag body) .warehouse 13 tag .held [] s)
      ∧ (k.revision = rev → k.claim = .inbound ∨ k.claim = .outbound → busy →
          readsOut (.unclaimDoor .warehouse tag body) .warehouse 13 tag .busyState [] s)
      ∧ (k.revision = rev → k.claim = .inbound ∨ k.claim = .outbound → ¬ busy →
          ∃ t, exec (.unclaimDoor .warehouse tag body) s = .next t ∧ t.pending = s.pending
            ∧ answered .warehouse 13 tag .ok (putU16 (t.part.docks.get d).revision) t
            ∧ t.part.docks.get d
                = { k with
                    claim := .none, trailer := none, returnMark := false, pending := none, refusal := false
                    revision := (t.part.docks.get d).revision }
            ∧ (t.part.docks.get d).revision ≠ k.revision
            ∧ t.part.slots.get d = (if (r.slots.get d).state = .empty then r.slots.get d else emptySlot)
            ∧ othersKept r.docks t.part.docks d ∧ othersKept r.slots t.part.slots d
            ∧ placed r t.part [] (match k.pending with
                | some x => [.doorRequestEnd (.dock d) x.origin x.time .cancelled]
                | none => [])
            ∧ Within [.docks, .slots, .ports] r t.part)

/-- R73: HOLD DOOR and UNHOLD DOOR at a dock door set and clear PLANT_HOLD and nothing else but the revision; a claim of the warehouse is
refused HELD; at a portal the hold also takes the open command away. That a DEFERRED portal becomes CLOSED is the model's reading
(notes/assumptions/16.md). -/
def Obligations.HoldAndUnholdSetThePlantHold : Prop :=
  ∀ (s : State) (tag : Byte) (body : List Byte) (x : DoorRef) (rev : Nat), takes .plant s → readDoorRev body = some (x, rev) →
    doorInService s.part x = true →
    let r := renewed .plant s
    let hold := Instr.holdDoor .plant tag body
    let unhold := Instr.unholdDoor .plant tag body
    (∀ d, x = .dock d →
      let k := r.docks.get d
      (k.revision ≠ rev → readsOut hold .plant 14 tag .stale (putU16 k.revision) s
        ∧ readsOut unhold .plant 15 tag .stale (putU16 k.revision) s)
      ∧ (k.revision = rev → k.claim = .inbound ∨ k.claim = .outbound → readsOut hold .plant 14 tag .held [] s
          ∧ readsOut unhold .plant 15 tag .held [] s)
      ∧ (k.revision = rev → k.claim = .plantHold → readsOut hold .plant 14 tag .ok (putU16 rev) s
          ∧ ∃ t, exec unhold s = .next t ∧ t.pending = s.pending ∧ answered .plant 15 tag .ok (putU16 ((rev + 1) % 65536)) t
              ∧ t.part.docks.get d = { k with claim := .none, refusal := false, revision := (rev + 1) % 65536 }
              ∧ othersKept r.docks t.part.docks d ∧ Within [.docks] r t.part)
      ∧ (k.revision = rev → k.claim = .none → readsOut unhold .plant 15 tag .ok (putU16 rev) s
          ∧ ∃ t, exec hold s = .next t ∧ t.pending = s.pending ∧ answered .plant 14 tag .ok (putU16 ((rev + 1) % 65536)) t
              ∧ t.part.docks.get d = { k with claim := .plantHold, refusal := false, revision := (rev + 1) % 65536 }
              ∧ othersKept r.docks t.part.docks d ∧ Within [.docks] r t.part))
    ∧ (∀ q, x = .portal q →
      let k := r.portals.get q
      (k.revision ≠ rev → readsOut hold .plant 14 tag .stale (putU16 k.revision) s
        ∧ readsOut unhold .plant 15 tag .stale (putU16 k.revision) s)
      ∧ (k.revision = rev → k.claim = .none → readsOut unhold .plant 15 tag .ok (putU16 rev) s
          ∧ ∃ t, exec hold s = .next t ∧ t.pending = s.pending ∧ answered .plant 14 tag .ok (putU16 ((rev + 1) % 65536)) t
              ∧ (t.part.portals.get q).claim = .plantHold ∧ (grantLive k = true → (t.part.portals.get q).openCommand = false)
              ∧ (k.state = .deferred → (t.part.portals.get q).pending = none ∧ (t.part.portals.get q).state = .closed)
              ∧ (t.part.portals.get q).revision = (rev + 1) % 65536
              ∧ othersKept r.portals t.part.portals q ∧ Within [.portals, .ports] r t.part)
      ∧ (k.revision = rev → k.claim = .plantHold → readsOut hold .plant 14 tag .ok (putU16 rev) s
          ∧ ∃ t, exec unhold s = .next t ∧ t.pending = s.pending ∧ answered .plant 15 tag .ok (putU16 ((rev + 1) % 65536)) t
              ∧ (t.part.portals.get q).claim = .none ∧ (t.part.portals.get q).revision = (rev + 1) % 65536
              ∧ ((r.zones.get (portalZone r q)).mode = .bulk → k.state ≠ .fault → k.state ≠ .lockedOut → k.state ≠ .blocked →
                  k.state ≠ .held → (t.part.portals.get q).state = .held ∧ (t.part.portals.get q).openCommand = true)
              ∧ othersKept r.portals t.part.portals q ∧ Within [.portals, .ports] r t.part))

/-- R63: SEAL in ARRIVED and RESEAL in SEAL_FAULT start the inflation: no capture, the capture start now, the seal deadline one seal limit
ahead, the seal output INFLATE, the revision moved once. In any other state they are refused BUSY_STATE, under a plant hold HELD. -/
def Obligations.SealStartsTheInflation : Prop :=
  ∀ (s : State) (p : Port) (tag : Byte) (body : List Byte) (d : DoorId), takes p s → readDoor body = some (.dock d) →
    dockInService s.part d = true →
    let r := renewed p s
    let k := r.docks.get d
    let inflates (c : Instr) (code : Nat) : Prop :=
      ∃ t, exec c s = .next t ∧ t.pending = s.pending ∧ answered p code tag .ok [] t
        ∧ t.part.docks.get d
            = { k with
                state := .inflating, capture := none, captureStart := some s.part.time
                sealDl := some (addTime s.part.time (s.part.cfg.docks.get d).sealLimit), travelDl := none, openDl := none
                sealOut := .inflate, refusal := false, revision := (k.revision + 1) % 65536 }
        ∧ othersKept r.docks t.part.docks d ∧ Within [.docks] r t.part
    (p = .warehouse →
      (k.state ≠ .arrived → readsOut (.sealDoor p tag body) p 16 tag .busyState [] s)
      ∧ (k.state = .arrived → k.claim = .plantHold → readsOut (.sealDoor p tag body) p 16 tag .held [] s)
      ∧ (k.state = .arrived → k.claim ≠ .plantHold → inflates (.sealDoor p tag body) 16))
    ∧ (k.state ≠ .sealFault → readsOut (.reseal p tag body) p 19 tag .busyState [] s)
    ∧ (k.state = .sealFault → k.claim = .plantHold → readsOut (.reseal p tag body) p 19 tag .held [] s)
    ∧ (k.state = .sealFault → k.claim ≠ .plantHold → inflates (.reseal p tag body) 19)

/-- R64: RELEASE DOOR. An INBOUND trailer with a WAITING pallet is refused UNLOADED unless RETURN is carried; SEALED goes to RELEASING with
the seal deflating; ARRIVED and SEAL_FAULT keep their state; the return mark is the one carried; any other state is BUSY_STATE. That the
unloaded check comes before the state is the model's choice (notes/assumptions/16.md). -/
def Obligations.ReleaseDoorDeflatesTheSeal : Prop :=
  ∀ (s : State) (tag : Byte) (body : List Byte) (d : DoorId) (ret : Bool), takes .warehouse s → readRelease body = some (.dock d, ret) →
    dockInService s.part d = true →
    let r := renewed .warehouse s
    let k := r.docks.get d
    let c := Instr.releaseDoor .warehouse tag body
    let loaded := k.claim = .inbound ∧ ret = false ∧ ∃ x ∈ r.pallets, x.loc = .trailer d ∧ x.status = .waiting
    (loaded → readsOut c .warehouse 17 tag .unloaded [] s)
      ∧ (¬ loaded → k.state ≠ .sealed → k.state ≠ .arrived → k.state ≠ .sealFault → readsOut c .warehouse 17 tag .busyState [] s)
      ∧ (¬ loaded → k.state = .sealed →
          ∃ t, exec c s = .next t ∧ t.pending = s.pending ∧ answered .warehouse 17 tag .ok [] t
            ∧ t.part.docks.get d
                = { k with
                    state := .releasing, sealDl := some (addTime s.part.time (s.part.cfg.docks.get d).sealLimit), travelDl := none
                    openDl := none, captureStart := none, refusal := false, sealOut := .deflate, returnMark := ret, pending := none
                    revision := (k.revision + 1) % 65536 }
            ∧ placed r t.part [] (match k.pending with
                | some x => [.doorRequestEnd (.dock d) x.origin x.time .cancelled]
                | none => [])
            ∧ othersKept r.docks t.part.docks d ∧ Within [.docks, .ports] r t.part)
      ∧ (¬ loaded → k.state = .arrived ∨ k.state = .sealFault →
          ∃ t, exec c s = .next t ∧ t.pending = s.pending ∧ answered .warehouse 17 tag .ok [] t
            ∧ t.part.docks.get d
                = { k with
                    returnMark := ret
                    revision := if k.returnMark = ret then k.revision else (k.revision + 1) % 65536 }
            ∧ othersKept r.docks t.part.docks d ∧ Within [.docks] r t.part)

/-- R74, R75, R167: OPEN DOOR through its checks in order. A door with a pending request absorbs it; a check that fails refuses it and sets the
refusal mark; a grant enters OPENING and leaves no pending request, on proceed-suspended with the batch suspended; a deferred request is stored with origin OPEN DOOR and the time. -/
def Obligations.OpenDoorIsGrantedByItsChecks : Prop :=
  ∀ (s : State) (tag : Byte) (body : List Byte) (d : DoorId), takes .warehouse s → readDoor body = some (.dock d) →
    dockInService s.part d = true →
    let r := renewed .warehouse s
    let k := r.docks.get d
    let c := Instr.openDoor .warehouse tag body
    let refuses (st : Status) : Prop :=
      ∃ t, exec c s = .next t ∧ t.pending = s.pending ∧ answered .warehouse 18 tag st [] t
        ∧ t.part.docks.get d = { k with refusal := true } ∧ othersKept r.docks t.part.docks d ∧ Within [.docks] r t.part
    let ready := k.claim = .outbound ∨ (k.claim = .inbound ∧ (r.slots.get d).state = .committed)
    let warm := k.claim = .outbound ∧ ∃ l, k.last = some l ∧ ∃ x, l.temp = some x ∧ (r.cfg.handling.get d).precool < x
    let closed := (r.zones.get 0).mode = .draining ∨ (r.zones.get 0).mode = .pulldown
    (k.pending.isSome = true → readsOut c .warehouse 18 tag .deferred [0] s)
      ∧ (k.pending = none →
          (k.state ≠ .sealed → refuses .busyState)
          ∧ (k.state = .sealed → ¬ ready → refuses .notReady)
          ∧ (k.state = .sealed → ready → warm → refuses .trailerWarm)
          ∧ (k.state = .sealed → ready → ¬ warm → closed → refuses .zoneClosed)
          ∧ (k.state = .sealed → ready → ¬ warm → ¬ closed → defrostAnswer r 0 = .refused → refuses .zoneDefrost)
          ∧ (k.state = .sealed → ready → ¬ warm → ¬ closed → defrostAnswer r 0 = .proceed ∨ defrostAnswer r 0 = .proceedSuspended →
              ∃ t, exec c s = .next t ∧ t.pending = s.pending
                ∧ answered .warehouse 18 tag .ok [if defrostAnswer r 0 = .proceedSuspended then 1 else 0] t
                ∧ t.part.docks.get d
                    = { k with
                        state := .opening, travelDl := some (addTime s.part.time 30), sealDl := none, openDl := none
                        captureStart := none, refusal := false, pending := none, revision := (k.revision + 1) % 65536 }
                ∧ (defrostAnswer r 0 = .proceed → othersKept r.docks t.part.docks d ∧ Within [.docks, .ports] r t.part)
                ∧ (defrostAnswer r 0 = .proceedSuspended → membersOwn r → suspendedNow 0 r t.part))
          ∧ (k.state = .sealed → ready → ¬ warm → ¬ closed → defrostAnswer r 0 = .deferred →
              ∃ t, exec c s = .next t ∧ t.pending = s.pending ∧ answered .warehouse 18 tag .deferred [0] t
                ∧ t.part.docks.get d
                    = { k with pending := some ⟨.openDoor, s.part.time⟩, revision := (k.revision + 1) % 65536 }
                ∧ othersKept r.docks t.part.docks d ∧ Within [.docks] r t.part))

/-- R78: CLOSE DOOR. A dock door in OPENING or OPEN enters CLOSING, in SEALED it loses its pending request; a portal's grant ends, its
pending request ends, or it is refused HELD; in any other state nothing changes. That a portal which becomes CLOSED loses its travel
deadline too is the model's choice (notes/assumptions/16.md). -/
def Obligations.CloseDoorClosesOrCancels : Prop :=
  ∀ (s : State) (p : Port) (tag : Byte) (body : List Byte) (x : DoorRef), takes p s → readDoor body = some x →
    doorInService s.part x = true →
    let r := renewed p s
    let c := Instr.closeDoor p tag body
    (∀ d, x = .dock d →
      let k := r.docks.get d
      (k.state = .opening ∨ k.state = .open →
        ∃ t, exec c s = .next t ∧ t.pending = s.pending ∧ answered p 20 tag .ok [] t
          ∧ t.part.docks.get d
              = { k with
                  state := .closing, travelDl := some (addTime s.part.time 30), openDl := none, sealDl := none, captureStart := none
                  refusal := false, revision := (k.revision + 1) % 65536 }
          ∧ othersKept r.docks t.part.docks d ∧ Within [.docks] r t.part)
      ∧ (∀ y, k.state = .sealed → k.pending = some y →
          ∃ t, exec c s = .next t ∧ t.pending = s.pending ∧ answered p 20 tag .ok [] t
            ∧ t.part.docks.get d = { k with pending := none, revision := (k.revision + 1) % 65536 }
            ∧ placed r t.part [] [.doorRequestEnd (.dock d) y.origin y.time .cancelled]
            ∧ othersKept r.docks t.part.docks d ∧ Within [.docks, .ports] r t.part)
      ∧ (k.state ≠ .opening → k.state ≠ .open → (k.state ≠ .sealed ∨ k.pending = none) → readsOut c p 20 tag .ok [] s))
    ∧ (∀ q, x = .portal q →
      let k := r.portals.get q
      (k.state = .held → readsOut c p 20 tag .held [] s)
      ∧ (k.state = .granted ∨ (k.state = .open ∧ k.openCommand = true) →
          ∃ t, exec c s = .next t ∧ t.pending = s.pending ∧ answered p 20 tag .ok [] t
            ∧ (t.part.portals.get q).openCommand = false ∧ (t.part.portals.get q).grantDl = none
            ∧ (reportsClosed k = true → (t.part.portals.get q).state = .closed ∧ (t.part.portals.get q).travelDl = none)
            ∧ (reportsClosed k = false →
                (t.part.portals.get q).state = .open ∧ (t.part.portals.get q).travelDl = some (addTime s.part.time 30))
            ∧ othersKept r.portals t.part.portals q ∧ Within [.portals] r t.part)
      ∧ (k.state = .deferred →
          ∃ t, exec c s = .next t ∧ t.pending = s.pending ∧ answered p 20 tag .ok [] t
            ∧ (t.part.portals.get q).state = .closed ∧ (t.part.portals.get q).pending = none
            ∧ othersKept r.portals t.part.portals q ∧ Within [.portals, .ports] r t.part)
      ∧ (k.state = .closed ∨ k.state = .blocked ∨ k.state = .fault ∨ k.state = .lockedOut ∨ (k.state = .open ∧ k.openCommand = false) →
          readsOut c p 20 tag .ok [] s))

/-- R63 to R66, R79, R82, R84: the door deadlines. The seal deadline gives SEAL_FAULT with SEAL_FAIL raised; a travel deadline gives FAULT
with DOOR_FAULT raised and the pending request ended; the open deadline is extended while a move uses the door and the count is below 3,
else the door closes with DOOR_AUTO_CLOSE to both ports; the grant deadline ends a portal's grant. -/
def Obligations.DoorDeadlinesActOnTheDoor : Prop :=
  ∀ (s : State), s.part.running = true →
    (∀ d, let k := s.part.docks.get d
      (reached k.sealDl s.part.time = true →
        ∃ t, exec (.sealDeadlineExpiry d) s = .next t ∧ t.pending = s.pending ∧ t.part.out = []
          ∧ (t.part.docks.get d).state = .sealFault ∧ (t.part.docks.get d).sealOut = .deflate ∧ (t.part.docks.get d).sealDl = none
          ∧ (t.part.docks.get d).claim = k.claim ∧ (t.part.docks.get d).capture = k.capture
          ∧ (roomFor .sealFail (.door (.dock d)) s.part → raisedNow .sealFail (.door (.dock d)) t.part)
          ∧ othersKept s.part.docks t.part.docks d ∧ Within [.docks, .alarms, .ports] (cleared s) t.part)
      ∧ (reached k.travelDl s.part.time = true → k.firstPending = false →
        ∃ t, exec (.travelDeadlineExpiry d) s = .next t ∧ t.pending = s.pending ∧ t.part.out = []
          ∧ (t.part.docks.get d).state = .fault ∧ (t.part.docks.get d).travelDl = none ∧ (t.part.docks.get d).pending = none
          ∧ (t.part.docks.get d).claim = k.claim ∧ (t.part.docks.get d).sealOut = k.sealOut
          ∧ (roomFor .doorFault (.door (.dock d)) s.part → raisedNow .doorFault (.door (.dock d)) t.part)
          ∧ othersKept s.part.docks t.part.docks d ∧ Within [.docks, .alarms, .ports] (cleared s) t.part)
      ∧ (reached k.openDl s.part.time = true →
        ∃ t, exec (.openDeadlineExpiry d) s = .next t ∧ t.pending = s.pending ∧ t.part.out = []
          ∧ (anyMoveUses s.part d = true → k.extensions < 3 →
              t.part.docks.get d
                = { k with
                    openDl := if (s.part.cfg.handling.get d).openLimit = 0 then none
                      else some (addTime s.part.time (s.part.cfg.handling.get d).openLimit)
                    extensions := k.extensions + 1 }
              ∧ Within [.docks] (cleared s) t.part)
          ∧ ((anyMoveUses s.part d = false ∨ 3 ≤ k.extensions) →
              (t.part.docks.get d).state = .closing ∧ (t.part.docks.get d).openDl = none
                ∧ (t.part.docks.get d).travelDl = some (addTime s.part.time 30)
                ∧ placed (cleared s) t.part [.doorAutoClose (.dock d) .openLimit (some k.extensions)]
                    [.doorAutoClose (.dock d) .openLimit (some k.extensions)])
          ∧ othersKept s.part.docks t.part.docks d))
    ∧ (∀ q, let k := s.part.portals.get q
      (reached k.travelDl s.part.time = true → k.firstPending = false →
        ∃ t, exec (.portalTravelDeadlineExpiry q) s = .next t ∧ t.pending = s.pending ∧ t.part.out = []
          ∧ (t.part.portals.get q).state = .fault ∧ (t.part.portals.get q).openCommand = false
          ∧ (t.part.portals.get q).pending = none
          ∧ (roomFor .doorFault (.door (.portal q)) s.part → raisedNow .doorFault (.door (.portal q)) t.part)
          ∧ othersKept s.part.portals t.part.portals q ∧ Within [.portals, .alarms, .ports] (cleared s) t.part)
      ∧ (reached k.grantDl s.part.time = true →
        ∃ t, exec (.grantDeadlineExpiry q) s = .next t ∧ t.pending = s.pending ∧ t.part.out = []
          ∧ (t.part.portals.get q).openCommand = false ∧ (t.part.portals.get q).grantDl = none
          ∧ (reportsClosed k = true → (t.part.portals.get q).state = .closed)
          ∧ (reportsClosed k = false →
              (t.part.portals.get q).state = .open ∧ (t.part.portals.get q).travelDl = some (addTime s.part.time 30))
          ∧ othersKept s.part.portals t.part.portals q ∧ Within [.portals] (cleared s) t.part))

/-! ### Manifests -/

/-- R93, R100: MANIFEST BEGIN through its checks in order, and on acceptance a slot in LOADING that expects sequence 1; MANIFEST CLEAR
empties a slot that is not COMMITTED. Each moves the door's revision once where the slot's state changes. -/
def Obligations.ManifestBeginsAndClears : Prop :=
  ∀ (s : State) (tag : Byte) (body : List Byte) (d : DoorId), takes .warehouse s → dockInService s.part d = true →
    let r := renewed .warehouse s
    let k := r.docks.get d
    let w := r.slots.get d
    (∀ count rev, readBegin body = some (.dock d, count, rev) →
      let c := Instr.manifestBegin .warehouse tag body
      let may := k.state = .arrived ∨ k.state = .inflating ∨ k.state = .sealed
      (¬ (1 ≤ count ∧ count ≤ 36) → readsOut c .warehouse 21 tag .badRequest [] s)
      ∧ (1 ≤ count → count ≤ 36 → k.revision ≠ rev → readsOut c .warehouse 21 tag .stale (putU16 k.revision) s)
      ∧ (1 ≤ count → count ≤ 36 → k.revision = rev → w.state = .loadFault → readsOut c .warehouse 21 tag .loadFault [] s)
      ∧ (1 ≤ count → count ≤ 36 → k.revision = rev → w.state ≠ .loadFault → w.state ≠ .empty →
          readsOut c .warehouse 21 tag .busyState [] s)
      ∧ (1 ≤ count → count ≤ 36 → k.revision = rev → w.state = .empty → k.claim ≠ .inbound →
          readsOut c .warehouse 21 tag .notReady [] s)
      ∧ (1 ≤ count → count ≤ 36 → k.revision = rev → w.state = .empty → k.claim = .inbound → ¬ may →
          readsOut c .warehouse 21 tag .busyState [] s)
      ∧ (1 ≤ count → count ≤ 36 → k.revision = rev → w.state = .empty → k.claim = .inbound → may →
          ∃ t, exec c s = .next t ∧ t.pending = s.pending ∧ answered .warehouse 21 tag .ok (putU16 ((rev + 1) % 65536)) t
            ∧ t.part.slots.get d
                = ⟨.loading, some count, some 1, [], some (addTime s.part.time s.part.cfg.staging.entryDeadline), none, 0⟩
            ∧ t.part.docks.get d = { k with revision := (rev + 1) % 65536 }
            ∧ othersKept r.slots t.part.slots d ∧ othersKept r.docks t.part.docks d ∧ Within [.docks, .slots] r t.part))
    ∧ (readDoor body = some (.dock d) →
      let c := Instr.manifestClear .warehouse tag body
      (w.state = .empty → readsOut c .warehouse 24 tag .ok [] s)
      ∧ (w.state = .committed → readsOut c .warehouse 24 tag .busyState [] s)
      ∧ (w.state = .loading ∨ w.state = .loaded ∨ w.state = .loadFault →
          ∃ t, exec c s = .next t ∧ t.pending = s.pending ∧ answered .warehouse 24 tag .ok [] t
            ∧ t.part.slots.get d = ⟨.empty, none, none, [], none, none, 0⟩
            ∧ t.part.docks.get d = { k with revision := (k.revision + 1) % 65536 }
            ∧ othersKept r.slots t.part.slots d ∧ othersKept r.docks t.part.docks d ∧ Within [.docks, .slots] r t.part))

/-- R94 to R97: MANIFEST ENTRY. Fields out of range are BAD_REQUEST in every slot state. In LOADING the next sequence with a new pallet is
appended, and completes the list at the count; a repeat of the last entry changes nothing; anything else faults the load with its cause and
detail, with one MANIFEST_FAULT. The entry deadline faults it with cause DEADLINE and the sequence that did not come. -/
def Obligations.ManifestEntryBuildsTheList : Prop :=
  ∀ (s : State) (tag : Byte) (body : List Byte) (d : DoorId),
    let faulted (r : Part) (cause : LoadCause) (detail : Nat) (t : State) : Prop :=
      t.part.slots.get d
          = { r.slots.get d with state := .loadFault, fault := some ⟨cause, detail, s.part.time⟩, deadline := none }
        ∧ t.part.docks.get d = { r.docks.get d with revision := ((r.docks.get d).revision + 1) % 65536 }
        ∧ placed r t.part [] [.manifestFault d (r.docks.get d).trailer cause detail (r.slots.get d).entries.length]
        ∧ othersKept r.slots t.part.slots d ∧ othersKept r.docks t.part.docks d ∧ Within [.docks, .slots, .ports] r t.part
    (∀ x, takes .warehouse s → readEntry body = some x → x.door = .dock d → dockInService s.part d = true →
      let r := renewed .warehouse s
      let w := r.slots.get d
      let c := Instr.manifestEntry .warehouse tag body
      let fits := 1 ≤ x.seq ∧ x.seq ≤ 36 ∧ x.id ≠ 0 ∧ x.consignee ≤ 4095 ∧ x.cls < 8 ∧ -500 ≤ x.temp ∧ x.temp ≤ 500
      (¬ fits → readsOut c .warehouse 22 tag .badRequest [] s)
      ∧ ∀ e : Entry, e.seq = x.seq → e.id = x.id → e.consignee = x.consignee → e.cls.val = x.cls → e.temp = x.temp → fits →
        let again := w.entries.getLast? = some e
        let known := ∃ y ∈ w.entries, y.id = e.id
        let same := putU8 (w.next.getD 0) ++ putU8 (SlotState.code w.state)
        let faults (cause : LoadCause) (detail : Nat) : Prop :=
          ∃ t, exec c s = .next t ∧ t.pending = s.pending ∧ answered .warehouse 22 tag .loadFault [] t ∧ faulted r cause detail t
        (w.state = .empty → readsOut c .warehouse 22 tag .notReady [] s)
        ∧ (w.state = .committed → readsOut c .warehouse 22 tag .busyState [] s)
        ∧ (w.state = .loadFault → readsOut c .warehouse 22 tag .loadFault [] s)
        ∧ (w.state = .loading ∨ w.state = .loaded → again → readsOut c .warehouse 22 tag .ok same s)
        ∧ (w.state = .loaded → ¬ again → faults .excessEntry e.seq)
        ∧ (w.state = .loading → ¬ again → w.next ≠ some e.seq → faults .sequence e.seq)
        ∧ (w.state = .loading → ¬ again → w.next = some e.seq → known → faults .duplicateId e.id)
        ∧ (w.state = .loading → ¬ again → w.next = some e.seq → ¬ known →
            let full := w.count = some (w.entries.length + 1)
            ∃ t, exec c s = .next t ∧ t.pending = s.pending
              ∧ answered .warehouse 22 tag .ok (putU8 (e.seq + 1) ++ putU8 (if full then 3 else 2)) t
              ∧ t.part.slots.get d
                  = { w with
                      entries := w.entries ++ [e], next := some (e.seq + 1), state := if full then .loaded else .loading
                      deadline := if full then none else some (addTime s.part.time s.part.cfg.staging.entryDeadline) }
              ∧ (t.part.docks.get d).revision
                  = (if full then ((r.docks.get d).revision + 1) % 65536 else (r.docks.get d).revision)
              ∧ othersKept r.slots t.part.slots d ∧ Within [.docks, .slots] r t.part))
    ∧ (s.part.running = true → (s.part.slots.get d).state = .loading → reached (s.part.slots.get d).deadline s.part.time = true →
        ∃ t, exec (.entryDeadlineExpiry d) s = .next t ∧ t.pending = s.pending ∧ t.part.out = []
          ∧ faulted (cleared s) .deadline ((s.part.slots.get d).next.getD 0) t)

/-- R98, R99: MANIFEST COMMIT by the slot state; in LOADED an identifier in the table faults the load, a lack of room is TABLE_FULL with
the free records, and otherwise every entry has one new record, WAITING on the trailer, with no exposure and its estimate at the declared
temperature, beside every record that was there. The body of the OK of a COMMITTED slot is the model's choice (notes/assumptions/4.md). -/
def Obligations.ManifestCommitCreatesEveryRecord : Prop :=
  ∀ (s : State) (tag : Byte) (body : List Byte) (d : DoorId), takes .warehouse s → readDoor body = some (.dock d) →
    dockInService s.part d = true →
    let r := renewed .warehouse s
    let w := r.slots.get d
    let c := Instr.manifestCommit .warehouse tag body
    let known (e : Entry) : Prop := ∃ x ∈ r.pallets, x.id = e.id
    let record (e : Entry) : Pallet :=
      { id := e.id, loc := .trailer d, status := .waiting, consignee := e.consignee, cls := e.cls
        route := routeFor r e.consignee e.cls, hallEntry := none, dwellRaised := false, move := none, estimate := e.temp * 10
        remainder := 0, updated := s.part.time, exposure := 0, warned := false, quarantined := false }
    (w.state = .empty → readsOut c .warehouse 23 tag .notReady [] s)
      ∧ (w.state = .loadFault → readsOut c .warehouse 23 tag .loadFault [] s)
      ∧ (w.state = .committed →
          readsOut c .warehouse 23 tag .ok (putU8 w.committed ++ putU16 (r.docks.get d).revision) s)
      ∧ (w.state = .loading →
          ∃ t, exec c s = .next t ∧ t.pending = s.pending ∧ answered .warehouse 23 tag .loadFault [] t
            ∧ (t.part.slots.get d).state = .loadFault
            ∧ (t.part.slots.get d).fault = some ⟨.shortCommit, w.next.getD 0, s.part.time⟩ ∧ t.part.pallets = r.pallets)
      ∧ (∀ pre e post, w.state = .loaded → w.entries = pre ++ e :: post → (∀ y ∈ pre, ¬ known y) → known e →
          ∃ t, exec c s = .next t ∧ t.pending = s.pending ∧ answered .warehouse 23 tag .loadFault [] t
            ∧ (t.part.slots.get d).state = .loadFault ∧ (t.part.slots.get d).fault = some ⟨.idInTable, e.id, s.part.time⟩
            ∧ t.part.pallets = r.pallets)
      ∧ (∀ n, w.state = .loaded → w.count = some n → (∀ y ∈ w.entries, ¬ known y) → 512 - r.pallets.length < n →
          readsOut c .warehouse 23 tag .tableFull (putU16 (512 - r.pallets.length)) s)
      ∧ (∀ n, w.state = .loaded → w.count = some n → (∀ y ∈ w.entries, ¬ known y) → n ≤ 512 - r.pallets.length →
          ∃ t, exec c s = .next t ∧ t.pending = s.pending
            ∧ answered .warehouse 23 tag .ok (putU8 n ++ putU16 (((r.docks.get d).revision + 1) % 65536)) t
            ∧ t.part.slots.get d = { w with state := .committed, committed := n }
            ∧ (∀ x ∈ r.pallets, x ∈ t.part.pallets) ∧ (∀ e ∈ w.entries, record e ∈ t.part.pallets)
            ∧ (∀ x ∈ t.part.pallets, x ∈ r.pallets ∨ ∃ e ∈ w.entries, x = record e)
            ∧ t.part.pallets.length = r.pallets.length + w.entries.length
            ∧ Within [.docks, .slots, .pallets] r t.part)

/-! ### Pallets and moves -/

/-- R111, R114, R120: a MOVE that passes every check is granted: the record takes the move and status MOVING, the credits in use rise by
one where the origin is not the hall, and nothing else changes. The response carries the expiry, the credit reserved flag, and the doors and
zones of the path, those of the origin first. A check that fails gives its status and changes nothing. That the portals of one zone stand
in ascending number is the model's choice (notes/assumptions/4.md). -/
def Obligations.MoveIsGrantedByItsChecks : Prop :=
  ∀ (s : State) (tag : Byte) (body : List Byte) (id : Nat) (e : Dest), takes .warehouse s → readMove body = some (id, e) →
    let r := renewed .warehouse s
    let c := Instr.move .warehouse tag body
    (id = 0 → readsOut c .warehouse 26 tag .badRequest [] s)
      ∧ (id ≠ 0 → locInService r (destOf e) = false → readsOut c .warehouse 26 tag .unknownId [] s)
      ∧ (id ≠ 0 → locInService r (destOf e) = true → (∀ x ∈ r.pallets, x.id ≠ id) → readsOut c .warehouse 26 tag .unknownId [] s)
      ∧ (∀ x, id ≠ 0 → locInService r (destOf e) = true → findPallet r id = some x →
          let free := x.status = .waiting ∨ x.status = .standing
          let openPath := ∀ z ∈ pathZones x.loc e, zoneTakesMoves r z = true
          let credit :=
            (∀ d, x.loc = .trailer d → r.credits < min r.cfg.staging.inboundLimit (effectiveCapacity r))
              ∧ ∀ z, x.loc = .zone z → r.credits < effectiveCapacity r
          (¬ free → readsOut c .warehouse 26 tag .busyState [] s)
          ∧ (free → destOf e = x.loc → readsOut c .warehouse 26 tag .badRequest [] s)
          ∧ (free → destOf e ≠ x.loc → routeAgrees x e = false → readsOut c .warehouse 26 tag .routeMismatch [] s)
          ∧ (free → destOf e ≠ x.loc → routeAgrees x e = true → ¬ openPath → readsOut c .warehouse 26 tag .zoneClosed [] s)
          ∧ (∀ st, free → destOf e ≠ x.loc → routeAgrees x e = true → openPath → doorTakes r e = some st →
              readsOut c .warehouse 26 tag st [] s)
          ∧ (free → destOf e ≠ x.loc → routeAgrees x e = true → openPath → doorTakes r e = none → ¬ credit →
              readsOut c .warehouse 26 tag .noCredit [] s)
          ∧ (free → destOf e ≠ x.loc → routeAgrees x e = true → openPath → doorTakes r e = none → credit →
              let m : Move := ⟨x.loc, e, s.part.time, addTime s.part.time r.cfg.staging.moveLimit, reserves x.loc⟩
              let portals (z : ZoneId) := ((List.finRange 12).filter (portalOf r z)).map fun q => putDoor (.portal q)
              let doors :=
                (match x.loc with | .trailer d => [putDoor (.dock d)] | .hall => [] | .zone z => portals z)
                  ++ match e with | .door d => [putDoor (.dock d)] | .hall => [] | .zone z => portals z
              let zones := (pathZones x.loc e).map putZone
              ∃ t, exec c s = .next t ∧ t.pending = s.pending
                ∧ answered .warehouse 26 tag .ok
                    (putU32 m.expiry ++ putMark m.reserved ++ putU8 doors.length ++ doors.flatten ++ putU8 zones.length ++ zones.flatten) t
                ∧ t.part.pallets = r.pallets.map (fun y => if y.id = id then { y with move := some m, status := .moving } else y)
                ∧ t.part.credits = (if x.loc = .hall then r.credits else r.credits + 1)
                ∧ Within [.pallets, .credits] r t.part))

/-- R115, R116, R117, R129: CANCEL MOVE and a move's expiry end the move: its credit is released, the record keeps its location and takes
the status of it, and the notice goes to the warehouse. A record without a move is left as it is. REMOVE PALLET takes a WAITING or
STANDING record out of the table. The body of the OK of CANCEL MOVE is the model's choice (notes/assumptions/4.md). -/
def Obligations.MovesEndAndPalletsLeave : Prop :=
  ∀ (s : State) (tag : Byte) (body : List Byte) (id : Nat), palletsUnique s.part →
    let ended (r : Part) (x : Pallet) (m : Move) (t : State) : Prop :=
      t.part.pallets
          = r.pallets.map (fun y => if y.id = id then { y with move := none, status := restingStatus r x.loc } else y)
        ∧ t.part.credits = (if m.reserved then r.credits - 1 else r.credits)
    (takes .warehouse s → readPalletId body = some id →
      let r := renewed .warehouse s
      let cancel := Instr.cancelMove .warehouse tag body
      let remove := Instr.removePallet .warehouse tag body
      (id = 0 → readsOut cancel .warehouse 27 tag .badRequest [] s ∧ readsOut remove .warehouse 28 tag .badRequest [] s)
      ∧ (id ≠ 0 → findPallet r id = none →
          readsOut cancel .warehouse 27 tag .unknownId [] s ∧ readsOut remove .warehouse 28 tag .unknownId [] s)
      ∧ (∀ x, id ≠ 0 → findPallet r id = some x → x.move = none →
          readsOut cancel .warehouse 27 tag .ok (putLoc x.loc ++ putU8 (PalletStatus.code x.status)) s)
      ∧ (∀ x, id ≠ 0 → findPallet r id = some x → ∀ m, x.move = some m →
          ∃ t, exec cancel s = .next t ∧ t.pending = s.pending
            ∧ answered .warehouse 27 tag .ok (putLoc x.loc ++ putU8 (PalletStatus.code (restingStatus r x.loc))) t ∧ ended r x m t
            ∧ ((t.part.port .warehouse).overflow = false →
                (∃ n ∈ (t.part.port .warehouse).queue,
                  n.body = .moveCancelled ⟨id, m.origin, m.dest, m.granted, x.loc⟩ .request ∧ n.time = s.part.time)))
      ∧ (∀ x, id ≠ 0 → findPallet r id = some x → x.status = .moving ∨ x.status = .loaded →
          readsOut remove .warehouse 28 tag .busyState [] s)
      ∧ (∀ x, id ≠ 0 → findPallet r id = some x → x.status = .waiting ∨ x.status = .standing →
          ∃ t, exec remove s = .next t ∧ t.pending = s.pending
            ∧ (∃ rest, answered .warehouse 28 tag .ok (putLoc x.loc ++ rest) t)
            ∧ t.part.pallets.map (·.id) = (r.pallets.map (·.id)).filter (· ≠ id)
            ∧ (∀ y ∈ r.pallets, y.id ≠ id → y ∈ t.part.pallets)
            ∧ (x.move = none → t.part.credits = (if x.loc = .hall then r.credits - 1 else r.credits))))
    ∧ (∀ x, s.part.running = true → findPallet s.part id = some x → ∀ m, x.move = some m → m.expiry ≤ s.part.time →
        ∃ t, exec (.moveExpiry id) s = .next t ∧ t.pending = s.pending ∧ t.part.out = [] ∧ ended s.part x m t
          ∧ ((t.part.port .warehouse).overflow = false →
              (∃ n ∈ (t.part.port .warehouse).queue,
                n.body = .moveExpired ⟨id, m.origin, m.dest, m.granted, x.loc⟩ ∧ n.time = s.part.time)))

/-- R112: check 4 of MOVE compares the destination with the record's route snapshot and its quarantined mark; no move with a dock door as
destination is ever granted for a quarantined pallet. -/
def Obligations.RouteCheckFollowsTheSnapshot : Prop :=
  ∀ (x : Pallet),
    (x.quarantined = false → ∀ z e, x.route.action = .store z → (routeAgrees x e = true ↔ e = .hall ∨ e = .zone z))
      ∧ (x.quarantined = false → ∀ e, x.route.action = .cross → (routeAgrees x e = true ↔ e = .hall ∨ ∃ d, e = .door d))
      ∧ (x.quarantined = false → ∀ z e, x.route.action = .quarantine z → (routeAgrees x e = true ↔ e = .hall ∨ e = .zone z))
      ∧ (x.quarantined = true → ∀ e, (routeAgrees x e = true ↔ e = .hall ∨ e = .zone x.route.quarantineZone))
      ∧ ∀ (s : State) (tag : Byte) (body : List Byte) (id : Nat) (d : DoorId) (t : State), readMove body = some (id, .door d) →
          findPallet s.part id = some x → x.quarantined = true → exec (.move .warehouse tag body) s = .next t →
          t.part.pallets = s.part.pallets

/-- R135, R136: an update moves the estimate toward the air temperature used, never past it, keeps the remainder below one unit, and lets
the exposure grow only while the new estimate lies above the critical temperature. -/
def Obligations.EstimateMovesTowardTheAir : Prop :=
  ∀ (air est rem critical : Int) (rate dt e : Nat), -1000000 < rem → rem < 1000000 →
    -500 ≤ air → air ≤ 500 → -5000 ≤ est → est ≤ 5000 →
    let x := estimateStep air rate dt est rem
    (est ≤ 10 * air → est ≤ x.1 ∧ x.1 ≤ 10 * air) ∧ (10 * air ≤ est → 10 * air ≤ x.1 ∧ x.1 ≤ est)
      ∧ -5000 ≤ x.1 ∧ x.1 ≤ 5000 ∧ -1000000 < x.2 ∧ x.2 < 1000000
      ∧ (1000000 ≤ dt * rate → x = (10 * air, 0))
      ∧ (e ≤ 2147483647 → e ≤ exposureStep critical x.1 dt e ∧ exposureStep critical x.1 dt e ≤ 2147483647)
      ∧ (x.1 ≤ 10 * critical → exposureStep critical x.1 dt e = e)
      ∧ (10 * critical < x.1 → exposureStep critical x.1 dt e = min (e + ((x.1 - 10 * critical) * dt).toNat) 2147483647)

/-! ### Frost and defrost -/

/-- R88: a settlement of `n` seconds at a door of weight g with carry c hands A = (s × g + c) ÷ 10 units to the Defrost Scheduler,
or nothing where A is 0, and keeps the remainder as the new carry; two settlements of one open time give the same total as one. -/
def Obligations.SettlementDividesByTen : Prop :=
  (∀ (s : Part) (d : DoorId) (from_ n : Nat), (s.docks.get d).settleFrom = some from_ →
      let upTo := from_ + n
      let total := n * (s.cfg.docks.get d).weight + (s.docks.get d).carry
      ((settleDock d upTo s).docks.get d) = { s.docks.get d with carry := total % 10 }
        ∧ (total / 10 = 0 → settleDock d upTo s = modDock d (fun k => { k with carry := total % 10 }) s)
        ∧ (0 < total / 10 → settleDock d upTo s = divideFrost 0 (total / 10) (modDock d (fun k => { k with carry := total % 10 }) s)))
    ∧ (∀ (s : Part) (q : PortalId) (from_ n : Nat), (s.portals.get q).settleFrom = some from_ →
      let upTo := from_ + n
      let total := n * (s.cfg.portals.get q).weight + (s.portals.get q).carry
      ((settlePortal q upTo s).portals.get q) = { s.portals.get q with carry := total % 10 }
        ∧ (total / 10 = 0 → settlePortal q upTo s = modPortal q (fun k => { k with carry := total % 10 }) s)
        ∧ (0 < total / 10 →
            settlePortal q upTo s
              = divideFrost (portalZone s q) (total / 10) (modPortal q (fun k => { k with carry := total % 10 }) s)))
    ∧ (∀ g c a b : Nat, (a * g + c) / 10 + (b * g + (a * g + c) % 10) / 10 = ((a + b) * g + c) / 10
        ∧ (b * g + (a * g + c) % 10) % 10 = ((a + b) * g + c) % 10)

/-- R152, R156, R158, R161: the plant's defrost requests. Each named evaporator in IDLE, in service and not locked out enters DEMAND; FORCE
DEFROST is refused by its checks in order and leaves a FORCED batch past GATHER with every eligible evaporator; CANCEL DEFROST
ends a batch in GATHER or FORCE_WAIT: it is gone, or in an OPEN zone a new batch in GATHER, opened now for other evaporators that demand,
stands in its place (R154); SET HEAT SLOTS holds a count of at most 8 and brings it into force. The response of FORCE DEFROST is
the member list, each entry with its evaporator, outcome and fan started mark; that it has no count byte is the model's choice
(notes/assumptions/4.md). A zone out of service is refused as
RefusedRequestsChangeNothing says. -/
def Obligations.DefrostRequestsActOnTheZone : Prop :=
  ∀ (s : State) (tag : Byte) (body : List Byte), takes .plant s →
    let r := renewed .plant s
    (∀ es, readEvapList body = some es →
      let takes (e : EvapId) : Bool := es.contains e && evapActive r e && (r.evaps.get e).sub == .idle
      ∃ t, exec (.defrostRequest .plant tag body) s = .next t ∧ t.pending = s.pending
        ∧ answered .plant 32 tag .ok (putU8 ((List.finRange 16).filter takes).length) t ∧ Within [.evaps, .batches] r t.part
        ∧ (∀ e, takes e = true →
            (t.part.evaps.get e).demandTime = some s.part.time
              ∧ (t.part.evaps.get e).overdueDl = some (addTime s.part.time s.part.cfg.defrost.maxDeferral)
              ∧ (t.part.evaps.get e).sub ≠ .idle)
        ∧ (∀ e, takes e = false →
            (t.part.evaps.get e).demandTime = (r.evaps.get e).demandTime ∧ (t.part.evaps.get e).frost = (r.evaps.get e).frost))
    ∧ (∀ z, readZone body = some z → zoneInService s.part z = true →
      let c := Instr.forceDefrost .plant tag body
      let held := (r.zones.get z).mode = .draining ∨ (r.zones.get z).mode = .pulldown
      (held → readsOut c .plant 33 tag .zoneClosed [] s)
      ∧ (¬ held → pastGather r z = true → readsOut c .plant 33 tag .defrostRunning [] s)
      ∧ (¬ held → pastGather r z = false → (∀ e, evapOf r z e = true → (r.evaps.get e).sub = .fault) →
          readsOut c .plant 33 tag .notReady [] s)
      ∧ (∀ e, ¬ held → pastGather r z = false → evapOf r z e = true → (r.evaps.get e).sub ≠ .fault →
          ∃ t, exec c s = .next t ∧ t.pending = s.pending ∧ ∃ b, t.part.batches.get z = some b ∧ b.kind = .forced
            ∧ answered .plant 33 tag .ok ((b.members.map fun m => putElem m.evap ++ putOutcome m.outcome ++ putMark m.fanStarted).flatten) t
            ∧ (b.phase = .forceWait ∨ b.phase = .pumpdown)
            ∧ ∀ f, evapOf r z f = true → (r.evaps.get f).sub ≠ .fault → f ∈ b.members.map (·.evap)))
    ∧ (∀ z, readZone body = some z → zoneInService s.part z = true →
      let c := Instr.cancelDefrost .plant tag body
      (r.batches.get z = none → readsOut c .plant 34 tag .ok [] s)
      ∧ (∀ b, r.batches.get z = some b → b.phase ≠ .gather → b.phase ≠ .forceWait → readsOut c .plant 34 tag .defrostRunning [] s)
      ∧ (∀ b, r.batches.get z = some b → b.phase = .gather ∨ b.phase = .forceWait →
          ∃ t, exec c s = .next t ∧ t.pending = s.pending ∧ answered .plant 34 tag .ok [] t
            ∧ (∀ m ∈ b.members, (r.evaps.get m.evap).sub ≠ .fault → (t.part.evaps.get m.evap).sub = .idle)
            ∧ (∀ b', t.part.batches.get z = some b' →
                b'.kind = .normal ∧ b'.phase = .gather ∧ b'.opened = s.part.time ∧ (r.zones.get z).mode = .open
                  ∧ b'.deadline = some (addTime s.part.time s.part.cfg.defrost.gatherWindow)
                  ∧ ∀ m ∈ b.members, ∀ m' ∈ b'.members, m'.evap ≠ m.evap)
            ∧ (∀ m ∈ b.members, (t.part.evaps.get m.evap).demandTime = none ∧ (t.part.evaps.get m.evap).overdueDl = none
                ∧ (t.part.evaps.get m.evap).frost = (r.evaps.get m.evap).frost
                ∧ (t.part.evaps.get m.evap).lastEnd = (r.evaps.get m.evap).lastEnd)))
    ∧ (∀ n, readCount body = some n →
      ∃ t, exec (.setHeatSlots .plant tag body) s = .next t ∧ t.pending = s.pending
        ∧ answered .plant 35 tag (if n ≤ 8 then .ok else .okClamped) (putU8 (min n 8) ++ putU8 (min n 8)) t
        ∧ t.part.heatCommanded = min n 8 ∧ t.part.heatInForce = min n 8 ∧ Within (.heatSlots :: defrostGroups) r t.part)

/-- R151, R153, R155, R159, R164, R169: the deadlines of the Defrost Scheduler that stand in an evaporator or in a batch. -/
def Obligations.DefrostDeadlinesMoveTheBatch : Prop :=
  ∀ (s : State), s.part.running = true →
    (∀ e, reached (s.part.evaps.get e).backstopDl s.part.time = true →
      ∃ t, exec (.backstopDeadlineExpiry e) s = .next t ∧ t.pending = s.pending ∧ t.part.out = []
        ∧ (t.part.evaps.get e).backstopDl = none ∧ Within [.evaps, .batches] (cleared s) t.part
        ∧ (evapActive s.part e = true → (s.part.evaps.get e).sub = .idle →
            (t.part.evaps.get e).demandTime = some s.part.time ∧ (t.part.evaps.get e).sub ≠ .idle)
        ∧ ((evapActive s.part e = false ∨ (s.part.evaps.get e).sub ≠ .idle) →
            t.part.evaps.get e = { s.part.evaps.get e with backstopDl := none } ∧ t.part.batches = s.part.batches))
    ∧ (∀ e, reached (s.part.evaps.get e).overdueDl s.part.time = true →
      ∃ t, exec (.overdueDeadlineExpiry e) s = .next t ∧ t.pending = s.pending ∧ t.part.out = []
        ∧ t.part.evaps.get e = { s.part.evaps.get e with overdueDl := none } ∧ othersKept s.part.evaps t.part.evaps e
        ∧ (roomFor .defrostOverdue (.evap e) s.part → raisedNow .defrostOverdue (.evap e) t.part)
        ∧ Within [.evaps, .alarms, .ports] (cleared s) t.part)
    ∧ (∀ z b, s.part.batches.get z = some b → b.phase = .gather → reached b.deadline s.part.time = true →
      ∃ t, exec (.gatherWindowExpiry z) s = .next t ∧ t.pending = s.pending ∧ t.part.out = []
        ∧ ((s.part.zones.get z).mode = .open →
            t.part.batches.get z = some { b with phase := .pumpdown, deadline := some (addTime s.part.time s.part.cfg.defrost.pumpdownTime) }
            ∧ ∀ m ∈ b.members, (s.part.evaps.get m.evap).sub ≠ .fault → (t.part.evaps.get m.evap).sub = .pumpdown
                ∧ (t.part.evaps.get m.evap).overdueDl = none)
        ∧ ((s.part.zones.get z).mode ≠ .open →
            t.part.batches.get z = some { b with deadline := none } ∧ Within [.batches] (cleared s) t.part))
    ∧ (∀ z b, s.part.batches.get z = some b → b.phase = .pumpdown → reached b.deadline s.part.time = true →
      ∃ t, exec (.pumpdownDeadlineExpiry z) s = .next t ∧ t.pending = s.pending ∧ t.part.out = []
        ∧ heatingCount t.part ≤ max (heatingCount s.part) s.part.heatInForce
        ∧ (membersOwn s.part → 0 < s.part.cfg.defrost.maxHeat → (∃ m ∈ b.members, m.outcome = none) →
            (∃ b', t.part.batches.get z = some b' ∧ b'.phase = .heat ∧ b'.deadline = none ∧ b'.opened = b.opened)
              ∧ ∀ m ∈ b.members, m.outcome = none → (t.part.evaps.get m.evap).heatUsed = 0
                  ∧ ((t.part.evaps.get m.evap).sub = .waitSlot ∨ (t.part.evaps.get m.evap).sub = .heating)))
    ∧ (∀ z b, s.part.batches.get z = some b → b.phase = .drip → reached b.deadline s.part.time = true →
      ∃ t, exec (.dripDeadlineExpiry z) s = .next t ∧ t.pending = s.pending ∧ t.part.out = []
        ∧ ((∃ m ∈ b.members, (s.part.evaps.get m.evap).sub ≠ .fault) →
            t.part.batches.get z
                = some { b with
                    phase := .refreeze, deadline := some (addTime s.part.time s.part.cfg.defrost.refreezeMax)
                    members := b.members.map fun m => { m with fanStarted := false } }
              ∧ ∀ m ∈ b.members, (s.part.evaps.get m.evap).sub ≠ .fault → (t.part.evaps.get m.evap).sub = .refreeze))
    ∧ (∀ z b, s.part.batches.get z = some b → b.phase = .refreeze → reached b.deadline s.part.time = true → membersOwn s.part →
      ∃ t, exec (.refreezeMaximumExpiry z) s = .next t ∧ t.pending = s.pending ∧ t.part.out = []
        ∧ (∀ m ∈ b.members, (t.part.evaps.get m.evap).lastEnd = s.part.time
            ∧ (m.outcome = some .temp → (t.part.evaps.get m.evap).frost = 0)
            ∧ ((s.part.evaps.get m.evap).sub ≠ .fault → (t.part.evaps.get m.evap).sub = .idle)))
    ∧ (∀ z b, s.part.batches.get z = some b → b.suspended = true → reached b.suspensionDl s.part.time = true →
      ∃ t, exec (.suspensionDeadlineExpiry z) s = .next t ∧ t.pending = s.pending ∧ t.part.out = []
        ∧ (z = 0 → ∀ d, dockInService s.part d = true → (s.part.docks.get d).state = .opening ∨ (s.part.docks.get d).state = .open →
            (t.part.docks.get d).state = .closing)
        ∧ (z ≠ 0 → (s.part.zones.get z).mode ≠ .bulkPending → ∀ q, portalOf s.part z q = true → (s.part.portals.get q).pending = none →
            grantLive (s.part.portals.get q) = true → (t.part.portals.get q).openCommand = false)
        ∧ (∀ b', t.part.batches.get z = some b' → b'.phase = .heat →
            b'.suspensionDl = none ∧ (b'.suspended = true → b'.withdrawn = true)))
    ∧ (∀ e, (s.part.evaps.get e).sub = .heating → reached (s.part.evaps.get e).heatDl s.part.time = true →
      ∃ t, exec (.heatDeadlineExpiry e) s = .next t ∧ t.pending = s.pending ∧ t.part.out = []
        ∧ (t.part.evaps.get e).heatStart = none ∧ (t.part.evaps.get e).sub ≠ .heating
        ∧ (roomFor .defrostIncomplete (.evap e) s.part → notAcked .defrostIncomplete (.evap e) s.part →
            raisedNow .defrostIncomplete (.evap e) t.part))

/-! ### Alarms -/

/-- R179: ACK ALARM of one record, by its state and latching, and of ALL. The body of the OK of ALL, and the order of its events, are the
model's choices (notes/assumptions/4.md and 21.md). -/
def Obligations.AckAlarmActsByState : Prop :=
  ∀ (s : State) (p : Port) (tag : Byte) (body : List Byte), takes p s →
    let r := renewed p s
    let c := Instr.ackAlarm p tag body
    (∀ n k l, readAck body = some (.one n k l) →
      (n = 0 → readsOut c p 38 tag .badRequest [] s)
      ∧ (n ≠ 0 → (∀ a ∈ r.alarms.records, a.number ≠ n) → readsOut c p 38 tag .unknownId [] s)
      ∧ (∀ a, n ≠ 0 → a ∈ r.alarms.records → a.number = n → alarmNumbersUnique r →
          (a.repeats ≠ k ∨ a.lastRepeat ≠ l → readsOut c p 38 tag .stale (putAlarm a) s)
          ∧ (a.repeats = k → a.lastRepeat = l →
              (a.state = .activeAck → readsOut c p 38 tag .ok (putU8 2) s)
              ∧ (a.state = .activeUnack → a.kind.latched = false →
                  ∃ t, exec c s = .next t ∧ t.pending = s.pending ∧ answered p 38 tag .ok (putU8 2) t
                    ∧ t.part.alarms.records = r.alarms.records.map (fun b => if b = a then { a with state := .activeAck } else b)
                    ∧ t.part.alarms.relay = relayWanted t.part.alarms.records
                    ∧ placed r t.part [.alarmAcked a.number a.kind a.subject p] [.alarmAcked a.number a.kind a.subject p]
                    ∧ Within [.alarms, .ports] r t.part)
              ∧ ((a.state = .activeUnack ∧ a.kind.latched = true) ∨ a.state = .clearedUnack →
                  ∃ t, exec c s = .next t ∧ t.pending = s.pending ∧ answered p 38 tag .ok (putU8 4) t
                    ∧ t.part.alarms.records = r.alarms.records.erase a
                    ∧ t.part.alarms.relay = relayWanted t.part.alarms.records
                    ∧ placed r t.part [.alarmCleared a.number a.kind a.subject none .ack] [.alarmCleared a.number a.kind a.subject none .ack]
                    ∧ Within [.alarms, .ports] r t.part))))
    ∧ (readAck body = some .all → alarmNumbersUnique r →
      let goes (a : Alarm) : Bool := a.state == .clearedUnack || (a.state == .activeUnack && a.kind.latched)
      let rs := r.alarms.records
      ∃ t, exec c s = .next t ∧ t.pending = s.pending
        ∧ answered p 38 tag .ok (putU8 (rs.filter fun a => a.state != .activeAck).length ++ putU8 (rs.filter goes).length) t
        ∧ t.part.alarms.records = (rs.filter fun a => !goes a).map (fun a => { a with state := .activeAck })
        ∧ t.part.alarms.relay = (if rs.any fun a => a.state != .activeAck then false else r.alarms.relay)
        ∧ Within [.alarms, .ports] r t.part)

/-! ### Invariants: what every step keeps, from every state -/

/-- R190: no step lets a notice queue hold more than 64 notices. -/
def Obligations.QueuesStayBounded : Prop :=
  ∀ (s t : State), queuesBounded s.part → step s = .next t → queuesBounded t.part

/-- Section 9.1, R176, R179, R180: every step keeps the alarm table at 96 records at most, with no (kind, subject) and no number twice, and
every latched record in ACTIVE_UNACK. -/
def Obligations.AlarmTableStaysSound : Prop :=
  ∀ (s t : State), alarmsSound s.part → (1 ≤ s.part.alarms.nextNumber ∧ s.part.alarms.nextNumber ≤ 65535) →
    step s = .next t → alarmsSound t.part ∧ 1 ≤ t.part.alarms.nextNumber ∧ t.part.alarms.nextNumber ≤ 65535

/-- R182: every step leaves the relay energised exactly while the part operates and a CRITICAL record is ACTIVE_UNACK. -/
def Obligations.RelayFollowsTheAlarms : Prop :=
  ∀ (s t : State), relayRight s.part → supplyRight s.part → step s = .next t → relayRight t.part ∧ supplyRight t.part

/-- R107, R119: every step keeps one record for a pallet identifier, status MOVING exactly with a move in flight, and the credits in use equal to
the pallets in the hall plus the moves that hold a reservation. -/
def Obligations.CreditsInUseMatchTheTable : Prop :=
  ∀ (s t : State), tableSound s.part → step s = .next t → tableSound t.part

/-- R160: no step lets the evaporators in HEATING exceed the heat slot count in force. -/
def Obligations.HeatingNeverExceedsTheSlots : Prop :=
  ∀ (s t : State), heatWithinSlots s.part → step s = .next t → heatWithinSlots t.part

/-- R8, R154: every step keeps the members of a zone's batch distinct, in service and bound to that zone. -/
def Obligations.BatchMembersBelongToTheirZone : Prop :=
  ∀ (s t : State), membersOwn s.part → step s = .next t → membersOwn t.part

/-- R112, R118, R139: every step keeps every quarantined pallet without a move toward a dock door. -/
def Obligations.QuarantinedPalletsNeverMoveToADoor : Prop :=
  ∀ (s t : State), palletsUnique s.part → quarantineKept s.part → step s = .next t → quarantineKept t.part

/-- R136 to R138: while its record stays in the table, no step lowers a pallet's exposure or clears its warned and quarantined marks. -/
def Obligations.ExposureNeverDecreases : Prop :=
  ∀ (s t : State) (x y : Pallet), palletsUnique s.part → (∀ x ∈ s.part.pallets, x.exposure ≤ 2147483647) → step s = .next t →
    x ∈ s.part.pallets → y ∈ t.part.pallets → x.id = y.id →
    x.exposure ≤ y.exposure ∧ y.exposure ≤ 2147483647 ∧ (x.warned = true → y.warned = true)
      ∧ (x.quarantined = true → y.quarantined = true)

/-- The state after reset has every property that the steps keep. -/
def Obligations.ResetIsSafe : Prop := Safe State.reset.part

/-! ### Encodings -/

/-- R197, R198, R199, R201, R202: what is sent is read back. A configuration record whose fields lie in their ranges is read back whole from
the bytes READ SETTINGS returns for it; the bytes of a request frame, sent without a gap to a receiver in HUNT, are taken as one valid
frame with that content; a report frame with a body of the length its kind requires passes the checks of the loop and is read back with
its address, kind and body. Any check value used on both sides would satisfy this: `crc16` itself is pinned by the tests. -/
def Obligations.RecordsAndFramesAreReadBack : Prop :=
  (∀ w : Record, clampRecord w = w → namesDefined w = true → readRecord (putRecord w) = some ⟨w, true⟩)
  ∧ (∀ (code : Nat) (tag : Byte) (body : List Byte) (now : Nat), bodyFits body = true →
    receive .hunt ((requestFrame code tag body).map fun b => (now, b)) = (.hunt, [BitVec.ofNat 8 code :: tag :: body]))
  ∧ (∀ (a : StationId) (k : StationKind) (body : List Byte), k ≠ .none → reportLength k body = true →
    readReport (reportFrame a k body) = some ⟨a, k, body⟩)
end

