-- ==== Sys2Proof/Laws/State.lean ====
section
/-! SUPPORT. The small lemmas of the record updates: for each update one lemma per field it leaves alone, one for the entry it changes and
one for the other entries of its table. A later proof rewrites with these and unfolds no update. -/

namespace Sys2Proof.Machine

open Sys2Proof

/-! ### Tables -/

/-- Reading an entry is reading at its index. -/
theorem get_eq_getElem {α : Type} {n : Nat} (v : Vector α n) (i : Fin n) : v.get i = v[i.val] := rfl

@[simp] theorem upd_get_self {α : Type} {n : Nat} (v : Vector α n) (i : Fin n) (f : α → α) : (upd v i f).get i = f (v.get i) := by
  simp [upd, get_eq_getElem]

@[simp] theorem upd_get_ne {α : Type} {n : Nat} (v : Vector α n) {i j : Fin n} (f : α → α) (h : j ≠ i) :
    (upd v i f).get j = v.get j := by
  have : i.val ≠ j.val := fun e => h (Fin.ext e.symm)
  simp [upd, get_eq_getElem, this]

/-- An entry of an updated table. -/
theorem upd_get {α : Type} {n : Nat} (v : Vector α n) (i j : Fin n) (f : α → α) :
    (upd v i f).get j = if j = i then f (v.get j) else v.get j := by
  by_cases h : j = i
  · subst h; simp
  · simp [h]

@[simp] theorem table_get {α : Type} {n : Nat} (f : Fin n → α) (i : Fin n) : (table n f).get i = f i := by
  simp [table, get_eq_getElem]

/-! ### Entries -/

@[simp] theorem modZone_get (z : ZoneId) (f : Zone → Zone) (s : Part) : (modZone z f s).zones.get z = f (s.zones.get z) := by
  simp [modZone]

@[simp] theorem modZone_get_ne {z x : ZoneId} (f : Zone → Zone) (s : Part) (h : x ≠ z) :
    (modZone z f s).zones.get x = s.zones.get x := by
  simp [modZone, h]

@[simp] theorem modProbe_get (t : ProbeId) (f : Probe → Probe) (s : Part) : (modProbe t f s).probes.get t = f (s.probes.get t) := by
  simp [modProbe]

@[simp] theorem modProbe_get_ne {t x : ProbeId} (f : Probe → Probe) (s : Part) (h : x ≠ t) :
    (modProbe t f s).probes.get x = s.probes.get x := by
  simp [modProbe, h]

@[simp] theorem modDock_get (d : DoorId) (f : Dock → Dock) (s : Part) : (modDock d f s).docks.get d = f (s.docks.get d) := by
  simp [modDock]

@[simp] theorem modDock_get_ne {d x : DoorId} (f : Dock → Dock) (s : Part) (h : x ≠ d) :
    (modDock d f s).docks.get x = s.docks.get x := by
  simp [modDock, h]

@[simp] theorem modPortal_get (q : PortalId) (f : Portal → Portal) (s : Part) : (modPortal q f s).portals.get q = f (s.portals.get q) := by
  simp [modPortal]

@[simp] theorem modPortal_get_ne {q x : PortalId} (f : Portal → Portal) (s : Part) (h : x ≠ q) :
    (modPortal q f s).portals.get x = s.portals.get x := by
  simp [modPortal, h]

@[simp] theorem modSlot_get (d : DoorId) (f : Slot → Slot) (s : Part) : (modSlot d f s).slots.get d = f (s.slots.get d) := by
  simp [modSlot]

@[simp] theorem modSlot_get_ne {d x : DoorId} (f : Slot → Slot) (s : Part) (h : x ≠ d) :
    (modSlot d f s).slots.get x = s.slots.get x := by
  simp [modSlot, h]

@[simp] theorem modEvap_get (e : EvapId) (f : Evap → Evap) (s : Part) : (modEvap e f s).evaps.get e = f (s.evaps.get e) := by
  simp [modEvap]

@[simp] theorem modEvap_get_ne {e x : EvapId} (f : Evap → Evap) (s : Part) (h : x ≠ e) :
    (modEvap e f s).evaps.get x = s.evaps.get x := by
  simp [modEvap, h]

@[simp] theorem modBatch_get (z : ZoneId) (f : Batch → Batch) (s : Part) : (modBatch z f s).batches.get z = (s.batches.get z).map f := by
  simp [modBatch]

@[simp] theorem modBatch_get_ne {z x : ZoneId} (f : Batch → Batch) (s : Part) (h : x ≠ z) :
    (modBatch z f s).batches.get x = s.batches.get x := by
  simp [modBatch, h]

@[simp] theorem putBatch_get (z : ZoneId) (b : Option Batch) (s : Part) : (putBatch z b s).batches.get z = b := by
  simp [putBatch]

@[simp] theorem putBatch_get_ne {z x : ZoneId} (b : Option Batch) (s : Part) (h : x ≠ z) :
    (putBatch z b s).batches.get x = s.batches.get x := by
  simp [putBatch, h]

@[simp] theorem modStation_get (a : StationId) (f : Station → Station) (s : Part) :
    (modStation a f s).loop.stations.get a = f (s.loop.stations.get a) := by
  simp [modStation]

@[simp] theorem modStation_get_ne {a x : StationId} (f : Station → Station) (s : Part) (h : x ≠ a) :
    (modStation a f s).loop.stations.get x = s.loop.stations.get x := by
  simp [modStation, h]

@[simp] theorem modPort_port (p : Port) (f : PortRec → PortRec) (s : Part) : (modPort p f s).port p = f (s.port p) := by
  cases p <;> rfl

@[simp] theorem modPort_port_other (p : Port) (f : PortRec → PortRec) (s : Part) : (modPort p f s).port p.other = s.port p.other := by
  cases p <;> rfl

@[simp] theorem modAlarms_alarms (f : AlarmTable → AlarmTable) (s : Part) : (modAlarms f s).alarms = f s.alarms := rfl

@[simp] theorem send_out (o : Output) (s : Part) : (send o s).out = s.out ++ [o] := rfl

/-! ### Fields an update leaves alone -/

@[simp] theorem modZone_supply (z : ZoneId) (f : Zone → Zone) (s : Part) : (modZone z f s).supply = s.supply := rfl
@[simp] theorem modZone_cause (z : ZoneId) (f : Zone → Zone) (s : Part) : (modZone z f s).cause = s.cause := rfl
@[simp] theorem modZone_time (z : ZoneId) (f : Zone → Zone) (s : Part) : (modZone z f s).time = s.time := rfl
@[simp] theorem modZone_cfg (z : ZoneId) (f : Zone → Zone) (s : Part) : (modZone z f s).cfg = s.cfg := rfl
@[simp] theorem modZone_store (z : ZoneId) (f : Zone → Zone) (s : Part) : (modZone z f s).store = s.store := rfl
@[simp] theorem modZone_loop (z : ZoneId) (f : Zone → Zone) (s : Part) : (modZone z f s).loop = s.loop := rfl
@[simp] theorem modZone_probes (z : ZoneId) (f : Zone → Zone) (s : Part) : (modZone z f s).probes = s.probes := rfl
@[simp] theorem modZone_docks (z : ZoneId) (f : Zone → Zone) (s : Part) : (modZone z f s).docks = s.docks := rfl
@[simp] theorem modZone_portals (z : ZoneId) (f : Zone → Zone) (s : Part) : (modZone z f s).portals = s.portals := rfl
@[simp] theorem modZone_slots (z : ZoneId) (f : Zone → Zone) (s : Part) : (modZone z f s).slots = s.slots := rfl
@[simp] theorem modZone_pallets (z : ZoneId) (f : Zone → Zone) (s : Part) : (modZone z f s).pallets = s.pallets := rfl
@[simp] theorem modZone_credits (z : ZoneId) (f : Zone → Zone) (s : Part) : (modZone z f s).credits = s.credits := rfl
@[simp] theorem modZone_evaps (z : ZoneId) (f : Zone → Zone) (s : Part) : (modZone z f s).evaps = s.evaps := rfl
@[simp] theorem modZone_batches (z : ZoneId) (f : Zone → Zone) (s : Part) : (modZone z f s).batches = s.batches := rfl
@[simp] theorem modZone_heatCommanded (z : ZoneId) (f : Zone → Zone) (s : Part) : (modZone z f s).heatCommanded = s.heatCommanded := rfl
@[simp] theorem modZone_heatInForce (z : ZoneId) (f : Zone → Zone) (s : Part) : (modZone z f s).heatInForce = s.heatInForce := rfl
@[simp] theorem modZone_alarms (z : ZoneId) (f : Zone → Zone) (s : Part) : (modZone z f s).alarms = s.alarms := rfl
@[simp] theorem modZone_portPlant (z : ZoneId) (f : Zone → Zone) (s : Part) : (modZone z f s).portPlant = s.portPlant := rfl
@[simp] theorem modZone_portWarehouse (z : ZoneId) (f : Zone → Zone) (s : Part) : (modZone z f s).portWarehouse = s.portWarehouse := rfl
@[simp] theorem modZone_out (z : ZoneId) (f : Zone → Zone) (s : Part) : (modZone z f s).out = s.out := rfl
@[simp] theorem modZone_draws (z : ZoneId) (f : Zone → Zone) (s : Part) : (modZone z f s).draws = s.draws := rfl

@[simp] theorem modProbe_supply (t : ProbeId) (f : Probe → Probe) (s : Part) : (modProbe t f s).supply = s.supply := rfl
@[simp] theorem modProbe_cause (t : ProbeId) (f : Probe → Probe) (s : Part) : (modProbe t f s).cause = s.cause := rfl
@[simp] theorem modProbe_time (t : ProbeId) (f : Probe → Probe) (s : Part) : (modProbe t f s).time = s.time := rfl
@[simp] theorem modProbe_cfg (t : ProbeId) (f : Probe → Probe) (s : Part) : (modProbe t f s).cfg = s.cfg := rfl
@[simp] theorem modProbe_store (t : ProbeId) (f : Probe → Probe) (s : Part) : (modProbe t f s).store = s.store := rfl
@[simp] theorem modProbe_loop (t : ProbeId) (f : Probe → Probe) (s : Part) : (modProbe t f s).loop = s.loop := rfl
@[simp] theorem modProbe_zones (t : ProbeId) (f : Probe → Probe) (s : Part) : (modProbe t f s).zones = s.zones := rfl
@[simp] theorem modProbe_docks (t : ProbeId) (f : Probe → Probe) (s : Part) : (modProbe t f s).docks = s.docks := rfl
@[simp] theorem modProbe_portals (t : ProbeId) (f : Probe → Probe) (s : Part) : (modProbe t f s).portals = s.portals := rfl
@[simp] theorem modProbe_slots (t : ProbeId) (f : Probe → Probe) (s : Part) : (modProbe t f s).slots = s.slots := rfl
@[simp] theorem modProbe_pallets (t : ProbeId) (f : Probe → Probe) (s : Part) : (modProbe t f s).pallets = s.pallets := rfl
@[simp] theorem modProbe_credits (t : ProbeId) (f : Probe → Probe) (s : Part) : (modProbe t f s).credits = s.credits := rfl
@[simp] theorem modProbe_evaps (t : ProbeId) (f : Probe → Probe) (s : Part) : (modProbe t f s).evaps = s.evaps := rfl
@[simp] theorem modProbe_batches (t : ProbeId) (f : Probe → Probe) (s : Part) : (modProbe t f s).batches = s.batches := rfl
@[simp] theorem modProbe_heatCommanded (t : ProbeId) (f : Probe → Probe) (s : Part) : (modProbe t f s).heatCommanded = s.heatCommanded := rfl
@[simp] theorem modProbe_heatInForce (t : ProbeId) (f : Probe → Probe) (s : Part) : (modProbe t f s).heatInForce = s.heatInForce := rfl
@[simp] theorem modProbe_alarms (t : ProbeId) (f : Probe → Probe) (s : Part) : (modProbe t f s).alarms = s.alarms := rfl
@[simp] theorem modProbe_portPlant (t : ProbeId) (f : Probe → Probe) (s : Part) : (modProbe t f s).portPlant = s.portPlant := rfl
@[simp] theorem modProbe_portWarehouse (t : ProbeId) (f : Probe → Probe) (s : Part) : (modProbe t f s).portWarehouse = s.portWarehouse := rfl
@[simp] theorem modProbe_out (t : ProbeId) (f : Probe → Probe) (s : Part) : (modProbe t f s).out = s.out := rfl
@[simp] theorem modProbe_draws (t : ProbeId) (f : Probe → Probe) (s : Part) : (modProbe t f s).draws = s.draws := rfl

@[simp] theorem modDock_supply (d : DoorId) (f : Dock → Dock) (s : Part) : (modDock d f s).supply = s.supply := rfl
@[simp] theorem modDock_cause (d : DoorId) (f : Dock → Dock) (s : Part) : (modDock d f s).cause = s.cause := rfl
@[simp] theorem modDock_time (d : DoorId) (f : Dock → Dock) (s : Part) : (modDock d f s).time = s.time := rfl
@[simp] theorem modDock_cfg (d : DoorId) (f : Dock → Dock) (s : Part) : (modDock d f s).cfg = s.cfg := rfl
@[simp] theorem modDock_store (d : DoorId) (f : Dock → Dock) (s : Part) : (modDock d f s).store = s.store := rfl
@[simp] theorem modDock_loop (d : DoorId) (f : Dock → Dock) (s : Part) : (modDock d f s).loop = s.loop := rfl
@[simp] theorem modDock_zones (d : DoorId) (f : Dock → Dock) (s : Part) : (modDock d f s).zones = s.zones := rfl
@[simp] theorem modDock_probes (d : DoorId) (f : Dock → Dock) (s : Part) : (modDock d f s).probes = s.probes := rfl
@[simp] theorem modDock_portals (d : DoorId) (f : Dock → Dock) (s : Part) : (modDock d f s).portals = s.portals := rfl
@[simp] theorem modDock_slots (d : DoorId) (f : Dock → Dock) (s : Part) : (modDock d f s).slots = s.slots := rfl
@[simp] theorem modDock_pallets (d : DoorId) (f : Dock → Dock) (s : Part) : (modDock d f s).pallets = s.pallets := rfl
@[simp] theorem modDock_credits (d : DoorId) (f : Dock → Dock) (s : Part) : (modDock d f s).credits = s.credits := rfl
@[simp] theorem modDock_evaps (d : DoorId) (f : Dock → Dock) (s : Part) : (modDock d f s).evaps = s.evaps := rfl
@[simp] theorem modDock_batches (d : DoorId) (f : Dock → Dock) (s : Part) : (modDock d f s).batches = s.batches := rfl
@[simp] theorem modDock_heatCommanded (d : DoorId) (f : Dock → Dock) (s : Part) : (modDock d f s).heatCommanded = s.heatCommanded := rfl
@[simp] theorem modDock_heatInForce (d : DoorId) (f : Dock → Dock) (s : Part) : (modDock d f s).heatInForce = s.heatInForce := rfl
@[simp] theorem modDock_alarms (d : DoorId) (f : Dock → Dock) (s : Part) : (modDock d f s).alarms = s.alarms := rfl
@[simp] theorem modDock_portPlant (d : DoorId) (f : Dock → Dock) (s : Part) : (modDock d f s).portPlant = s.portPlant := rfl
@[simp] theorem modDock_portWarehouse (d : DoorId) (f : Dock → Dock) (s : Part) : (modDock d f s).portWarehouse = s.portWarehouse := rfl
@[simp] theorem modDock_out (d : DoorId) (f : Dock → Dock) (s : Part) : (modDock d f s).out = s.out := rfl
@[simp] theorem modDock_draws (d : DoorId) (f : Dock → Dock) (s : Part) : (modDock d f s).draws = s.draws := rfl

@[simp] theorem modPortal_supply (q : PortalId) (f : Portal → Portal) (s : Part) : (modPortal q f s).supply = s.supply := rfl
@[simp] theorem modPortal_cause (q : PortalId) (f : Portal → Portal) (s : Part) : (modPortal q f s).cause = s.cause := rfl
@[simp] theorem modPortal_time (q : PortalId) (f : Portal → Portal) (s : Part) : (modPortal q f s).time = s.time := rfl
@[simp] theorem modPortal_cfg (q : PortalId) (f : Portal → Portal) (s : Part) : (modPortal q f s).cfg = s.cfg := rfl
@[simp] theorem modPortal_store (q : PortalId) (f : Portal → Portal) (s : Part) : (modPortal q f s).store = s.store := rfl
@[simp] theorem modPortal_loop (q : PortalId) (f : Portal → Portal) (s : Part) : (modPortal q f s).loop = s.loop := rfl
@[simp] theorem modPortal_zones (q : PortalId) (f : Portal → Portal) (s : Part) : (modPortal q f s).zones = s.zones := rfl
@[simp] theorem modPortal_probes (q : PortalId) (f : Portal → Portal) (s : Part) : (modPortal q f s).probes = s.probes := rfl
@[simp] theorem modPortal_docks (q : PortalId) (f : Portal → Portal) (s : Part) : (modPortal q f s).docks = s.docks := rfl
@[simp] theorem modPortal_slots (q : PortalId) (f : Portal → Portal) (s : Part) : (modPortal q f s).slots = s.slots := rfl
@[simp] theorem modPortal_pallets (q : PortalId) (f : Portal → Portal) (s : Part) : (modPortal q f s).pallets = s.pallets := rfl
@[simp] theorem modPortal_credits (q : PortalId) (f : Portal → Portal) (s : Part) : (modPortal q f s).credits = s.credits := rfl
@[simp] theorem modPortal_evaps (q : PortalId) (f : Portal → Portal) (s : Part) : (modPortal q f s).evaps = s.evaps := rfl
@[simp] theorem modPortal_batches (q : PortalId) (f : Portal → Portal) (s : Part) : (modPortal q f s).batches = s.batches := rfl
@[simp] theorem modPortal_heatCommanded (q : PortalId) (f : Portal → Portal) (s : Part) : (modPortal q f s).heatCommanded = s.heatCommanded := rfl
@[simp] theorem modPortal_heatInForce (q : PortalId) (f : Portal → Portal) (s : Part) : (modPortal q f s).heatInForce = s.heatInForce := rfl
@[simp] theorem modPortal_alarms (q : PortalId) (f : Portal → Portal) (s : Part) : (modPortal q f s).alarms = s.alarms := rfl
@[simp] theorem modPortal_portPlant (q : PortalId) (f : Portal → Portal) (s : Part) : (modPortal q f s).portPlant = s.portPlant := rfl
@[simp] theorem modPortal_portWarehouse (q : PortalId) (f : Portal → Portal) (s : Part) : (modPortal q f s).portWarehouse = s.portWarehouse := rfl
@[simp] theorem modPortal_out (q : PortalId) (f : Portal → Portal) (s : Part) : (modPortal q f s).out = s.out := rfl
@[simp] theorem modPortal_draws (q : PortalId) (f : Portal → Portal) (s : Part) : (modPortal q f s).draws = s.draws := rfl

@[simp] theorem modSlot_supply (d : DoorId) (f : Slot → Slot) (s : Part) : (modSlot d f s).supply = s.supply := rfl
@[simp] theorem modSlot_cause (d : DoorId) (f : Slot → Slot) (s : Part) : (modSlot d f s).cause = s.cause := rfl
@[simp] theorem modSlot_time (d : DoorId) (f : Slot → Slot) (s : Part) : (modSlot d f s).time = s.time := rfl
@[simp] theorem modSlot_cfg (d : DoorId) (f : Slot → Slot) (s : Part) : (modSlot d f s).cfg = s.cfg := rfl
@[simp] theorem modSlot_store (d : DoorId) (f : Slot → Slot) (s : Part) : (modSlot d f s).store = s.store := rfl
@[simp] theorem modSlot_loop (d : DoorId) (f : Slot → Slot) (s : Part) : (modSlot d f s).loop = s.loop := rfl
@[simp] theorem modSlot_zones (d : DoorId) (f : Slot → Slot) (s : Part) : (modSlot d f s).zones = s.zones := rfl
@[simp] theorem modSlot_probes (d : DoorId) (f : Slot → Slot) (s : Part) : (modSlot d f s).probes = s.probes := rfl
@[simp] theorem modSlot_docks (d : DoorId) (f : Slot → Slot) (s : Part) : (modSlot d f s).docks = s.docks := rfl
@[simp] theorem modSlot_portals (d : DoorId) (f : Slot → Slot) (s : Part) : (modSlot d f s).portals = s.portals := rfl
@[simp] theorem modSlot_pallets (d : DoorId) (f : Slot → Slot) (s : Part) : (modSlot d f s).pallets = s.pallets := rfl
@[simp] theorem modSlot_credits (d : DoorId) (f : Slot → Slot) (s : Part) : (modSlot d f s).credits = s.credits := rfl
@[simp] theorem modSlot_evaps (d : DoorId) (f : Slot → Slot) (s : Part) : (modSlot d f s).evaps = s.evaps := rfl
@[simp] theorem modSlot_batches (d : DoorId) (f : Slot → Slot) (s : Part) : (modSlot d f s).batches = s.batches := rfl
@[simp] theorem modSlot_heatCommanded (d : DoorId) (f : Slot → Slot) (s : Part) : (modSlot d f s).heatCommanded = s.heatCommanded := rfl
@[simp] theorem modSlot_heatInForce (d : DoorId) (f : Slot → Slot) (s : Part) : (modSlot d f s).heatInForce = s.heatInForce := rfl
@[simp] theorem modSlot_alarms (d : DoorId) (f : Slot → Slot) (s : Part) : (modSlot d f s).alarms = s.alarms := rfl
@[simp] theorem modSlot_portPlant (d : DoorId) (f : Slot → Slot) (s : Part) : (modSlot d f s).portPlant = s.portPlant := rfl
@[simp] theorem modSlot_portWarehouse (d : DoorId) (f : Slot → Slot) (s : Part) : (modSlot d f s).portWarehouse = s.portWarehouse := rfl
@[simp] theorem modSlot_out (d : DoorId) (f : Slot → Slot) (s : Part) : (modSlot d f s).out = s.out := rfl
@[simp] theorem modSlot_draws (d : DoorId) (f : Slot → Slot) (s : Part) : (modSlot d f s).draws = s.draws := rfl

@[simp] theorem modEvap_supply (e : EvapId) (f : Evap → Evap) (s : Part) : (modEvap e f s).supply = s.supply := rfl
@[simp] theorem modEvap_cause (e : EvapId) (f : Evap → Evap) (s : Part) : (modEvap e f s).cause = s.cause := rfl
@[simp] theorem modEvap_time (e : EvapId) (f : Evap → Evap) (s : Part) : (modEvap e f s).time = s.time := rfl
@[simp] theorem modEvap_cfg (e : EvapId) (f : Evap → Evap) (s : Part) : (modEvap e f s).cfg = s.cfg := rfl
@[simp] theorem modEvap_store (e : EvapId) (f : Evap → Evap) (s : Part) : (modEvap e f s).store = s.store := rfl
@[simp] theorem modEvap_loop (e : EvapId) (f : Evap → Evap) (s : Part) : (modEvap e f s).loop = s.loop := rfl
@[simp] theorem modEvap_zones (e : EvapId) (f : Evap → Evap) (s : Part) : (modEvap e f s).zones = s.zones := rfl
@[simp] theorem modEvap_probes (e : EvapId) (f : Evap → Evap) (s : Part) : (modEvap e f s).probes = s.probes := rfl
@[simp] theorem modEvap_docks (e : EvapId) (f : Evap → Evap) (s : Part) : (modEvap e f s).docks = s.docks := rfl
@[simp] theorem modEvap_portals (e : EvapId) (f : Evap → Evap) (s : Part) : (modEvap e f s).portals = s.portals := rfl
@[simp] theorem modEvap_slots (e : EvapId) (f : Evap → Evap) (s : Part) : (modEvap e f s).slots = s.slots := rfl
@[simp] theorem modEvap_pallets (e : EvapId) (f : Evap → Evap) (s : Part) : (modEvap e f s).pallets = s.pallets := rfl
@[simp] theorem modEvap_credits (e : EvapId) (f : Evap → Evap) (s : Part) : (modEvap e f s).credits = s.credits := rfl
@[simp] theorem modEvap_batches (e : EvapId) (f : Evap → Evap) (s : Part) : (modEvap e f s).batches = s.batches := rfl
@[simp] theorem modEvap_heatCommanded (e : EvapId) (f : Evap → Evap) (s : Part) : (modEvap e f s).heatCommanded = s.heatCommanded := rfl
@[simp] theorem modEvap_heatInForce (e : EvapId) (f : Evap → Evap) (s : Part) : (modEvap e f s).heatInForce = s.heatInForce := rfl
@[simp] theorem modEvap_alarms (e : EvapId) (f : Evap → Evap) (s : Part) : (modEvap e f s).alarms = s.alarms := rfl
@[simp] theorem modEvap_portPlant (e : EvapId) (f : Evap → Evap) (s : Part) : (modEvap e f s).portPlant = s.portPlant := rfl
@[simp] theorem modEvap_portWarehouse (e : EvapId) (f : Evap → Evap) (s : Part) : (modEvap e f s).portWarehouse = s.portWarehouse := rfl
@[simp] theorem modEvap_out (e : EvapId) (f : Evap → Evap) (s : Part) : (modEvap e f s).out = s.out := rfl
@[simp] theorem modEvap_draws (e : EvapId) (f : Evap → Evap) (s : Part) : (modEvap e f s).draws = s.draws := rfl

@[simp] theorem modBatch_supply (z : ZoneId) (f : Batch → Batch) (s : Part) : (modBatch z f s).supply = s.supply := rfl
@[simp] theorem modBatch_cause (z : ZoneId) (f : Batch → Batch) (s : Part) : (modBatch z f s).cause = s.cause := rfl
@[simp] theorem modBatch_time (z : ZoneId) (f : Batch → Batch) (s : Part) : (modBatch z f s).time = s.time := rfl
@[simp] theorem modBatch_cfg (z : ZoneId) (f : Batch → Batch) (s : Part) : (modBatch z f s).cfg = s.cfg := rfl
@[simp] theorem modBatch_store (z : ZoneId) (f : Batch → Batch) (s : Part) : (modBatch z f s).store = s.store := rfl
@[simp] theorem modBatch_loop (z : ZoneId) (f : Batch → Batch) (s : Part) : (modBatch z f s).loop = s.loop := rfl
@[simp] theorem modBatch_zones (z : ZoneId) (f : Batch → Batch) (s : Part) : (modBatch z f s).zones = s.zones := rfl
@[simp] theorem modBatch_probes (z : ZoneId) (f : Batch → Batch) (s : Part) : (modBatch z f s).probes = s.probes := rfl
@[simp] theorem modBatch_docks (z : ZoneId) (f : Batch → Batch) (s : Part) : (modBatch z f s).docks = s.docks := rfl
@[simp] theorem modBatch_portals (z : ZoneId) (f : Batch → Batch) (s : Part) : (modBatch z f s).portals = s.portals := rfl
@[simp] theorem modBatch_slots (z : ZoneId) (f : Batch → Batch) (s : Part) : (modBatch z f s).slots = s.slots := rfl
@[simp] theorem modBatch_pallets (z : ZoneId) (f : Batch → Batch) (s : Part) : (modBatch z f s).pallets = s.pallets := rfl
@[simp] theorem modBatch_credits (z : ZoneId) (f : Batch → Batch) (s : Part) : (modBatch z f s).credits = s.credits := rfl
@[simp] theorem modBatch_evaps (z : ZoneId) (f : Batch → Batch) (s : Part) : (modBatch z f s).evaps = s.evaps := rfl
@[simp] theorem modBatch_heatCommanded (z : ZoneId) (f : Batch → Batch) (s : Part) : (modBatch z f s).heatCommanded = s.heatCommanded := rfl
@[simp] theorem modBatch_heatInForce (z : ZoneId) (f : Batch → Batch) (s : Part) : (modBatch z f s).heatInForce = s.heatInForce := rfl
@[simp] theorem modBatch_alarms (z : ZoneId) (f : Batch → Batch) (s : Part) : (modBatch z f s).alarms = s.alarms := rfl
@[simp] theorem modBatch_portPlant (z : ZoneId) (f : Batch → Batch) (s : Part) : (modBatch z f s).portPlant = s.portPlant := rfl
@[simp] theorem modBatch_portWarehouse (z : ZoneId) (f : Batch → Batch) (s : Part) : (modBatch z f s).portWarehouse = s.portWarehouse := rfl
@[simp] theorem modBatch_out (z : ZoneId) (f : Batch → Batch) (s : Part) : (modBatch z f s).out = s.out := rfl
@[simp] theorem modBatch_draws (z : ZoneId) (f : Batch → Batch) (s : Part) : (modBatch z f s).draws = s.draws := rfl

@[simp] theorem putBatch_supply (z : ZoneId) (b : Option Batch) (s : Part) : (putBatch z b s).supply = s.supply := rfl
@[simp] theorem putBatch_cause (z : ZoneId) (b : Option Batch) (s : Part) : (putBatch z b s).cause = s.cause := rfl
@[simp] theorem putBatch_time (z : ZoneId) (b : Option Batch) (s : Part) : (putBatch z b s).time = s.time := rfl
@[simp] theorem putBatch_cfg (z : ZoneId) (b : Option Batch) (s : Part) : (putBatch z b s).cfg = s.cfg := rfl
@[simp] theorem putBatch_store (z : ZoneId) (b : Option Batch) (s : Part) : (putBatch z b s).store = s.store := rfl
@[simp] theorem putBatch_loop (z : ZoneId) (b : Option Batch) (s : Part) : (putBatch z b s).loop = s.loop := rfl
@[simp] theorem putBatch_zones (z : ZoneId) (b : Option Batch) (s : Part) : (putBatch z b s).zones = s.zones := rfl
@[simp] theorem putBatch_probes (z : ZoneId) (b : Option Batch) (s : Part) : (putBatch z b s).probes = s.probes := rfl
@[simp] theorem putBatch_docks (z : ZoneId) (b : Option Batch) (s : Part) : (putBatch z b s).docks = s.docks := rfl
@[simp] theorem putBatch_portals (z : ZoneId) (b : Option Batch) (s : Part) : (putBatch z b s).portals = s.portals := rfl
@[simp] theorem putBatch_slots (z : ZoneId) (b : Option Batch) (s : Part) : (putBatch z b s).slots = s.slots := rfl
@[simp] theorem putBatch_pallets (z : ZoneId) (b : Option Batch) (s : Part) : (putBatch z b s).pallets = s.pallets := rfl
@[simp] theorem putBatch_credits (z : ZoneId) (b : Option Batch) (s : Part) : (putBatch z b s).credits = s.credits := rfl
@[simp] theorem putBatch_evaps (z : ZoneId) (b : Option Batch) (s : Part) : (putBatch z b s).evaps = s.evaps := rfl
@[simp] theorem putBatch_heatCommanded (z : ZoneId) (b : Option Batch) (s : Part) : (putBatch z b s).heatCommanded = s.heatCommanded := rfl
@[simp] theorem putBatch_heatInForce (z : ZoneId) (b : Option Batch) (s : Part) : (putBatch z b s).heatInForce = s.heatInForce := rfl
@[simp] theorem putBatch_alarms (z : ZoneId) (b : Option Batch) (s : Part) : (putBatch z b s).alarms = s.alarms := rfl
@[simp] theorem putBatch_portPlant (z : ZoneId) (b : Option Batch) (s : Part) : (putBatch z b s).portPlant = s.portPlant := rfl
@[simp] theorem putBatch_portWarehouse (z : ZoneId) (b : Option Batch) (s : Part) : (putBatch z b s).portWarehouse = s.portWarehouse := rfl
@[simp] theorem putBatch_out (z : ZoneId) (b : Option Batch) (s : Part) : (putBatch z b s).out = s.out := rfl
@[simp] theorem putBatch_draws (z : ZoneId) (b : Option Batch) (s : Part) : (putBatch z b s).draws = s.draws := rfl

@[simp] theorem modStation_supply (a : StationId) (f : Station → Station) (s : Part) : (modStation a f s).supply = s.supply := rfl
@[simp] theorem modStation_cause (a : StationId) (f : Station → Station) (s : Part) : (modStation a f s).cause = s.cause := rfl
@[simp] theorem modStation_time (a : StationId) (f : Station → Station) (s : Part) : (modStation a f s).time = s.time := rfl
@[simp] theorem modStation_cfg (a : StationId) (f : Station → Station) (s : Part) : (modStation a f s).cfg = s.cfg := rfl
@[simp] theorem modStation_store (a : StationId) (f : Station → Station) (s : Part) : (modStation a f s).store = s.store := rfl
@[simp] theorem modStation_zones (a : StationId) (f : Station → Station) (s : Part) : (modStation a f s).zones = s.zones := rfl
@[simp] theorem modStation_probes (a : StationId) (f : Station → Station) (s : Part) : (modStation a f s).probes = s.probes := rfl
@[simp] theorem modStation_docks (a : StationId) (f : Station → Station) (s : Part) : (modStation a f s).docks = s.docks := rfl
@[simp] theorem modStation_portals (a : StationId) (f : Station → Station) (s : Part) : (modStation a f s).portals = s.portals := rfl
@[simp] theorem modStation_slots (a : StationId) (f : Station → Station) (s : Part) : (modStation a f s).slots = s.slots := rfl
@[simp] theorem modStation_pallets (a : StationId) (f : Station → Station) (s : Part) : (modStation a f s).pallets = s.pallets := rfl
@[simp] theorem modStation_credits (a : StationId) (f : Station → Station) (s : Part) : (modStation a f s).credits = s.credits := rfl
@[simp] theorem modStation_evaps (a : StationId) (f : Station → Station) (s : Part) : (modStation a f s).evaps = s.evaps := rfl
@[simp] theorem modStation_batches (a : StationId) (f : Station → Station) (s : Part) : (modStation a f s).batches = s.batches := rfl
@[simp] theorem modStation_heatCommanded (a : StationId) (f : Station → Station) (s : Part) : (modStation a f s).heatCommanded = s.heatCommanded := rfl
@[simp] theorem modStation_heatInForce (a : StationId) (f : Station → Station) (s : Part) : (modStation a f s).heatInForce = s.heatInForce := rfl
@[simp] theorem modStation_alarms (a : StationId) (f : Station → Station) (s : Part) : (modStation a f s).alarms = s.alarms := rfl
@[simp] theorem modStation_portPlant (a : StationId) (f : Station → Station) (s : Part) : (modStation a f s).portPlant = s.portPlant := rfl
@[simp] theorem modStation_portWarehouse (a : StationId) (f : Station → Station) (s : Part) : (modStation a f s).portWarehouse = s.portWarehouse := rfl
@[simp] theorem modStation_out (a : StationId) (f : Station → Station) (s : Part) : (modStation a f s).out = s.out := rfl
@[simp] theorem modStation_draws (a : StationId) (f : Station → Station) (s : Part) : (modStation a f s).draws = s.draws := rfl

@[simp] theorem modLoop_supply (f : Loop → Loop) (s : Part) : (modLoop f s).supply = s.supply := rfl
@[simp] theorem modLoop_cause (f : Loop → Loop) (s : Part) : (modLoop f s).cause = s.cause := rfl
@[simp] theorem modLoop_time (f : Loop → Loop) (s : Part) : (modLoop f s).time = s.time := rfl
@[simp] theorem modLoop_cfg (f : Loop → Loop) (s : Part) : (modLoop f s).cfg = s.cfg := rfl
@[simp] theorem modLoop_store (f : Loop → Loop) (s : Part) : (modLoop f s).store = s.store := rfl
@[simp] theorem modLoop_zones (f : Loop → Loop) (s : Part) : (modLoop f s).zones = s.zones := rfl
@[simp] theorem modLoop_probes (f : Loop → Loop) (s : Part) : (modLoop f s).probes = s.probes := rfl
@[simp] theorem modLoop_docks (f : Loop → Loop) (s : Part) : (modLoop f s).docks = s.docks := rfl
@[simp] theorem modLoop_portals (f : Loop → Loop) (s : Part) : (modLoop f s).portals = s.portals := rfl
@[simp] theorem modLoop_slots (f : Loop → Loop) (s : Part) : (modLoop f s).slots = s.slots := rfl
@[simp] theorem modLoop_pallets (f : Loop → Loop) (s : Part) : (modLoop f s).pallets = s.pallets := rfl
@[simp] theorem modLoop_credits (f : Loop → Loop) (s : Part) : (modLoop f s).credits = s.credits := rfl
@[simp] theorem modLoop_evaps (f : Loop → Loop) (s : Part) : (modLoop f s).evaps = s.evaps := rfl
@[simp] theorem modLoop_batches (f : Loop → Loop) (s : Part) : (modLoop f s).batches = s.batches := rfl
@[simp] theorem modLoop_heatCommanded (f : Loop → Loop) (s : Part) : (modLoop f s).heatCommanded = s.heatCommanded := rfl
@[simp] theorem modLoop_heatInForce (f : Loop → Loop) (s : Part) : (modLoop f s).heatInForce = s.heatInForce := rfl
@[simp] theorem modLoop_alarms (f : Loop → Loop) (s : Part) : (modLoop f s).alarms = s.alarms := rfl
@[simp] theorem modLoop_portPlant (f : Loop → Loop) (s : Part) : (modLoop f s).portPlant = s.portPlant := rfl
@[simp] theorem modLoop_portWarehouse (f : Loop → Loop) (s : Part) : (modLoop f s).portWarehouse = s.portWarehouse := rfl
@[simp] theorem modLoop_out (f : Loop → Loop) (s : Part) : (modLoop f s).out = s.out := rfl
@[simp] theorem modLoop_draws (f : Loop → Loop) (s : Part) : (modLoop f s).draws = s.draws := rfl

@[simp] theorem modAlarms_supply (f : AlarmTable → AlarmTable) (s : Part) : (modAlarms f s).supply = s.supply := rfl
@[simp] theorem modAlarms_cause (f : AlarmTable → AlarmTable) (s : Part) : (modAlarms f s).cause = s.cause := rfl
@[simp] theorem modAlarms_time (f : AlarmTable → AlarmTable) (s : Part) : (modAlarms f s).time = s.time := rfl
@[simp] theorem modAlarms_cfg (f : AlarmTable → AlarmTable) (s : Part) : (modAlarms f s).cfg = s.cfg := rfl
@[simp] theorem modAlarms_store (f : AlarmTable → AlarmTable) (s : Part) : (modAlarms f s).store = s.store := rfl
@[simp] theorem modAlarms_loop (f : AlarmTable → AlarmTable) (s : Part) : (modAlarms f s).loop = s.loop := rfl
@[simp] theorem modAlarms_zones (f : AlarmTable → AlarmTable) (s : Part) : (modAlarms f s).zones = s.zones := rfl
@[simp] theorem modAlarms_probes (f : AlarmTable → AlarmTable) (s : Part) : (modAlarms f s).probes = s.probes := rfl
@[simp] theorem modAlarms_docks (f : AlarmTable → AlarmTable) (s : Part) : (modAlarms f s).docks = s.docks := rfl
@[simp] theorem modAlarms_portals (f : AlarmTable → AlarmTable) (s : Part) : (modAlarms f s).portals = s.portals := rfl
@[simp] theorem modAlarms_slots (f : AlarmTable → AlarmTable) (s : Part) : (modAlarms f s).slots = s.slots := rfl
@[simp] theorem modAlarms_pallets (f : AlarmTable → AlarmTable) (s : Part) : (modAlarms f s).pallets = s.pallets := rfl
@[simp] theorem modAlarms_credits (f : AlarmTable → AlarmTable) (s : Part) : (modAlarms f s).credits = s.credits := rfl
@[simp] theorem modAlarms_evaps (f : AlarmTable → AlarmTable) (s : Part) : (modAlarms f s).evaps = s.evaps := rfl
@[simp] theorem modAlarms_batches (f : AlarmTable → AlarmTable) (s : Part) : (modAlarms f s).batches = s.batches := rfl
@[simp] theorem modAlarms_heatCommanded (f : AlarmTable → AlarmTable) (s : Part) : (modAlarms f s).heatCommanded = s.heatCommanded := rfl
@[simp] theorem modAlarms_heatInForce (f : AlarmTable → AlarmTable) (s : Part) : (modAlarms f s).heatInForce = s.heatInForce := rfl
@[simp] theorem modAlarms_portPlant (f : AlarmTable → AlarmTable) (s : Part) : (modAlarms f s).portPlant = s.portPlant := rfl
@[simp] theorem modAlarms_portWarehouse (f : AlarmTable → AlarmTable) (s : Part) : (modAlarms f s).portWarehouse = s.portWarehouse := rfl
@[simp] theorem modAlarms_out (f : AlarmTable → AlarmTable) (s : Part) : (modAlarms f s).out = s.out := rfl
@[simp] theorem modAlarms_draws (f : AlarmTable → AlarmTable) (s : Part) : (modAlarms f s).draws = s.draws := rfl

@[simp] theorem modSupply_cause (f : Supply → Supply) (s : Part) : (modSupply f s).cause = s.cause := rfl
@[simp] theorem modSupply_time (f : Supply → Supply) (s : Part) : (modSupply f s).time = s.time := rfl
@[simp] theorem modSupply_cfg (f : Supply → Supply) (s : Part) : (modSupply f s).cfg = s.cfg := rfl
@[simp] theorem modSupply_store (f : Supply → Supply) (s : Part) : (modSupply f s).store = s.store := rfl
@[simp] theorem modSupply_loop (f : Supply → Supply) (s : Part) : (modSupply f s).loop = s.loop := rfl
@[simp] theorem modSupply_zones (f : Supply → Supply) (s : Part) : (modSupply f s).zones = s.zones := rfl
@[simp] theorem modSupply_probes (f : Supply → Supply) (s : Part) : (modSupply f s).probes = s.probes := rfl
@[simp] theorem modSupply_docks (f : Supply → Supply) (s : Part) : (modSupply f s).docks = s.docks := rfl
@[simp] theorem modSupply_portals (f : Supply → Supply) (s : Part) : (modSupply f s).portals = s.portals := rfl
@[simp] theorem modSupply_slots (f : Supply → Supply) (s : Part) : (modSupply f s).slots = s.slots := rfl
@[simp] theorem modSupply_pallets (f : Supply → Supply) (s : Part) : (modSupply f s).pallets = s.pallets := rfl
@[simp] theorem modSupply_credits (f : Supply → Supply) (s : Part) : (modSupply f s).credits = s.credits := rfl
@[simp] theorem modSupply_evaps (f : Supply → Supply) (s : Part) : (modSupply f s).evaps = s.evaps := rfl
@[simp] theorem modSupply_batches (f : Supply → Supply) (s : Part) : (modSupply f s).batches = s.batches := rfl
@[simp] theorem modSupply_heatCommanded (f : Supply → Supply) (s : Part) : (modSupply f s).heatCommanded = s.heatCommanded := rfl
@[simp] theorem modSupply_heatInForce (f : Supply → Supply) (s : Part) : (modSupply f s).heatInForce = s.heatInForce := rfl
@[simp] theorem modSupply_alarms (f : Supply → Supply) (s : Part) : (modSupply f s).alarms = s.alarms := rfl
@[simp] theorem modSupply_portPlant (f : Supply → Supply) (s : Part) : (modSupply f s).portPlant = s.portPlant := rfl
@[simp] theorem modSupply_portWarehouse (f : Supply → Supply) (s : Part) : (modSupply f s).portWarehouse = s.portWarehouse := rfl
@[simp] theorem modSupply_out (f : Supply → Supply) (s : Part) : (modSupply f s).out = s.out := rfl
@[simp] theorem modSupply_draws (f : Supply → Supply) (s : Part) : (modSupply f s).draws = s.draws := rfl

@[simp] theorem modPallet_supply (i : Nat) (f : Pallet → Pallet) (s : Part) : (modPallet i f s).supply = s.supply := rfl
@[simp] theorem modPallet_cause (i : Nat) (f : Pallet → Pallet) (s : Part) : (modPallet i f s).cause = s.cause := rfl
@[simp] theorem modPallet_time (i : Nat) (f : Pallet → Pallet) (s : Part) : (modPallet i f s).time = s.time := rfl
@[simp] theorem modPallet_cfg (i : Nat) (f : Pallet → Pallet) (s : Part) : (modPallet i f s).cfg = s.cfg := rfl
@[simp] theorem modPallet_store (i : Nat) (f : Pallet → Pallet) (s : Part) : (modPallet i f s).store = s.store := rfl
@[simp] theorem modPallet_loop (i : Nat) (f : Pallet → Pallet) (s : Part) : (modPallet i f s).loop = s.loop := rfl
@[simp] theorem modPallet_zones (i : Nat) (f : Pallet → Pallet) (s : Part) : (modPallet i f s).zones = s.zones := rfl
@[simp] theorem modPallet_probes (i : Nat) (f : Pallet → Pallet) (s : Part) : (modPallet i f s).probes = s.probes := rfl
@[simp] theorem modPallet_docks (i : Nat) (f : Pallet → Pallet) (s : Part) : (modPallet i f s).docks = s.docks := rfl
@[simp] theorem modPallet_portals (i : Nat) (f : Pallet → Pallet) (s : Part) : (modPallet i f s).portals = s.portals := rfl
@[simp] theorem modPallet_slots (i : Nat) (f : Pallet → Pallet) (s : Part) : (modPallet i f s).slots = s.slots := rfl
@[simp] theorem modPallet_credits (i : Nat) (f : Pallet → Pallet) (s : Part) : (modPallet i f s).credits = s.credits := rfl
@[simp] theorem modPallet_evaps (i : Nat) (f : Pallet → Pallet) (s : Part) : (modPallet i f s).evaps = s.evaps := rfl
@[simp] theorem modPallet_batches (i : Nat) (f : Pallet → Pallet) (s : Part) : (modPallet i f s).batches = s.batches := rfl
@[simp] theorem modPallet_heatCommanded (i : Nat) (f : Pallet → Pallet) (s : Part) : (modPallet i f s).heatCommanded = s.heatCommanded := rfl
@[simp] theorem modPallet_heatInForce (i : Nat) (f : Pallet → Pallet) (s : Part) : (modPallet i f s).heatInForce = s.heatInForce := rfl
@[simp] theorem modPallet_alarms (i : Nat) (f : Pallet → Pallet) (s : Part) : (modPallet i f s).alarms = s.alarms := rfl
@[simp] theorem modPallet_portPlant (i : Nat) (f : Pallet → Pallet) (s : Part) : (modPallet i f s).portPlant = s.portPlant := rfl
@[simp] theorem modPallet_portWarehouse (i : Nat) (f : Pallet → Pallet) (s : Part) : (modPallet i f s).portWarehouse = s.portWarehouse := rfl
@[simp] theorem modPallet_out (i : Nat) (f : Pallet → Pallet) (s : Part) : (modPallet i f s).out = s.out := rfl
@[simp] theorem modPallet_draws (i : Nat) (f : Pallet → Pallet) (s : Part) : (modPallet i f s).draws = s.draws := rfl

@[simp] theorem dropPallet_supply (i : Nat) (s : Part) : (dropPallet i s).supply = s.supply := rfl
@[simp] theorem dropPallet_cause (i : Nat) (s : Part) : (dropPallet i s).cause = s.cause := rfl
@[simp] theorem dropPallet_time (i : Nat) (s : Part) : (dropPallet i s).time = s.time := rfl
@[simp] theorem dropPallet_cfg (i : Nat) (s : Part) : (dropPallet i s).cfg = s.cfg := rfl
@[simp] theorem dropPallet_store (i : Nat) (s : Part) : (dropPallet i s).store = s.store := rfl
@[simp] theorem dropPallet_loop (i : Nat) (s : Part) : (dropPallet i s).loop = s.loop := rfl
@[simp] theorem dropPallet_zones (i : Nat) (s : Part) : (dropPallet i s).zones = s.zones := rfl
@[simp] theorem dropPallet_probes (i : Nat) (s : Part) : (dropPallet i s).probes = s.probes := rfl
@[simp] theorem dropPallet_docks (i : Nat) (s : Part) : (dropPallet i s).docks = s.docks := rfl
@[simp] theorem dropPallet_portals (i : Nat) (s : Part) : (dropPallet i s).portals = s.portals := rfl
@[simp] theorem dropPallet_slots (i : Nat) (s : Part) : (dropPallet i s).slots = s.slots := rfl
@[simp] theorem dropPallet_credits (i : Nat) (s : Part) : (dropPallet i s).credits = s.credits := rfl
@[simp] theorem dropPallet_evaps (i : Nat) (s : Part) : (dropPallet i s).evaps = s.evaps := rfl
@[simp] theorem dropPallet_batches (i : Nat) (s : Part) : (dropPallet i s).batches = s.batches := rfl
@[simp] theorem dropPallet_heatCommanded (i : Nat) (s : Part) : (dropPallet i s).heatCommanded = s.heatCommanded := rfl
@[simp] theorem dropPallet_heatInForce (i : Nat) (s : Part) : (dropPallet i s).heatInForce = s.heatInForce := rfl
@[simp] theorem dropPallet_alarms (i : Nat) (s : Part) : (dropPallet i s).alarms = s.alarms := rfl
@[simp] theorem dropPallet_portPlant (i : Nat) (s : Part) : (dropPallet i s).portPlant = s.portPlant := rfl
@[simp] theorem dropPallet_portWarehouse (i : Nat) (s : Part) : (dropPallet i s).portWarehouse = s.portWarehouse := rfl
@[simp] theorem dropPallet_out (i : Nat) (s : Part) : (dropPallet i s).out = s.out := rfl
@[simp] theorem dropPallet_draws (i : Nat) (s : Part) : (dropPallet i s).draws = s.draws := rfl

@[simp] theorem putCfg_supply (r : Record) (s : Part) : (putCfg r s).supply = s.supply := rfl
@[simp] theorem putCfg_cause (r : Record) (s : Part) : (putCfg r s).cause = s.cause := rfl
@[simp] theorem putCfg_time (r : Record) (s : Part) : (putCfg r s).time = s.time := rfl
@[simp] theorem putCfg_store (r : Record) (s : Part) : (putCfg r s).store = s.store := rfl
@[simp] theorem putCfg_loop (r : Record) (s : Part) : (putCfg r s).loop = s.loop := rfl
@[simp] theorem putCfg_zones (r : Record) (s : Part) : (putCfg r s).zones = s.zones := rfl
@[simp] theorem putCfg_probes (r : Record) (s : Part) : (putCfg r s).probes = s.probes := rfl
@[simp] theorem putCfg_docks (r : Record) (s : Part) : (putCfg r s).docks = s.docks := rfl
@[simp] theorem putCfg_portals (r : Record) (s : Part) : (putCfg r s).portals = s.portals := rfl
@[simp] theorem putCfg_slots (r : Record) (s : Part) : (putCfg r s).slots = s.slots := rfl
@[simp] theorem putCfg_pallets (r : Record) (s : Part) : (putCfg r s).pallets = s.pallets := rfl
@[simp] theorem putCfg_credits (r : Record) (s : Part) : (putCfg r s).credits = s.credits := rfl
@[simp] theorem putCfg_evaps (r : Record) (s : Part) : (putCfg r s).evaps = s.evaps := rfl
@[simp] theorem putCfg_batches (r : Record) (s : Part) : (putCfg r s).batches = s.batches := rfl
@[simp] theorem putCfg_heatCommanded (r : Record) (s : Part) : (putCfg r s).heatCommanded = s.heatCommanded := rfl
@[simp] theorem putCfg_heatInForce (r : Record) (s : Part) : (putCfg r s).heatInForce = s.heatInForce := rfl
@[simp] theorem putCfg_alarms (r : Record) (s : Part) : (putCfg r s).alarms = s.alarms := rfl
@[simp] theorem putCfg_portPlant (r : Record) (s : Part) : (putCfg r s).portPlant = s.portPlant := rfl
@[simp] theorem putCfg_portWarehouse (r : Record) (s : Part) : (putCfg r s).portWarehouse = s.portWarehouse := rfl
@[simp] theorem putCfg_out (r : Record) (s : Part) : (putCfg r s).out = s.out := rfl
@[simp] theorem putCfg_draws (r : Record) (s : Part) : (putCfg r s).draws = s.draws := rfl

@[simp] theorem send_supply (o : Output) (s : Part) : (send o s).supply = s.supply := rfl
@[simp] theorem send_cause (o : Output) (s : Part) : (send o s).cause = s.cause := rfl
@[simp] theorem send_time (o : Output) (s : Part) : (send o s).time = s.time := rfl
@[simp] theorem send_cfg (o : Output) (s : Part) : (send o s).cfg = s.cfg := rfl
@[simp] theorem send_store (o : Output) (s : Part) : (send o s).store = s.store := rfl
@[simp] theorem send_loop (o : Output) (s : Part) : (send o s).loop = s.loop := rfl
@[simp] theorem send_zones (o : Output) (s : Part) : (send o s).zones = s.zones := rfl
@[simp] theorem send_probes (o : Output) (s : Part) : (send o s).probes = s.probes := rfl
@[simp] theorem send_docks (o : Output) (s : Part) : (send o s).docks = s.docks := rfl
@[simp] theorem send_portals (o : Output) (s : Part) : (send o s).portals = s.portals := rfl
@[simp] theorem send_slots (o : Output) (s : Part) : (send o s).slots = s.slots := rfl
@[simp] theorem send_pallets (o : Output) (s : Part) : (send o s).pallets = s.pallets := rfl
@[simp] theorem send_credits (o : Output) (s : Part) : (send o s).credits = s.credits := rfl
@[simp] theorem send_evaps (o : Output) (s : Part) : (send o s).evaps = s.evaps := rfl
@[simp] theorem send_batches (o : Output) (s : Part) : (send o s).batches = s.batches := rfl
@[simp] theorem send_heatCommanded (o : Output) (s : Part) : (send o s).heatCommanded = s.heatCommanded := rfl
@[simp] theorem send_heatInForce (o : Output) (s : Part) : (send o s).heatInForce = s.heatInForce := rfl
@[simp] theorem send_alarms (o : Output) (s : Part) : (send o s).alarms = s.alarms := rfl
@[simp] theorem send_portPlant (o : Output) (s : Part) : (send o s).portPlant = s.portPlant := rfl
@[simp] theorem send_portWarehouse (o : Output) (s : Part) : (send o s).portWarehouse = s.portWarehouse := rfl
@[simp] theorem send_draws (o : Output) (s : Part) : (send o s).draws = s.draws := rfl

@[simp] theorem modPort_supply (p : Port) (f : PortRec → PortRec) (s : Part) : (modPort p f s).supply = s.supply := by cases p <;> rfl
@[simp] theorem modPort_cause (p : Port) (f : PortRec → PortRec) (s : Part) : (modPort p f s).cause = s.cause := by cases p <;> rfl
@[simp] theorem modPort_time (p : Port) (f : PortRec → PortRec) (s : Part) : (modPort p f s).time = s.time := by cases p <;> rfl
@[simp] theorem modPort_cfg (p : Port) (f : PortRec → PortRec) (s : Part) : (modPort p f s).cfg = s.cfg := by cases p <;> rfl
@[simp] theorem modPort_store (p : Port) (f : PortRec → PortRec) (s : Part) : (modPort p f s).store = s.store := by cases p <;> rfl
@[simp] theorem modPort_loop (p : Port) (f : PortRec → PortRec) (s : Part) : (modPort p f s).loop = s.loop := by cases p <;> rfl
@[simp] theorem modPort_zones (p : Port) (f : PortRec → PortRec) (s : Part) : (modPort p f s).zones = s.zones := by cases p <;> rfl
@[simp] theorem modPort_probes (p : Port) (f : PortRec → PortRec) (s : Part) : (modPort p f s).probes = s.probes := by cases p <;> rfl
@[simp] theorem modPort_docks (p : Port) (f : PortRec → PortRec) (s : Part) : (modPort p f s).docks = s.docks := by cases p <;> rfl
@[simp] theorem modPort_portals (p : Port) (f : PortRec → PortRec) (s : Part) : (modPort p f s).portals = s.portals := by cases p <;> rfl
@[simp] theorem modPort_slots (p : Port) (f : PortRec → PortRec) (s : Part) : (modPort p f s).slots = s.slots := by cases p <;> rfl
@[simp] theorem modPort_pallets (p : Port) (f : PortRec → PortRec) (s : Part) : (modPort p f s).pallets = s.pallets := by cases p <;> rfl
@[simp] theorem modPort_credits (p : Port) (f : PortRec → PortRec) (s : Part) : (modPort p f s).credits = s.credits := by cases p <;> rfl
@[simp] theorem modPort_evaps (p : Port) (f : PortRec → PortRec) (s : Part) : (modPort p f s).evaps = s.evaps := by cases p <;> rfl
@[simp] theorem modPort_batches (p : Port) (f : PortRec → PortRec) (s : Part) : (modPort p f s).batches = s.batches := by cases p <;> rfl
@[simp] theorem modPort_heatCommanded (p : Port) (f : PortRec → PortRec) (s : Part) : (modPort p f s).heatCommanded = s.heatCommanded := by cases p <;> rfl
@[simp] theorem modPort_heatInForce (p : Port) (f : PortRec → PortRec) (s : Part) : (modPort p f s).heatInForce = s.heatInForce := by cases p <;> rfl
@[simp] theorem modPort_alarms (p : Port) (f : PortRec → PortRec) (s : Part) : (modPort p f s).alarms = s.alarms := by cases p <;> rfl
@[simp] theorem modPort_out (p : Port) (f : PortRec → PortRec) (s : Part) : (modPort p f s).out = s.out := by cases p <;> rfl
@[simp] theorem modPort_draws (p : Port) (f : PortRec → PortRec) (s : Part) : (modPort p f s).draws = s.draws := by cases p <;> rfl

end Sys2Proof.Machine
end

