-- ==== Sys2Proof/Laws/Only.lean ====
section
/-! SUPPORT. Which groups of records each shared operation may change: for every operation one lemma `<operation>_only`, and its
rewriting form for goals about compositions. All of them send no frame. -/

namespace Sys2Proof.Machine

open Sys2Proof

/-- What a port record holds apart from its notice queue: state, supervision deadline, request in service, last request, receiver. -/
def PortRec.core (r : PortRec) : Bool × Option Nat × Option Byte × Option Nat × Receiver :=
  (r.silent, r.supervisionDl, r.inService, r.lastRequest, r.receiver)

/-- The parts agree outside the groups, the second has sent no frame more, and the ports differ in their notice queues at most. -/
structure Only (gs : List Group) (s t : Part) : Prop where
  within : Within gs s t
  out : t.out = s.out
  plant : t.portPlant.core = s.portPlant.core
  warehouse : t.portWarehouse.core = s.portWarehouse.core

/-- Every group of the first list stands in the second. -/
def covers (hs gs : List Group) : Bool := gs.all fun g => hs.contains g

theorem Group.same_refl (g : Group) (s : Part) : g.same s s := by cases g <;> simp [Group.same]

theorem Group.same_symm {g : Group} {s t : Part} (h : g.same s t) : g.same t s := by
  cases g <;> simp_all [Group.same]

theorem Group.same_trans {g : Group} {s t u : Part} (h : g.same s t) (h' : g.same t u) : g.same s u := by
  cases g <;> simp_all [Group.same]

@[simp] theorem Only.refl (gs : List Group) (s : Part) : Only gs s s := ⟨fun g _ => g.same_refl s, rfl, rfl, rfl⟩

theorem Only.symm {gs : List Group} {s t : Part} (h : Only gs s t) : Only gs t s :=
  ⟨fun g hg => Group.same_symm (h.within g hg), h.out.symm, h.plant.symm, h.warehouse.symm⟩

theorem Only.trans {gs : List Group} {s t u : Part} (h : Only gs s t) (h' : Only gs t u) : Only gs s u :=
  ⟨fun g hg => Group.same_trans (h.within g hg) (h'.within g hg), h'.out.trans h.out, h'.plant.trans h.plant,
    h'.warehouse.trans h.warehouse⟩

theorem Only.mono {gs hs : List Group} {s t : Part} (h : Only gs s t) (c : covers hs gs = true) : Only hs s t :=
  ⟨fun g hg => h.within g fun hgs => hg (by
    have := List.all_eq_true.mp c g hgs
    simpa using this), h.out, h.plant, h.warehouse⟩

/-- A change within covered groups can be added or left out. -/
theorem Only.iff {gs hs : List Group} {u s t : Part} (h : Only gs s t) (c : covers hs gs = true) : Only hs u t ↔ Only hs u s :=
  ⟨fun k => k.trans (h.mono c).symm, fun k => k.trans (h.mono c)⟩

theorem onlyIf_only {gs : List Group} {c : Bool} {f : Part → Part} {s : Part} (h : Only gs s (f s)) : Only gs s (onlyIf c f s) := by
  unfold onlyIf; split
  · exact h
  · exact .refl _ _

theorem foldl_only {α : Type} {gs : List Group} {f : α → Part → Part} (h : ∀ a t, Only gs t (f a t)) (l : List α) (s : Part) :
    Only gs s (l.foldl (fun s a => f a s) s) := by
  induction l generalizing s with
  | nil => exact .refl _ _
  | cons a l ih => exact (h a s).trans (ih _)

theorem forList_only {α : Type} {gs : List Group} {f : α → Part → Part} (h : ∀ a t, Only gs t (f a t)) (l : List α) (s : Part) :
    Only gs s (forList l f s) := foldl_only h l s

theorem forEach_only {n : Nat} {gs : List Group} {f : Fin n → Part → Part} (h : ∀ i t, Only gs t (f i t)) (s : Part) :
    Only gs s (forEach f s) := foldl_only h _ s

theorem unordered_only {gs : List Group} {f g : Part → Part} (hf : ∀ t, Only gs t (f t)) (hg : ∀ t, Only gs t (g t)) (s : Part) :
    Only gs s (unordered f g s) := by
  have h : Only gs s { s with draws := s.draws + 1 } := ⟨fun g _ => by cases g <;> simp [Group.same], rfl, rfl, rfl⟩
  unfold unordered; dsimp only; split
  · exact h.trans ((hf _).trans (hg _))
  · exact h.trans ((hg _).trans (hf _))

@[simp] theorem only_onlyIf {hs : List Group} {u s : Part} {c : Bool} {f : Part → Part} (h : ∀ t, Only hs t (f t)) :
    Only hs u (onlyIf c f s) ↔ Only hs u s :=
  ⟨fun k => k.trans (onlyIf_only (h s)).symm, fun k => k.trans (onlyIf_only (h s))⟩

@[simp] theorem only_forList {α : Type} {hs : List Group} {u s : Part} {l : List α} {f : α → Part → Part}
    (h : ∀ a t, Only hs t (f a t)) : Only hs u (forList l f s) ↔ Only hs u s :=
  ⟨fun k => k.trans (forList_only h l s).symm, fun k => k.trans (forList_only h l s)⟩

@[simp] theorem only_forEach {n : Nat} {hs : List Group} {u s : Part} {f : Fin n → Part → Part}
    (h : ∀ a t, Only hs t (f a t)) : Only hs u (forEach f s) ↔ Only hs u s :=
  ⟨fun k => k.trans (forEach_only h s).symm, fun k => k.trans (forEach_only h s)⟩

@[simp] theorem only_unordered {hs : List Group} {u s : Part} {f g : Part → Part}
    (hf : ∀ t, Only hs t (f t)) (hg : ∀ t, Only hs t (g t)) : Only hs u (unordered f g s) ↔ Only hs u s :=
  ⟨fun k => k.trans (unordered_only hf hg s).symm, fun k => k.trans (unordered_only hf hg s)⟩

theorem eitherOrder_only {gs : List Group} {b : Bool} {f g : Part → Part} (hf : ∀ t, Only gs t (f t)) (hg : ∀ t, Only gs t (g t))
    (s : Part) : Only gs s (eitherOrder b f g s) := by
  unfold eitherOrder; split
  · exact unordered_only hf hg s
  · exact (hf s).trans (hg _)

@[simp] theorem only_eitherOrder {hs : List Group} {u s : Part} {b : Bool} {f g : Part → Part}
    (hf : ∀ t, Only hs t (f t)) (hg : ∀ t, Only hs t (g t)) : Only hs u (eitherOrder b f g s) ↔ Only hs u s :=
  ⟨fun k => k.trans (eitherOrder_only hf hg s).symm, fun k => k.trans (eitherOrder_only hf hg s)⟩

/-- Commands that act on one dock door as one event of it (R60). -/
theorem trackDock_only {gs : List Group} {d : DoorId} {f : Part → Part} {s : Part} (h : Only gs s (f s))
    (c : covers gs [.docks] = true) : Only gs s (trackDock d f s) := by
  have hb (t : Part) : Only [.docks] t (bumpDock d t) := ⟨fun g h => by cases g <;> simp_all [Group.same, bumpDock], rfl, rfl, rfl⟩
  exact h.trans (onlyIf_only ((hb _).mono c))

theorem trackPortal_only {gs : List Group} {q : PortalId} {f : Part → Part} {s : Part} (h : Only gs s (f s))
    (c : covers gs [.portals] = true) : Only gs s (trackPortal q f s) := by
  have hb (t : Part) : Only [.portals] t (bumpPortal q t) := ⟨fun g h => by cases g <;> simp_all [Group.same, bumpPortal], rfl, rfl, rfl⟩
  exact h.trans (onlyIf_only ((hb _).mono c))

@[simp] theorem only_trackDock {hs : List Group} {u s : Part} {d : DoorId} {f : Part → Part} (c : covers hs [.docks] = true)
    (h : ∀ t, Only hs t (f t)) : Only hs u (trackDock d f s) ↔ Only hs u s :=
  ⟨fun k => k.trans (trackDock_only (h s) c).symm, fun k => k.trans (trackDock_only (h s) c)⟩

@[simp] theorem only_trackPortal {hs : List Group} {u s : Part} {q : PortalId} {f : Part → Part} (c : covers hs [.portals] = true)
    (h : ∀ t, Only hs t (f t)) : Only hs u (trackPortal q f s) ↔ Only hs u s :=
  ⟨fun k => k.trans (trackPortal_only (h s) c).symm, fun k => k.trans (trackPortal_only (h s) c)⟩

theorem withSome_only {α : Type} {gs : List Group} {x : Option α} {f : α → Part → Part} {s : Part} (h : ∀ a, Only gs s (f a s)) :
    Only gs s (withSome x f s) := by
  cases x with
  | none => exact .refl _ _
  | some a => exact h a

@[simp] theorem only_withSome {α : Type} {hs : List Group} {u s : Part} {x : Option α} {f : α → Part → Part}
    (h : ∀ a t, Only hs t (f a t)) : Only hs u (withSome x f s) ↔ Only hs u s :=
  ⟨fun k => k.trans (withSome_only (h · s)).symm, fun k => k.trans (withSome_only (h · s))⟩

@[simp] theorem only_credits {hs : List Group} {u s : Part} {n : Nat} (c : covers hs [.credits] = true) :
    Only hs u { s with credits := n } ↔ Only hs u s :=
  Only.iff (gs := [.credits]) ⟨fun g h => by cases g <;> simp_all [Group.same], rfl, rfl, rfl⟩ c

/-! ### Records (Ops.lean) -/

theorem modZone_only (z : ZoneId) (f : Zone → Zone) (s : Part) :
    Only [.zones] s (modZone z f s) :=
  ⟨fun g h => by cases g <;> simp_all [Group.same], rfl, rfl, rfl⟩

@[simp] theorem only_modZone {z : ZoneId} {f : Zone → Zone} {hs : List Group} {u s : Part}
    (cov : covers hs [.zones] = true) : Only hs u (modZone z f s) ↔ Only hs u s :=
  (modZone_only z f s).iff cov

theorem modProbe_only (t : ProbeId) (f : Probe → Probe) (s : Part) :
    Only [.probes] s (modProbe t f s) :=
  ⟨fun g h => by cases g <;> simp_all [Group.same], rfl, rfl, rfl⟩

@[simp] theorem only_modProbe {t : ProbeId} {f : Probe → Probe} {hs : List Group} {u s : Part}
    (cov : covers hs [.probes] = true) : Only hs u (modProbe t f s) ↔ Only hs u s :=
  (modProbe_only t f s).iff cov

theorem modDock_only (d : DoorId) (f : Dock → Dock) (s : Part) :
    Only [.docks] s (modDock d f s) :=
  ⟨fun g h => by cases g <;> simp_all [Group.same], rfl, rfl, rfl⟩

@[simp] theorem only_modDock {d : DoorId} {f : Dock → Dock} {hs : List Group} {u s : Part}
    (cov : covers hs [.docks] = true) : Only hs u (modDock d f s) ↔ Only hs u s :=
  (modDock_only d f s).iff cov

theorem modPortal_only (q : PortalId) (f : Portal → Portal) (s : Part) :
    Only [.portals] s (modPortal q f s) :=
  ⟨fun g h => by cases g <;> simp_all [Group.same], rfl, rfl, rfl⟩

@[simp] theorem only_modPortal {q : PortalId} {f : Portal → Portal} {hs : List Group} {u s : Part}
    (cov : covers hs [.portals] = true) : Only hs u (modPortal q f s) ↔ Only hs u s :=
  (modPortal_only q f s).iff cov

theorem modSlot_only (d : DoorId) (f : Slot → Slot) (s : Part) :
    Only [.slots] s (modSlot d f s) :=
  ⟨fun g h => by cases g <;> simp_all [Group.same], rfl, rfl, rfl⟩

@[simp] theorem only_modSlot {d : DoorId} {f : Slot → Slot} {hs : List Group} {u s : Part}
    (cov : covers hs [.slots] = true) : Only hs u (modSlot d f s) ↔ Only hs u s :=
  (modSlot_only d f s).iff cov

theorem modEvap_only (e : EvapId) (f : Evap → Evap) (s : Part) :
    Only [.evaps] s (modEvap e f s) :=
  ⟨fun g h => by cases g <;> simp_all [Group.same], rfl, rfl, rfl⟩

@[simp] theorem only_modEvap {e : EvapId} {f : Evap → Evap} {hs : List Group} {u s : Part}
    (cov : covers hs [.evaps] = true) : Only hs u (modEvap e f s) ↔ Only hs u s :=
  (modEvap_only e f s).iff cov

theorem modBatch_only (z : ZoneId) (f : Batch → Batch) (s : Part) :
    Only [.batches] s (modBatch z f s) :=
  ⟨fun g h => by cases g <;> simp_all [Group.same], rfl, rfl, rfl⟩

@[simp] theorem only_modBatch {z : ZoneId} {f : Batch → Batch} {hs : List Group} {u s : Part}
    (cov : covers hs [.batches] = true) : Only hs u (modBatch z f s) ↔ Only hs u s :=
  (modBatch_only z f s).iff cov

theorem putBatch_only (z : ZoneId) (b : Option Batch) (s : Part) :
    Only [.batches] s (putBatch z b s) :=
  ⟨fun g h => by cases g <;> simp_all [Group.same], rfl, rfl, rfl⟩

@[simp] theorem only_putBatch {z : ZoneId} {b : Option Batch} {hs : List Group} {u s : Part}
    (cov : covers hs [.batches] = true) : Only hs u (putBatch z b s) ↔ Only hs u s :=
  (putBatch_only z b s).iff cov

theorem modStation_only (a : StationId) (f : Station → Station) (s : Part) :
    Only [.loop] s (modStation a f s) :=
  ⟨fun g h => by cases g <;> simp_all [Group.same], rfl, rfl, rfl⟩

@[simp] theorem only_modStation {a : StationId} {f : Station → Station} {hs : List Group} {u s : Part}
    (cov : covers hs [.loop] = true) : Only hs u (modStation a f s) ↔ Only hs u s :=
  (modStation_only a f s).iff cov

theorem modLoop_only (f : Loop → Loop) (s : Part) :
    Only [.loop] s (modLoop f s) :=
  ⟨fun g h => by cases g <;> simp_all [Group.same], rfl, rfl, rfl⟩

@[simp] theorem only_modLoop {f : Loop → Loop} {hs : List Group} {u s : Part}
    (cov : covers hs [.loop] = true) : Only hs u (modLoop f s) ↔ Only hs u s :=
  (modLoop_only f s).iff cov

theorem modAlarms_only (f : AlarmTable → AlarmTable) (s : Part) :
    Only [.alarms] s (modAlarms f s) :=
  ⟨fun g h => by cases g <;> simp_all [Group.same], rfl, rfl, rfl⟩

@[simp] theorem only_modAlarms {f : AlarmTable → AlarmTable} {hs : List Group} {u s : Part}
    (cov : covers hs [.alarms] = true) : Only hs u (modAlarms f s) ↔ Only hs u s :=
  (modAlarms_only f s).iff cov

theorem modSupply_only (f : Supply → Supply) (s : Part) :
    Only [.supply] s (modSupply f s) :=
  ⟨fun g h => by cases g <;> simp_all [Group.same], rfl, rfl, rfl⟩

@[simp] theorem only_modSupply {f : Supply → Supply} {hs : List Group} {u s : Part}
    (cov : covers hs [.supply] = true) : Only hs u (modSupply f s) ↔ Only hs u s :=
  (modSupply_only f s).iff cov

theorem modPallet_only (i : Nat) (f : Pallet → Pallet) (s : Part) :
    Only [.pallets] s (modPallet i f s) :=
  ⟨fun g h => by cases g <;> simp_all [Group.same], rfl, rfl, rfl⟩

@[simp] theorem only_modPallet {i : Nat} {f : Pallet → Pallet} {hs : List Group} {u s : Part}
    (cov : covers hs [.pallets] = true) : Only hs u (modPallet i f s) ↔ Only hs u s :=
  (modPallet_only i f s).iff cov

theorem dropPallet_only (i : Nat) (s : Part) :
    Only [.pallets] s (dropPallet i s) :=
  ⟨fun g h => by cases g <;> simp_all [Group.same], rfl, rfl, rfl⟩

@[simp] theorem only_dropPallet {i : Nat} {hs : List Group} {u s : Part}
    (cov : covers hs [.pallets] = true) : Only hs u (dropPallet i s) ↔ Only hs u s :=
  (dropPallet_only i s).iff cov

theorem putCfg_only (r : Record) (s : Part) :
    Only [.cfg] s (putCfg r s) :=
  ⟨fun g h => by cases g <;> simp_all [Group.same], rfl, rfl, rfl⟩

@[simp] theorem only_putCfg {r : Record} {hs : List Group} {u s : Part}
    (cov : covers hs [.cfg] = true) : Only hs u (putCfg r s) ↔ Only hs u s :=
  (putCfg_only r s).iff cov

theorem setMode_only (z : ZoneId) (m : Mode) (dl : Option Nat) (s : Part) :
    Only [.zones] s (setMode z m dl s) := 
  modZone_only _ _ s

@[simp] theorem only_setMode {z : ZoneId} {m : Mode} {dl : Option Nat} {hs : List Group} {u s : Part}
    (cov : covers hs [.zones] = true) : Only hs u (setMode z m dl s) ↔ Only hs u s :=
  (setMode_only z m dl s).iff cov

theorem clearFlight_only (s : Part) :
    Only [.loop] s (clearFlight s) := 
  ⟨fun g h => by cases g <;> simp_all [Group.same, clearFlight], rfl, rfl, rfl⟩

@[simp] theorem only_clearFlight {hs : List Group} {u s : Part}
    (cov : covers hs [.loop] = true) : Only hs u (clearFlight s) ↔ Only hs u s :=
  (clearFlight_only s).iff cov

@[simp] theorem offer_core (n : Nat) (b : NoticeBody) (r : PortRec) : (offer n b r).core = r.core := by
  unfold offer; split <;> rfl

theorem notify_only (p : Port) (b : NoticeBody) (s : Part) :
    Only [.ports] s (notify p b s) := by
  refine ⟨fun g h => by cases g <;> simp_all [Group.same, notify], by cases p <;> rfl, ?_, ?_⟩ <;> cases p <;>
    simp [notify, modPort]

@[simp] theorem only_notify {p : Port} {b : NoticeBody} {hs : List Group} {u s : Part}
    (cov : covers hs [.ports] = true) : Only hs u (notify p b s) ↔ Only hs u s :=
  (notify_only p b s).iff cov

theorem notifyBoth_only (b : NoticeBody) (s : Part) :
    Only [.ports] s (notifyBoth b s) := by
  simp [notifyBoth, covers]

@[simp] theorem only_notifyBoth {b : NoticeBody} {hs : List Group} {u s : Part}
    (cov : covers hs [.ports] = true) : Only hs u (notifyBoth b s) ↔ Only hs u s :=
  (notifyBoth_only b s).iff cov

theorem createAlarm_only (k : AlarmKind) (x : Subject) (s : Part) :
    Only [.alarms, .ports] s (createAlarm k x s) := by
  simp [createAlarm, covers]

@[simp] theorem only_createAlarm {k : AlarmKind} {x : Subject} {hs : List Group} {u s : Part}
    (cov : covers hs [.alarms, .ports] = true) : Only hs u (createAlarm k x s) ↔ Only hs u s :=
  (createAlarm_only k x s).iff cov

theorem repeatAlarm_only (a : Alarm) (s : Part) :
    Only [.alarms, .ports] s (repeatAlarm a s) := by
  simp [repeatAlarm, covers]

@[simp] theorem only_repeatAlarm {a : Alarm} {hs : List Group} {u s : Part}
    (cov : covers hs [.alarms, .ports] = true) : Only hs u (repeatAlarm a s) ↔ Only hs u s :=
  (repeatAlarm_only a s).iff cov

theorem unstoredAlarm_only (k : AlarmKind) (x : Subject) (s : Part) :
    Only [.alarms, .ports] s (unstoredAlarm k x s) := by
  simp [unstoredAlarm, covers]

@[simp] theorem only_unstoredAlarm {k : AlarmKind} {x : Subject} {hs : List Group} {u s : Part}
    (cov : covers hs [.alarms, .ports] = true) : Only hs u (unstoredAlarm k x s) ↔ Only hs u s :=
  (unstoredAlarm_only k x s).iff cov

theorem raiseAlarm_only (k : AlarmKind) (x : Subject) (s : Part) :
    Only [.alarms, .ports] s (raiseAlarm k x s) := by
  unfold raiseAlarm; (repeat' split) <;> simp [covers]

@[simp] theorem only_raiseAlarm {k : AlarmKind} {x : Subject} {hs : List Group} {u s : Part}
    (cov : covers hs [.alarms, .ports] = true) : Only hs u (raiseAlarm k x s) ↔ Only hs u s :=
  (raiseAlarm_only k x s).iff cov

theorem removeAlarm_only (a : Alarm) (c : ClearCause) (s : Part) :
    Only [.alarms, .ports] s (removeAlarm a c s) := by
  simp [removeAlarm, covers]

@[simp] theorem only_removeAlarm {a : Alarm} {c : ClearCause} {hs : List Group} {u s : Part}
    (cov : covers hs [.alarms, .ports] = true) : Only hs u (removeAlarm a c s) ↔ Only hs u s :=
  (removeAlarm_only a c s).iff cov

theorem countChange_only (s : Part) :
    Only [.alarms] s (countChange s) := by
  simp [countChange, covers]

@[simp] theorem only_countChange {hs : List Group} {u s : Part}
    (cov : covers hs [.alarms] = true) : Only hs u (countChange s) ↔ Only hs u s :=
  (countChange_only s).iff cov

theorem endCondition_only (k : AlarmKind) (x : Subject) (s : Part) :
    Only [.alarms, .ports] s (endCondition k x s) := by
  unfold endCondition; (repeat' split) <;> simp [covers]

@[simp] theorem only_endCondition {k : AlarmKind} {x : Subject} {hs : List Group} {u s : Part}
    (cov : covers hs [.alarms, .ports] = true) : Only hs u (endCondition k x s) ↔ Only hs u s :=
  (endCondition_only k x s).iff cov

/-! ### Zones (ZoneOps.lean) -/

theorem warmEvaluate_only (z : ZoneId) (s : Part) :
    Only [.zones, .alarms, .ports] s (warmEvaluate z s) := by
  unfold warmEvaluate; dsimp only; (repeat' split) <;> simp (maxDischargeDepth := 6) [covers]

@[simp] theorem only_warmEvaluate {z : ZoneId} {hs : List Group} {u s : Part}
    (cov : covers hs [.zones, .alarms, .ports] = true) : Only hs u (warmEvaluate z s) ↔ Only hs u s :=
  (warmEvaluate_only z s).iff cov

theorem zonePastGather_only (z : ZoneId) (s : Part) :
    Only [.zones, .alarms, .ports] s (zonePastGather z s) := by
  simp [zonePastGather, covers]

@[simp] theorem only_zonePastGather {z : ZoneId} {hs : List Group} {u s : Part}
    (cov : covers hs [.zones, .alarms, .ports] = true) : Only hs u (zonePastGather z s) ↔ Only hs u s :=
  (zonePastGather_only z s).iff cov

theorem zoneBatchEnded_only (z : ZoneId) (s : Part) :
    Only [.zones, .alarms, .ports] s (zoneBatchEnded z s) := by
  simp [zoneBatchEnded, covers]

@[simp] theorem only_zoneBatchEnded {z : ZoneId} {hs : List Group} {u s : Part}
    (cov : covers hs [.zones, .alarms, .ports] = true) : Only hs u (zoneBatchEnded z s) ↔ Only hs u s :=
  (zoneBatchEnded_only z s).iff cov

theorem modeNotice_only (z : ZoneId) (old : Mode) (c : ModeCause) (s : Part) :
    Only [.ports] s (modeNotice z old c s) := by
  simp [modeNotice, covers]

@[simp] theorem only_modeNotice {z : ZoneId} {old : Mode} {c : ModeCause} {hs : List Group} {u s : Part}
    (cov : covers hs [.ports] = true) : Only hs u (modeNotice z old c s) ↔ Only hs u s :=
  (modeNotice_only z old c s).iff cov

/-! ### Doors (DoorOps.lean) -/

theorem bumpDock_only (d : DoorId) (s : Part) :
    Only [.docks] s (bumpDock d s) := by
  simp [bumpDock, covers]

@[simp] theorem only_bumpDock {d : DoorId} {hs : List Group} {u s : Part}
    (cov : covers hs [.docks] = true) : Only hs u (bumpDock d s) ↔ Only hs u s :=
  (bumpDock_only d s).iff cov

theorem bumpPortal_only (q : PortalId) (s : Part) :
    Only [.portals] s (bumpPortal q s) := by
  simp [bumpPortal, covers]

@[simp] theorem only_bumpPortal {q : PortalId} {hs : List Group} {u s : Part}
    (cov : covers hs [.portals] = true) : Only hs u (bumpPortal q s) ↔ Only hs u s :=
  (bumpPortal_only q s).iff cov

theorem endPendingDock_only (d : DoorId) (o : RequestEnd) (s : Part) :
    Only [.docks, .ports] s (endPendingDock d o s) := by
  unfold endPendingDock; split <;> simp [covers]

@[simp] theorem only_endPendingDock {d : DoorId} {o : RequestEnd} {hs : List Group} {u s : Part}
    (cov : covers hs [.docks, .ports] = true) : Only hs u (endPendingDock d o s) ↔ Only hs u s :=
  (endPendingDock_only d o s).iff cov

theorem endPendingPortal_only (q : PortalId) (o : RequestEnd) (s : Part) :
    Only [.portals, .ports] s (endPendingPortal q o s) := by
  unfold endPendingPortal; split <;> simp [covers]

@[simp] theorem only_endPendingPortal {q : PortalId} {o : RequestEnd} {hs : List Group} {u s : Part}
    (cov : covers hs [.portals, .ports] = true) : Only hs u (endPendingPortal q o s) ↔ Only hs u s :=
  (endPendingPortal_only q o s).iff cov

theorem faultDock_only (d : DoorId) (s : Part) :
    Only [.docks, .alarms, .ports] s (faultDock d s) := by
  unfold faultDock; split <;> simp [covers]

@[simp] theorem only_faultDock {d : DoorId} {hs : List Group} {u s : Part}
    (cov : covers hs [.docks, .alarms, .ports] = true) : Only hs u (faultDock d s) ↔ Only hs u s :=
  (faultDock_only d s).iff cov

theorem faultPortal_only (q : PortalId) (s : Part) :
    Only [.portals, .alarms, .ports] s (faultPortal q s) := by
  unfold faultPortal; split <;> simp [covers]

@[simp] theorem only_faultPortal {q : PortalId} {hs : List Group} {u s : Part}
    (cov : covers hs [.portals, .alarms, .ports] = true) : Only hs u (faultPortal q s) ↔ Only hs u s :=
  (faultPortal_only q s).iff cov

theorem lockOutDock_only (d : DoorId) (s : Part) :
    Only [.docks, .alarms, .ports] s (lockOutDock d s) := by
  simp [lockOutDock, covers]

@[simp] theorem only_lockOutDock {d : DoorId} {hs : List Group} {u s : Part}
    (cov : covers hs [.docks, .alarms, .ports] = true) : Only hs u (lockOutDock d s) ↔ Only hs u s :=
  (lockOutDock_only d s).iff cov

theorem lockOutPortal_only (q : PortalId) (s : Part) :
    Only [.portals, .alarms, .ports] s (lockOutPortal q s) := by
  simp [lockOutPortal, covers]

@[simp] theorem only_lockOutPortal {q : PortalId} {hs : List Group} {u s : Part}
    (cov : covers hs [.portals, .alarms, .ports] = true) : Only hs u (lockOutPortal q s) ↔ Only hs u s :=
  (lockOutPortal_only q s).iff cov

theorem closeDock_only (d : DoorId) (s : Part) :
    Only [.docks] s (closeDock d s) := by
  simp [closeDock, covers]

@[simp] theorem only_closeDock {d : DoorId} {hs : List Group} {u s : Part}
    (cov : covers hs [.docks] = true) : Only hs u (closeDock d s) ↔ Only hs u s :=
  (closeDock_only d s).iff cov

theorem endGrant_only (q : PortalId) (s : Part) :
    Only [.portals] s (endGrant q s) := by
  simp [endGrant, covers]

@[simp] theorem only_endGrant {q : PortalId} {hs : List Group} {u s : Part}
    (cov : covers hs [.portals] = true) : Only hs u (endGrant q s) ↔ Only hs u s :=
  (endGrant_only q s).iff cov

theorem takePortal_only (q : PortalId) (s : Part) :
    Only [.portals] s (takePortal q s) := by
  simp [takePortal, covers]

@[simp] theorem only_takePortal {q : PortalId} {hs : List Group} {u s : Part}
    (cov : covers hs [.portals] = true) : Only hs u (takePortal q s) ↔ Only hs u s :=
  (takePortal_only q s).iff cov

theorem grantDock_only (d : DoorId) (s : Part) :
    Only [.docks, .ports] s (grantDock d s) := by
  simp [grantDock, covers]

@[simp] theorem only_grantDock {d : DoorId} {hs : List Group} {u s : Part}
    (cov : covers hs [.docks, .ports] = true) : Only hs u (grantDock d s) ↔ Only hs u s :=
  (grantDock_only d s).iff cov

theorem grantPortal_only (q : PortalId) (s : Part) :
    Only [.portals] s (grantPortal q s) := by
  simp [grantPortal, covers]

@[simp] theorem only_grantPortal {q : PortalId} {hs : List Group} {u s : Part}
    (cov : covers hs [.portals] = true) : Only hs u (grantPortal q s) ↔ Only hs u s :=
  (grantPortal_only q s).iff cov

theorem withdraw_only (z : ZoneId) (c : CloseCause) (s : Part) :
    Only [.docks, .portals, .ports] s (withdraw z c s) := by
  unfold withdraw; split <;> simp (maxDischargeDepth := 6) [covers]

@[simp] theorem only_withdraw {z : ZoneId} {c : CloseCause} {hs : List Group} {u s : Part}
    (cov : covers hs [.docks, .portals, .ports] = true) : Only hs u (withdraw z c s) ↔ Only hs u s :=
  (withdraw_only z c s).iff cov

theorem becomeHeld_only (q : PortalId) (s : Part) :
    Only [.portals, .ports] s (becomeHeld q s) := by
  simp [becomeHeld, covers]

@[simp] theorem only_becomeHeld {q : PortalId} {hs : List Group} {u s : Part}
    (cov : covers hs [.portals, .ports] = true) : Only hs u (becomeHeld q s) ↔ Only hs u s :=
  (becomeHeld_only q s).iff cov

theorem holdOpen_only (q : PortalId) (s : Part) :
    Only [.portals, .ports] s (holdOpen q s) := by
  simp [holdOpen, covers]

@[simp] theorem only_holdOpen {q : PortalId} {hs : List Group} {u s : Part}
    (cov : covers hs [.portals, .ports] = true) : Only hs u (holdOpen q s) ↔ Only hs u s :=
  (holdOpen_only q s).iff cov

theorem portalsEnterBulk_only (z : ZoneId) (s : Part) :
    Only [.portals, .ports] s (portalsEnterBulk z s) := by
  simp (maxDischargeDepth := 6) [portalsEnterBulk, covers]

@[simp] theorem only_portalsEnterBulk {z : ZoneId} {hs : List Group} {u s : Part}
    (cov : covers hs [.portals, .ports] = true) : Only hs u (portalsEnterBulk z s) ↔ Only hs u s :=
  (portalsEnterBulk_only z s).iff cov

theorem portalsLeaveBulk_only (z : ZoneId) (s : Part) :
    Only [.portals] s (portalsLeaveBulk z s) := by
  simp (maxDischargeDepth := 6) [portalsLeaveBulk, covers]

@[simp] theorem only_portalsLeaveBulk {z : ZoneId} {hs : List Group} {u s : Part}
    (cov : covers hs [.portals] = true) : Only hs u (portalsLeaveBulk z s) ↔ Only hs u s :=
  (portalsLeaveBulk_only z s).iff cov

theorem portalsBlock_only (z : ZoneId) (s : Part) :
    Only [.portals, .ports] s (portalsBlock z s) := by
  simp (maxDischargeDepth := 6) [portalsBlock, covers]

@[simp] theorem only_portalsBlock {z : ZoneId} {hs : List Group} {u s : Part}
    (cov : covers hs [.portals, .ports] = true) : Only hs u (portalsBlock z s) ↔ Only hs u s :=
  (portalsBlock_only z s).iff cov

theorem portalsUnblock_only (z : ZoneId) (s : Part) :
    Only [.portals] s (portalsUnblock z s) := by
  simp (maxDischargeDepth := 6) [portalsUnblock, covers]

@[simp] theorem only_portalsUnblock {z : ZoneId} {hs : List Group} {u s : Part}
    (cov : covers hs [.portals] = true) : Only hs u (portalsUnblock z s) ↔ Only hs u s :=
  (portalsUnblock_only z s).iff cov

theorem drainCheck_only (z : ZoneId) (s : Part) :
    Only [.zones, .portals, .ports] s (drainCheck z s) := by
  unfold drainCheck; split <;> simp [covers]

@[simp] theorem only_drainCheck {z : ZoneId} {hs : List Group} {u s : Part}
    (cov : covers hs [.zones, .portals, .ports] = true) : Only hs u (drainCheck z s) ↔ Only hs u s :=
  (drainCheck_only z s).iff cov

/-! ### Defrost (DefrostOps.lean) -/

theorem gatherMembers_only (es : List EvapId) (s : Part) :
    Only [.evaps] s (gatherMembers es s) := by
  simp [gatherMembers, covers]

@[simp] theorem only_gatherMembers {es : List EvapId} {hs : List Group} {u s : Part}
    (cov : covers hs [.evaps] = true) : Only hs u (gatherMembers es s) ↔ Only hs u s :=
  (gatherMembers_only es s).iff cov

theorem batchRule_only (z : ZoneId) (s : Part) :
    Only [.evaps, .batches] s (batchRule z s) := by
  unfold batchRule; dsimp only; (repeat' split) <;> simp (maxDischargeDepth := 6) [covers]

@[simp] theorem only_batchRule {z : ZoneId} {hs : List Group} {u s : Part}
    (cov : covers hs [.evaps, .batches] = true) : Only hs u (batchRule z s) ↔ Only hs u s :=
  (batchRule_only z s).iff cov

theorem enterDemand_only (e : EvapId) (s : Part) :
    Only [.evaps, .batches] s (enterDemand e s) := by
  simp [enterDemand, covers]

@[simp] theorem only_enterDemand {e : EvapId} {hs : List Group} {u s : Part}
    (cov : covers hs [.evaps, .batches] = true) : Only hs u (enterDemand e s) ↔ Only hs u s :=
  (enterDemand_only e s).iff cov

theorem idleCheck_only (e : EvapId) (s : Part) :
    Only [.evaps, .batches] s (idleCheck e s) := by
  unfold idleCheck; dsimp only; (repeat' split) <;> simp (maxDischargeDepth := 6) [covers]

@[simp] theorem only_idleCheck {e : EvapId} {hs : List Group} {u s : Part}
    (cov : covers hs [.evaps, .batches] = true) : Only hs u (idleCheck e s) ↔ Only hs u s :=
  (idleCheck_only e s).iff cov

theorem endOverdue_only (e : EvapId) (s : Part) :
    Only [.evaps, .alarms, .ports] s (endOverdue e s) := by
  simp [endOverdue, covers]

@[simp] theorem only_endOverdue {e : EvapId} {hs : List Group} {u s : Part}
    (cov : covers hs [.evaps, .alarms, .ports] = true) : Only hs u (endOverdue e s) ↔ Only hs u s :=
  (endOverdue_only e s).iff cov

theorem dropDemand_only (e : EvapId) (s : Part) :
    Only [.evaps, .alarms, .ports] s (dropDemand e s) := by
  simp [dropDemand, covers]

@[simp] theorem only_dropDemand {e : EvapId} {hs : List Group} {u s : Part}
    (cov : covers hs [.evaps, .alarms, .ports] = true) : Only hs u (dropDemand e s) ↔ Only hs u s :=
  (dropDemand_only e s).iff cov

theorem treatMembers_only (ms : List Member) (c : BatchEnd) (s : Part) :
    Only [.evaps, .alarms, .ports] s (treatMembers ms c s) := by
  unfold treatMembers; split <;> simp [covers]

@[simp] theorem only_treatMembers {ms : List Member} {c : BatchEnd} {hs : List Group} {u s : Part}
    (cov : covers hs [.evaps, .alarms, .ports] = true) : Only hs u (treatMembers ms c s) ↔ Only hs u s :=
  (treatMembers_only ms c s).iff cov

theorem endBatch_only (z : ZoneId) (c : BatchEnd) (s : Part) :
    Only [.zones, .portals, .evaps, .batches, .alarms, .ports] s (endBatch z c s) := by
  unfold endBatch; split <;> simp [covers]

@[simp] theorem only_endBatch {z : ZoneId} {c : BatchEnd} {hs : List Group} {u s : Part}
    (cov : covers hs [.zones, .portals, .evaps, .batches, .alarms, .ports] = true) : Only hs u (endBatch z c s) ↔ Only hs u s :=
  (endBatch_only z c s).iff cov

theorem enterPumpdown_only (z : ZoneId) (s : Part) :
    Only [.zones, .portals, .evaps, .batches, .alarms, .ports] s (enterPumpdown z s) := by
  unfold enterPumpdown; split <;> simp [covers]

@[simp] theorem only_enterPumpdown {z : ZoneId} {hs : List Group} {u s : Part}
    (cov : covers hs [.zones, .portals, .evaps, .batches, .alarms, .ports] = true) : Only hs u (enterPumpdown z s) ↔ Only hs u s :=
  (enterPumpdown_only z s).iff cov

theorem closingCheck_only (z : ZoneId) (s : Part) :
    Only [.zones, .portals, .evaps, .batches, .alarms, .ports] s (closingCheck z s) := by
  unfold closingCheck; split <;> simp [covers]

@[simp] theorem only_closingCheck {z : ZoneId} {hs : List Group} {u s : Part}
    (cov : covers hs [.zones, .portals, .evaps, .batches, .alarms, .ports] = true) : Only hs u (closingCheck z s) ↔ Only hs u s :=
  (closingCheck_only z s).iff cov

theorem suspendMembers_only (z : ZoneId) (s : Part) :
    Only [.evaps, .batches] s (suspendMembers z s) := by
  unfold suspendMembers; split <;> simp [covers]

@[simp] theorem only_suspendMembers {z : ZoneId} {hs : List Group} {u s : Part}
    (cov : covers hs [.evaps, .batches] = true) : Only hs u (suspendMembers z s) ↔ Only hs u s :=
  (suspendMembers_only z s).iff cov

theorem reevaluateDock_only (d : DoorId) (s : Part) :
    Only [.docks, .evaps, .batches, .ports] s (reevaluateDock d s) := by
  unfold reevaluateDock; (repeat' split) <;> simp [covers]

@[simp] theorem only_reevaluateDock {d : DoorId} {hs : List Group} {u s : Part}
    (cov : covers hs [.docks, .evaps, .batches, .ports] = true) : Only hs u (reevaluateDock d s) ↔ Only hs u s :=
  (reevaluateDock_only d s).iff cov

theorem reevaluatePortal_only (q : PortalId) (s : Part) :
    Only [.portals, .evaps, .batches, .ports] s (reevaluatePortal q s) := by
  unfold reevaluatePortal; (repeat' split) <;> simp [covers]

@[simp] theorem only_reevaluatePortal {q : PortalId} {hs : List Group} {u s : Part}
    (cov : covers hs [.portals, .evaps, .batches, .ports] = true) : Only hs u (reevaluatePortal q s) ↔ Only hs u s :=
  (reevaluatePortal_only q s).iff cov

theorem doorsLeftHeat_only (z : ZoneId) (s : Part) :
    Only [.docks, .portals, .evaps, .batches, .ports] s (doorsLeftHeat z s) := by
  unfold doorsLeftHeat; split <;> simp (maxDischargeDepth := 6) [covers]

@[simp] theorem only_doorsLeftHeat {z : ZoneId} {hs : List Group} {u s : Part}
    (cov : covers hs [.docks, .portals, .evaps, .batches, .ports] = true) : Only hs u (doorsLeftHeat z s) ↔ Only hs u s :=
  (doorsLeftHeat_only z s).iff cov

theorem zoneLeftHeat_only (z : ZoneId) (s : Part) :
    Only [.zones, .portals, .ports] s (zoneLeftHeat z s) := by
  unfold zoneLeftHeat; split <;> simp [covers]

@[simp] theorem only_zoneLeftHeat {z : ZoneId} {hs : List Group} {u s : Part}
    (cov : covers hs [.zones, .portals, .ports] = true) : Only hs u (zoneLeftHeat z s) ↔ Only hs u s :=
  (zoneLeftHeat_only z s).iff cov

theorem enterDrip_only (z : ZoneId) (s : Part) :
    Only [.evaps, .batches] s (enterDrip z s) := by
  unfold enterDrip; split <;> simp [covers]

@[simp] theorem only_enterDrip {z : ZoneId} {hs : List Group} {u s : Part}
    (cov : covers hs [.evaps, .batches] = true) : Only hs u (enterDrip z s) ↔ Only hs u s :=
  (enterDrip_only z s).iff cov

theorem leaveHeatCheck_only (z : ZoneId) (s : Part) :
    Only [.zones, .docks, .portals, .evaps, .batches, .alarms, .ports] s (leaveHeatCheck z s) := by
  unfold leaveHeatCheck; dsimp only; (repeat' split) <;> simp (maxDischargeDepth := 6) [covers]

@[simp] theorem only_leaveHeatCheck {z : ZoneId} {hs : List Group} {u s : Part}
    (cov : covers hs [.zones, .docks, .portals, .evaps, .batches, .alarms, .ports] = true) : Only hs u (leaveHeatCheck z s) ↔ Only hs u s :=
  (leaveHeatCheck_only z s).iff cov

theorem giveOutcome_only (e : EvapId) (o : MemberOutcome) (n : Nat) (s : Part) :
    Only [.evaps, .batches] s (giveOutcome e o n s) := by
  simp [giveOutcome, covers]

@[simp] theorem only_giveOutcome {e : EvapId} {o : MemberOutcome} {n : Nat} {hs : List Group} {u s : Part}
    (cov : covers hs [.evaps, .batches] = true) : Only hs u (giveOutcome e o n s) ↔ Only hs u s :=
  (giveOutcome_only e o n s).iff cov

theorem serveWaiting_only (e : EvapId) (s : Part) :
    Only [.zones, .docks, .portals, .evaps, .batches, .alarms, .ports] s (serveWaiting e s) := by
  unfold serveWaiting; split <;> simp [covers]

@[simp] theorem only_serveWaiting {e : EvapId} {hs : List Group} {u s : Part}
    (cov : covers hs [.zones, .docks, .portals, .evaps, .batches, .alarms, .ports] = true) : Only hs u (serveWaiting e s) ↔ Only hs u s :=
  (serveWaiting_only e s).iff cov

theorem arbiterRounds_only (n : Nat) (s : Part) :
    Only [.zones, .docks, .portals, .evaps, .batches, .alarms, .ports] s (arbiterRounds n s) := by
  induction n generalizing s with
  | zero => exact .refl _ _
  | succ n ih =>
    unfold arbiterRounds; split
    · split
      · exact (serveWaiting_only _ s).trans (ih _)
      · exact .refl _ _
    · exact .refl _ _

@[simp] theorem only_arbiterRounds {n : Nat} {hs : List Group} {u s : Part}
    (cov : covers hs [.zones, .docks, .portals, .evaps, .batches, .alarms, .ports] = true) : Only hs u (arbiterRounds n s) ↔ Only hs u s :=
  (arbiterRounds_only n s).iff cov

theorem arbiter_only (s : Part) :
    Only [.zones, .docks, .portals, .evaps, .batches, .alarms, .ports] s (arbiter s) := by
  simp [arbiter, covers]

@[simp] theorem only_arbiter {hs : List Group} {u s : Part}
    (cov : covers hs [.zones, .docks, .portals, .evaps, .batches, .alarms, .ports] = true) : Only hs u (arbiter s) ↔ Only hs u s :=
  (arbiter_only s).iff cov

theorem endHeat_only (e : EvapId) (o : MemberOutcome) (s : Part) :
    Only [.zones, .docks, .portals, .evaps, .batches, .alarms, .ports] s (endHeat e o s) := by
  simp [endHeat, covers]

@[simp] theorem only_endHeat {e : EvapId} {o : MemberOutcome} {hs : List Group} {u s : Part}
    (cov : covers hs [.zones, .docks, .portals, .evaps, .batches, .alarms, .ports] = true) : Only hs u (endHeat e o s) ↔ Only hs u s :=
  (endHeat_only e o s).iff cov

theorem enterHeat_only (z : ZoneId) (s : Part) :
    Only [.zones, .docks, .portals, .evaps, .batches, .alarms, .ports] s (enterHeat z s) := by
  unfold enterHeat; split <;> simp (maxDischargeDepth := 6) [covers]

@[simp] theorem only_enterHeat {z : ZoneId} {hs : List Group} {u s : Part}
    (cov : covers hs [.zones, .docks, .portals, .evaps, .batches, .alarms, .ports] = true) : Only hs u (enterHeat z s) ↔ Only hs u s :=
  (enterHeat_only z s).iff cov

theorem roomWarmCut_only (z : ZoneId) (s : Part) :
    Only [.zones, .docks, .portals, .evaps, .batches, .alarms, .ports] s (roomWarmCut z s) := by
  unfold roomWarmCut; dsimp only; (repeat' split) <;> simp (maxDischargeDepth := 6) [covers]

@[simp] theorem only_roomWarmCut {z : ZoneId} {hs : List Group} {u s : Part}
    (cov : covers hs [.zones, .docks, .portals, .evaps, .batches, .alarms, .ports] = true) : Only hs u (roomWarmCut z s) ↔ Only hs u s :=
  (roomWarmCut_only z s).iff cov

theorem suspendBatch_only (z : ZoneId) (s : Part) :
    Only [.zones, .docks, .portals, .evaps, .batches, .alarms, .ports] s (suspendBatch z s) := by
  simp [suspendBatch, covers]

@[simp] theorem only_suspendBatch {z : ZoneId} {hs : List Group} {u s : Part}
    (cov : covers hs [.zones, .docks, .portals, .evaps, .batches, .alarms, .ports] = true) : Only hs u (suspendBatch z s) ↔ Only hs u s :=
  (suspendBatch_only z s).iff cov

theorem resumeCheck_only (z : ZoneId) (s : Part) :
    Only [.zones, .docks, .portals, .evaps, .batches, .alarms, .ports] s (resumeCheck z s) := by
  unfold resumeCheck; (repeat' split) <;> simp [covers]

@[simp] theorem only_resumeCheck {z : ZoneId} {hs : List Group} {u s : Part}
    (cov : covers hs [.zones, .docks, .portals, .evaps, .batches, .alarms, .ports] = true) : Only hs u (resumeCheck z s) ↔ Only hs u s :=
  (resumeCheck_only z s).iff cov

theorem defrostModeOpen_only (z : ZoneId) (s : Part) :
    Only [.zones, .docks, .portals, .evaps, .batches, .alarms, .ports] s (defrostModeOpen z s) := by
  simp [defrostModeOpen, covers]

@[simp] theorem only_defrostModeOpen {z : ZoneId} {hs : List Group} {u s : Part}
    (cov : covers hs [.zones, .docks, .portals, .evaps, .batches, .alarms, .ports] = true) : Only hs u (defrostModeOpen z s) ↔ Only hs u s :=
  (defrostModeOpen_only z s).iff cov

theorem bulkToOpen_only (z : ZoneId) (rc : Option RevokeCause) (c : ModeCause) (s : Part) :
    Only [.zones, .docks, .portals, .evaps, .batches, .alarms, .ports] s (bulkToOpen z rc c s) := by
  unfold bulkToOpen; split <;> simp [covers]

@[simp] theorem only_bulkToOpen {z : ZoneId} {rc : Option RevokeCause} {c : ModeCause} {hs : List Group} {u s : Part}
    (cov : covers hs [.zones, .docks, .portals, .evaps, .batches, .alarms, .ports] = true) : Only hs u (bulkToOpen z rc c s) ↔ Only hs u s :=
  (bulkToOpen_only z rc c s).iff cov

theorem takeBack_only (n : Nat) (s : Part) :
    Only [.evaps] s (takeBack n s) := by
  induction n generalizing s with
  | zero => exact .refl _ _
  | succ n ih =>
    unfold takeBack; split
    · split
      · exact (modEvap_only _ _ s).trans (ih _)
      · exact .refl _ _
    · exact .refl _ _

@[simp] theorem only_takeBack {n : Nat} {hs : List Group} {u s : Part}
    (cov : covers hs [.evaps] = true) : Only hs u (takeBack n s) ↔ Only hs u s :=
  (takeBack_only n s).iff cov

theorem setInForce_only (n : Nat) (s : Part) :
    Only [.heatSlots, .zones, .docks, .portals, .evaps, .batches, .alarms, .ports] s (setInForce n s) := by
  have h : Only [.heatSlots] s { s with heatInForce := n } := ⟨fun g h => by cases g <;> simp_all [Group.same], rfl, rfl, rfl⟩
  unfold setInForce
  simpa [covers] using h.mono (hs := [.heatSlots, .zones, .docks, .portals, .evaps, .batches, .alarms, .ports]) rfl

@[simp] theorem only_setInForce {n : Nat} {hs : List Group} {u s : Part}
    (cov : covers hs [.heatSlots, .zones, .docks, .portals, .evaps, .batches, .alarms, .ports] = true) : Only hs u (setInForce n s) ↔ Only hs u s :=
  (setInForce_only n s).iff cov

theorem divideFrost_only (z : ZoneId) (a : Nat) (s : Part) :
    Only [.zones, .evaps, .batches] s (divideFrost z a s) := by
  unfold divideFrost; dsimp only; (repeat' split) <;> simp (maxDischargeDepth := 6) [covers]

@[simp] theorem only_divideFrost {z : ZoneId} {a : Nat} {hs : List Group} {u s : Part}
    (cov : covers hs [.zones, .evaps, .batches] = true) : Only hs u (divideFrost z a s) ↔ Only hs u s :=
  (divideFrost_only z a s).iff cov

theorem settleDock_only (d : DoorId) (upTo : Nat) (s : Part) :
    Only [.zones, .docks, .evaps, .batches] s (settleDock d upTo s) := by
  unfold settleDock; dsimp only; (repeat' split) <;> simp (maxDischargeDepth := 6) [covers]

@[simp] theorem only_settleDock {d : DoorId} {upTo : Nat} {hs : List Group} {u s : Part}
    (cov : covers hs [.zones, .docks, .evaps, .batches] = true) : Only hs u (settleDock d upTo s) ↔ Only hs u s :=
  (settleDock_only d upTo s).iff cov

theorem settlePortal_only (q : PortalId) (upTo : Nat) (s : Part) :
    Only [.zones, .portals, .evaps, .batches] s (settlePortal q upTo s) := by
  unfold settlePortal; dsimp only; (repeat' split) <;> simp (maxDischargeDepth := 6) [covers]

@[simp] theorem only_settlePortal {q : PortalId} {upTo : Nat} {hs : List Group} {u s : Part}
    (cov : covers hs [.zones, .portals, .evaps, .batches] = true) : Only hs u (settlePortal q upTo s) ↔ Only hs u s :=
  (settlePortal_only q upTo s).iff cov

theorem settleZoneDoors_only (z : ZoneId) (s : Part) :
    Only [.zones, .docks, .portals, .evaps, .batches] s (settleZoneDoors z s) := by
  unfold settleZoneDoors; split <;> simp (maxDischargeDepth := 6) [covers]

@[simp] theorem only_settleZoneDoors {z : ZoneId} {hs : List Group} {u s : Part}
    (cov : covers hs [.zones, .docks, .portals, .evaps, .batches] = true) : Only hs u (settleZoneDoors z s) ↔ Only hs u s :=
  (settleZoneDoors_only z s).iff cov

theorem approach_only (q : PortalId) (s : Part) :
    Only [.zones, .docks, .portals, .evaps, .batches, .alarms, .ports] s (approach q s) := by
  unfold approach; dsimp only; (repeat' split) <;> simp (maxDischargeDepth := 6) [covers]

@[simp] theorem only_approach {q : PortalId} {hs : List Group} {u s : Part}
    (cov : covers hs [.zones, .docks, .portals, .evaps, .batches, .alarms, .ports] = true) : Only hs u (approach q s) ↔ Only hs u s :=
  (approach_only q s).iff cov

theorem dockPassed_only (d : DoorId) (s : Part) :
    Only [.docks] s (dockPassed d s) := by
  simp [dockPassed, covers]

@[simp] theorem only_dockPassed {d : DoorId} {hs : List Group} {u s : Part}
    (cov : covers hs [.docks] = true) : Only hs u (dockPassed d s) ↔ Only hs u s :=
  (dockPassed_only d s).iff cov

theorem portalPassed_only (q : PortalId) (s : Part) :
    Only [.portals] s (portalPassed q s) := by
  simp [portalPassed, covers]

@[simp] theorem only_portalPassed {q : PortalId} {hs : List Group} {u s : Part}
    (cov : covers hs [.portals] = true) : Only hs u (portalPassed q s) ↔ Only hs u s :=
  (portalPassed_only q s).iff cov

/-! ### Exposure Unit and Move Tracker (TrackerOps.lean) -/

theorem endMove_only (id : Nat) (note : Option (MoveEnd → NoticeBody)) (s : Part) :
    Only [.zones, .portals, .pallets, .credits, .ports] s (endMove id note s) := by
  unfold endMove; (repeat' split) <;> simp (maxDischargeDepth := 6) [covers]

@[simp] theorem only_endMove {id : Nat} {note : Option (MoveEnd → NoticeBody)} {hs : List Group} {u s : Part}
    (cov : covers hs [.zones, .portals, .pallets, .credits, .ports] = true) : Only hs u (endMove id note s) ↔ Only hs u s :=
  (endMove_only id note s).iff cov

theorem warnCheck_only (id : Nat) (s : Part) :
    Only [.pallets, .alarms, .ports] s (warnCheck id s) := by
  unfold warnCheck; dsimp only; (repeat' split) <;> simp (maxDischargeDepth := 6) [covers]

@[simp] theorem only_warnCheck {id : Nat} {hs : List Group} {u s : Part}
    (cov : covers hs [.pallets, .alarms, .ports] = true) : Only hs u (warnCheck id s) ↔ Only hs u s :=
  (warnCheck_only id s).iff cov

theorem holdCheck_only (id : Nat) (s : Part) :
    Only [.zones, .portals, .pallets, .credits, .alarms, .ports] s (holdCheck id s) := by
  unfold holdCheck; dsimp only; (repeat' split) <;> simp (maxDischargeDepth := 6) [covers]

@[simp] theorem only_holdCheck {id : Nat} {hs : List Group} {u s : Part}
    (cov : covers hs [.zones, .portals, .pallets, .credits, .alarms, .ports] = true) : Only hs u (holdCheck id s) ↔ Only hs u s :=
  (holdCheck_only id s).iff cov

theorem dwellCheck_only (id : Nat) (s : Part) :
    Only [.pallets, .alarms, .ports] s (dwellCheck id s) := by
  unfold dwellCheck; (repeat' split) <;> simp [covers]

@[simp] theorem only_dwellCheck {id : Nat} {hs : List Group} {u s : Part}
    (cov : covers hs [.pallets, .alarms, .ports] = true) : Only hs u (dwellCheck id s) ↔ Only hs u s :=
  (dwellCheck_only id s).iff cov

theorem updatePallet_only (id : Nat) (s : Part) :
    Only [.zones, .portals, .pallets, .credits, .alarms, .ports] s (updatePallet id s) := by
  unfold updatePallet; (repeat' split) <;> simp [covers]

@[simp] theorem only_updatePallet {id : Nat} {hs : List Group} {u s : Part}
    (cov : covers hs [.zones, .portals, .pallets, .credits, .alarms, .ports] = true) : Only hs u (updatePallet id s) ↔ Only hs u s :=
  (updatePallet_only id s).iff cov

theorem updateAt_only (l : Loc) (s : Part) :
    Only [.zones, .portals, .pallets, .credits, .alarms, .ports] s (updateAt l s) := by
  simp [updateAt, covers]

@[simp] theorem only_updateAt {l : Loc} {hs : List Group} {u s : Part}
    (cov : covers hs [.zones, .portals, .pallets, .credits, .alarms, .ports] = true) : Only hs u (updateAt l s) ↔ Only hs u s :=
  (updateAt_only l s).iff cov

theorem updateAll_only (s : Part) :
    Only [.zones, .portals, .pallets, .credits, .alarms, .ports] s (updateAll s) := by
  simp [updateAll, covers]

@[simp] theorem only_updateAll {hs : List Group} {u s : Part}
    (cov : covers hs [.zones, .portals, .pallets, .credits, .alarms, .ports] = true) : Only hs u (updateAll s) ↔ Only hs u s :=
  (updateAll_only s).iff cov

theorem passLocation_only (id : Nat) (door : DoorRef) (dir : Direction) (s : Part) :
    Only [.pallets, .ports] s (passLocation id door dir s) := by
  unfold passLocation; split <;> simp [covers]

@[simp] theorem only_passLocation {id : Nat} {door : DoorRef} {dir : Direction} {hs : List Group} {u s : Part}
    (cov : covers hs [.pallets, .ports] = true) : Only hs u (passLocation id door dir s) ↔ Only hs u s :=
  (passLocation_only id door dir s).iff cov

theorem passMove_only (id : Nat) (door : DoorRef) (dir : Direction) (s : Part) :
    Only [.zones, .portals, .pallets, .credits, .ports] s (passMove id door dir s) := by
  unfold passMove; (repeat' split) <;> simp [covers]

@[simp] theorem only_passMove {id : Nat} {door : DoorRef} {dir : Direction} {hs : List Group} {u s : Part}
    (cov : covers hs [.zones, .portals, .pallets, .credits, .ports] = true) : Only hs u (passMove id door dir s) ↔ Only hs u s :=
  (passMove_only id door dir s).iff cov

theorem passHall_only (id : Nat) (old : Loc) (s : Part) :
    Only [.pallets, .credits] s (passHall id old s) := by
  have hc (t : Part) (n : Nat) : Only [.pallets, .credits] t { t with credits := n } :=
    ⟨fun g h => by cases g <;> simp_all [Group.same], rfl, rfl, rfl⟩
  have hp (f : Pallet → Pallet) (t : Part) : Only [.pallets, .credits] t (modPallet id f t) := (modPallet_only _ f t).mono rfl
  unfold passHall; dsimp only
  split
  · exact .refl _ _
  · split
    · exact .refl _ _
    · split
      · repeat' split
        all_goals first | exact hp _ _ | exact (hp _ _).trans (hc _ _)
      · split
        · exact (hp _ _).trans (hc _ _)
        · exact .refl _ _

@[simp] theorem only_passHall {id : Nat} {old : Loc} {hs : List Group} {u s : Part}
    (cov : covers hs [.pallets, .credits] = true) : Only hs u (passHall id old s) ↔ Only hs u s :=
  (passHall_only id old s).iff cov

theorem passHandOn_only (door : DoorRef) (s : Part) :
    Only [.zones, .docks, .portals, .ports] s (passHandOn door s) := by
  unfold passHandOn; split <;> simp [covers]

@[simp] theorem only_passHandOn {door : DoorRef} {hs : List Group} {u s : Part}
    (cov : covers hs [.zones, .docks, .portals, .ports] = true) : Only hs u (passHandOn door s) ↔ Only hs u s :=
  (passHandOn_only door s).iff cov

theorem processPass_only (door : DoorRef) (x : Pass) (s : Part) :
    Only [.zones, .docks, .portals, .pallets, .credits, .alarms, .ports] s (processPass door x s) := by
  unfold processPass; split <;> simp [covers]

@[simp] theorem only_processPass {door : DoorRef} {x : Pass} {hs : List Group} {u s : Part}
    (cov : covers hs [.zones, .docks, .portals, .pallets, .credits, .alarms, .ports] = true) : Only hs u (processPass door x s) ↔ Only hs u s :=
  (processPass_only door x s).iff cov

theorem changeSlot_only (d : DoorId) (f : Slot → Slot) (s : Part) :
    Only [.docks, .slots] s (changeSlot d f s) := by
  simp [changeSlot, covers]

@[simp] theorem only_changeSlot {d : DoorId} {f : Slot → Slot} {hs : List Group} {u s : Part}
    (cov : covers hs [.docks, .slots] = true) : Only hs u (changeSlot d f s) ↔ Only hs u s :=
  (changeSlot_only d f s).iff cov

theorem emptySlotAt_only (d : DoorId) (s : Part) :
    Only [.docks, .slots] s (emptySlotAt d s) := by
  simp [emptySlotAt, covers]

@[simp] theorem only_emptySlotAt {d : DoorId} {hs : List Group} {u s : Part}
    (cov : covers hs [.docks, .slots] = true) : Only hs u (emptySlotAt d s) ↔ Only hs u s :=
  (emptySlotAt_only d s).iff cov

theorem faultSlot_only (d : DoorId) (c : LoadCause) (n : Nat) (s : Part) :
    Only [.docks, .slots, .ports] s (faultSlot d c n s) := by
  simp [faultSlot, covers]

@[simp] theorem only_faultSlot {d : DoorId} {c : LoadCause} {n : Nat} {hs : List Group} {u s : Part}
    (cov : covers hs [.docks, .slots, .ports] = true) : Only hs u (faultSlot d c n s) ↔ Only hs u s :=
  (faultSlot_only d c n s).iff cov

theorem trailerEnded_only (d : DoorId) (s : Part) :
    Only [.zones, .docks, .portals, .slots, .pallets, .credits, .alarms, .ports] s (trailerEnded d s) := by
  have hl (x : Part × List LeftEntry) (id : Nat) :
      Only [.zones, .docks, .portals, .slots, .pallets, .credits, .alarms, .ports] x.1 (leaveOnTrailer x id).1 := by
    simp [leaveOnTrailer, covers]
  have hf (l : List Nat) (x : Part × List LeftEntry) :
      Only [.zones, .docks, .portals, .slots, .pallets, .credits, .alarms, .ports] x.1 (l.foldl leaveOnTrailer x).1 := by
    induction l generalizing x with
    | nil => exact .refl _ _
    | cons a l ih => exact (hl x a).trans (ih _)
  have key (l m : List Nat) : Only [.zones, .docks, .portals, .slots, .pallets, .credits, .alarms, .ports] s
      (m.foldl leaveOnTrailer (forList l (fun id => endMove id (some (NoticeBody.moveCancelled · .trailerGone))) s, [])).1 :=
    Only.trans (by simp [covers]) (hf _ _)
  unfold trailerEnded; dsimp only
  rw [only_emptySlotAt rfl]
  repeat' split
  · simpa [covers] using key _ _
  · exact key _ _
  · simpa (maxDischargeDepth := 4) [covers] using key _ _

@[simp] theorem only_trailerEnded {d : DoorId} {hs : List Group} {u s : Part}
    (cov : covers hs [.zones, .docks, .portals, .slots, .pallets, .credits, .alarms, .ports] = true) : Only hs u (trailerEnded d s) ↔ Only hs u s :=
  (trailerEnded_only d s).iff cov

theorem finishVacant_only (d : DoorId) (s : Part) :
    Only [.zones, .docks, .portals, .slots, .pallets, .credits, .alarms, .ports] s (finishVacant d s) := by
  simp [finishVacant, covers]

@[simp] theorem only_finishVacant {d : DoorId} {hs : List Group} {u s : Part}
    (cov : covers hs [.zones, .docks, .portals, .slots, .pallets, .credits, .alarms, .ports] = true) : Only hs u (finishVacant d s) ↔ Only hs u s :=
  (finishVacant_only d s).iff cov

/-! ### Field loop (LoopOps.lean) -/

theorem recomputeTemp_only (z : ZoneId) (s : Part) :
    Only [.zones, .alarms, .ports] s (recomputeTemp z s) := by
  unfold recomputeTemp; split <;> simp [covers]

@[simp] theorem only_recomputeTemp {z : ZoneId} {hs : List Group} {u s : Part}
    (cov : covers hs [.zones, .alarms, .ports] = true) : Only hs u (recomputeTemp z s) ↔ Only hs u s :=
  (recomputeTemp_only z s).iff cov

theorem recompute_only (z : ZoneId) (s : Part) :
    Only [.zones, .docks, .portals, .evaps, .batches, .alarms, .ports] s (recompute z s) := by
  unfold recompute; dsimp only; (repeat' split) <;> simp [covers]

@[simp] theorem only_recompute {z : ZoneId} {hs : List Group} {u s : Part}
    (cov : covers hs [.zones, .docks, .portals, .evaps, .batches, .alarms, .ports] = true) : Only hs u (recompute z s) ↔ Only hs u s :=
  (recompute_only z s).iff cov

theorem recomputeOpt_only (z : Option ZoneId) (s : Part) :
    Only [.zones, .docks, .portals, .evaps, .batches, .alarms, .ports] s (recomputeOpt z s) := by
  unfold recomputeOpt; split <;> simp [covers]

@[simp] theorem only_recomputeOpt {z : Option ZoneId} {hs : List Group} {u s : Part}
    (cov : covers hs [.zones, .docks, .portals, .evaps, .batches, .alarms, .ports] = true) : Only hs u (recomputeOpt z s) ↔ Only hs u s :=
  (recomputeOpt_only z s).iff cov

theorem probeEvent_only (t : ProbeId) (r : Option Int) (s : Part) :
    Only [.probes, .zones, .docks, .portals, .evaps, .batches, .alarms, .ports] s (probeEvent t r s) := by
  unfold probeEvent; dsimp only; (repeat' split) <;> simp (maxDischargeDepth := 6) [covers]

@[simp] theorem only_probeEvent {t : ProbeId} {r : Option Int} {hs : List Group} {u s : Part}
    (cov : covers hs [.probes, .zones, .docks, .portals, .evaps, .batches, .alarms, .ports] = true) : Only hs u (probeEvent t r s) ↔ Only hs u s :=
  (probeEvent_only t r s).iff cov

theorem accrueDock_only (d : DoorId) (o : Bool) (s : Part) :
    Only [.zones, .docks, .evaps, .batches] s (accrueDock d o s) := by
  unfold accrueDock; split <;> simp [covers]

@[simp] theorem only_accrueDock {d : DoorId} {o : Bool} {hs : List Group} {u s : Part}
    (cov : covers hs [.zones, .docks, .evaps, .batches] = true) : Only hs u (accrueDock d o s) ↔ Only hs u s :=
  (accrueDock_only d o s).iff cov

theorem accruePortal_only (q : PortalId) (o : Bool) (s : Part) :
    Only [.zones, .portals, .evaps, .batches] s (accruePortal q o s) := by
  unfold accruePortal; split <;> simp [covers]

@[simp] theorem only_accruePortal {q : PortalId} {o : Bool} {hs : List Group} {u s : Part}
    (cov : covers hs [.zones, .portals, .evaps, .batches] = true) : Only hs u (accruePortal q o s) ↔ Only hs u s :=
  (accruePortal_only q o s).iff cov

theorem handOn_only (z : ZoneId) (s : Part) :
    Only [.zones, .docks, .portals, .evaps, .batches, .alarms, .ports] s (handOn z s) := by
  simp [handOn, covers]

@[simp] theorem only_handOn {z : ZoneId} {hs : List Group} {u s : Part}
    (cov : covers hs [.zones, .docks, .portals, .evaps, .batches, .alarms, .ports] = true) : Only hs u (handOn z s) ↔ Only hs u s :=
  (handOn_only z s).iff cov

theorem takeDockState_only (d : DoorId) (r : DockReport) (s : Part) :
    Only [.zones, .docks, .portals, .slots, .pallets, .credits, .alarms, .ports] s (takeDockState d r s) := by
  unfold takeDockState; split <;> simp [covers]

@[simp] theorem only_takeDockState {d : DoorId} {r : DockReport} {hs : List Group} {u s : Part}
    (cov : covers hs [.zones, .docks, .portals, .slots, .pallets, .credits, .alarms, .ports] = true) : Only hs u (takeDockState d r s) ↔ Only hs u s :=
  (takeDockState_only d r s).iff cov

theorem storeDockReport_only (d : DoorId) (r : DockReport) (s : Part) :
    Only [.docks] s (storeDockReport d r s) := by
  simp [storeDockReport, covers]

@[simp] theorem only_storeDockReport {d : DoorId} {r : DockReport} {hs : List Group} {u s : Part}
    (cov : covers hs [.docks] = true) : Only hs u (storeDockReport d r s) ↔ Only hs u s :=
  (storeDockReport_only d r s).iff cov

theorem storePortalReport_only (q : PortalId) (x : Position) (s : Part) :
    Only [.portals] s (storePortalReport q x s) := by
  simp [storePortalReport, covers]

@[simp] theorem only_storePortalReport {q : PortalId} {x : Position} {hs : List Group} {u s : Part}
    (cov : covers hs [.portals] = true) : Only hs u (storePortalReport q x s) ↔ Only hs u s :=
  (storePortalReport_only q x s).iff cov

theorem dockFaultReport_only (d : DoorId) (r : DockReport) (s : Part) :
    Only [.zones, .docks, .portals, .slots, .pallets, .credits, .alarms, .ports] s (dockFaultReport d r s) := by
  unfold dockFaultReport; dsimp only; (repeat' split) <;> simp (maxDischargeDepth := 6) [covers]

@[simp] theorem only_dockFaultReport {d : DoorId} {r : DockReport} {hs : List Group} {u s : Part}
    (cov : covers hs [.zones, .docks, .portals, .slots, .pallets, .credits, .alarms, .ports] = true) : Only hs u (dockFaultReport d r s) ↔ Only hs u s :=
  (dockFaultReport_only d r s).iff cov

theorem sealProven_only (d : DoorId) (s : Part) :
    Only [.docks, .ports] s (sealProven d s) := by
  simp [sealProven, covers]

@[simp] theorem only_sealProven {d : DoorId} {hs : List Group} {u s : Part}
    (cov : covers hs [.docks, .ports] = true) : Only hs u (sealProven d s) ↔ Only hs u s :=
  (sealProven_only d s).iff cov

theorem doorClosed_only (d : DoorId) (b : Bool) (s : Part) :
    Only [.docks] s (doorClosed d b s) := by
  simp [doorClosed, covers]

@[simp] theorem only_doorClosed {d : DoorId} {b : Bool} {hs : List Group} {u s : Part}
    (cov : covers hs [.docks] = true) : Only hs u (doorClosed d b s) ↔ Only hs u s :=
  (doorClosed_only d b s).iff cov

theorem breachDock_only (d : DoorId) (s : Part) :
    Only [.docks, .alarms, .ports] s (breachDock d s) := by
  simp [breachDock, covers]

@[simp] theorem only_breachDock {d : DoorId} {hs : List Group} {u s : Part}
    (cov : covers hs [.docks, .alarms, .ports] = true) : Only hs u (breachDock d s) ↔ Only hs u s :=
  (breachDock_only d s).iff cov

theorem applyRow_only (d : DoorId) (r : DockReport) (n : Nat) (s : Part) :
    Only [.zones, .docks, .portals, .slots, .pallets, .credits, .alarms, .ports] s (applyRow d r n s) := by
  unfold applyRow; split <;> simp [covers]

@[simp] theorem only_applyRow {d : DoorId} {r : DockReport} {n : Nat} {hs : List Group} {u s : Part}
    (cov : covers hs [.zones, .docks, .portals, .slots, .pallets, .credits, .alarms, .ports] = true) : Only hs u (applyRow d r n s) ↔ Only hs u s :=
  (applyRow_only d r n s).iff cov

theorem dockReportState_only (d : DoorId) (r : DockReport) (s : Part) :
    Only [.zones, .docks, .portals, .slots, .pallets, .credits, .alarms, .ports] s (dockReportState d r s) := by
  unfold dockReportState; split <;> simp [covers]

@[simp] theorem only_dockReportState {d : DoorId} {r : DockReport} {hs : List Group} {u s : Part}
    (cov : covers hs [.zones, .docks, .portals, .slots, .pallets, .credits, .alarms, .ports] = true) : Only hs u (dockReportState d r s) ↔ Only hs u s :=
  (dockReportState_only d r s).iff cov

theorem dockReportEvent_only (d : DoorId) (r : DockReport) (s : Part) :
    Only [.slots, .pallets, .credits, .zones, .docks, .portals, .evaps, .batches, .alarms, .ports] s (dockReportEvent d r s) := by
  simp [dockReportEvent, covers]

@[simp] theorem only_dockReportEvent {d : DoorId} {r : DockReport} {hs : List Group} {u s : Part}
    (cov : covers hs [.slots, .pallets, .credits, .zones, .docks, .portals, .evaps, .batches, .alarms, .ports] = true) : Only hs u (dockReportEvent d r s) ↔ Only hs u s :=
  (dockReportEvent_only d r s).iff cov

theorem buttonEvent_only (d : DoorId) (s : Part) :
    Only [.zones, .docks, .portals, .evaps, .batches, .alarms, .ports] s (buttonEvent d s) := by
  unfold buttonEvent askDock; dsimp only
  repeat' split
  all_goals simp (maxDischargeDepth := 6) [covers]

@[simp] theorem only_buttonEvent {d : DoorId} {hs : List Group} {u s : Part}
    (cov : covers hs [.zones, .docks, .portals, .evaps, .batches, .alarms, .ports] = true) : Only hs u (buttonEvent d s) ↔ Only hs u s :=
  (buttonEvent_only d s).iff cov

theorem takePortalReported_only (q : PortalId) (s : Part) : Only [.portals] s (takePortalReported q s) := by
  simp [takePortalReported, covers]

@[simp] theorem only_takePortalReported {q : PortalId} {hs : List Group} {u s : Part}
    (cov : covers hs [.portals] = true) : Only hs u (takePortalReported q s) ↔ Only hs u s :=
  (takePortalReported_only q s).iff cov

theorem portalFaultReport_only (q : PortalId) (x : Position) (s : Part) :
    Only [.portals, .alarms, .ports] s (portalFaultReport q x s) := by
  unfold portalFaultReport; dsimp only; (repeat' split) <;> simp (maxDischargeDepth := 6) [covers]

@[simp] theorem only_portalFaultReport {q : PortalId} {x : Position} {hs : List Group} {u s : Part}
    (cov : covers hs [.portals, .alarms, .ports] = true) : Only hs u (portalFaultReport q x s) ↔ Only hs u s :=
  (portalFaultReport_only q x s).iff cov

theorem portalReportState_only (q : PortalId) (x : Position) (s : Part) :
    Only [.portals, .alarms, .ports] s (portalReportState q x s) := by
  unfold portalReportState; split <;> simp [covers]

@[simp] theorem only_portalReportState {q : PortalId} {x : Position} {hs : List Group} {u s : Part}
    (cov : covers hs [.portals, .alarms, .ports] = true) : Only hs u (portalReportState q x s) ↔ Only hs u s :=
  (portalReportState_only q x s).iff cov

theorem portalReportEvent_only (q : PortalId) (x : Position) (s : Part) :
    Only [.zones, .docks, .portals, .evaps, .batches, .alarms, .ports] s (portalReportEvent q x s) := by
  simp [portalReportEvent, covers]

@[simp] theorem only_portalReportEvent {q : PortalId} {x : Position} {hs : List Group} {u s : Part}
    (cov : covers hs [.zones, .docks, .portals, .evaps, .batches, .alarms, .ports] = true) : Only hs u (portalReportEvent q x s) ↔ Only hs u s :=
  (portalReportEvent_only q x s).iff cov

theorem evapFault_only (e : EvapId) (c : FaultCause) (s : Part) :
    Only [.evaps] s (evapFault e c s) := by
  simp [evapFault, covers]

@[simp] theorem only_evapFault {e : EvapId} {c : FaultCause} {hs : List Group} {u s : Part}
    (cov : covers hs [.evaps] = true) : Only hs u (evapFault e c s) ↔ Only hs u s :=
  (evapFault_only e c s).iff cov

theorem refreezeCheck_only (z : ZoneId) (s : Part) :
    Only [.zones, .portals, .evaps, .batches, .alarms, .ports] s (refreezeCheck z s) := by
  unfold refreezeCheck; (repeat' split) <;> simp [covers]

@[simp] theorem only_refreezeCheck {z : ZoneId} {hs : List Group} {u s : Part}
    (cov : covers hs [.zones, .portals, .evaps, .batches, .alarms, .ports] = true) : Only hs u (refreezeCheck z s) ↔ Only hs u s :=
  (refreezeCheck_only z s).iff cov

theorem loseMember_only (e : EvapId) (c : FaultCause) (n : Nat) (s : Part) :
    Only [.evaps, .batches] s (loseMember e c n s) := by
  simp [loseMember, covers]

@[simp] theorem only_loseMember {e : EvapId} {c : FaultCause} {n : Nat} {hs : List Group} {u s : Part}
    (cov : covers hs [.evaps, .batches] = true) : Only hs u (loseMember e c n s) ↔ Only hs u s :=
  (loseMember_only e c n s).iff cov

theorem leaveBatch_only (e : EvapId) (s : Part) :
    Only [.zones, .portals, .evaps, .batches, .alarms, .ports] s (leaveBatch e s) := by
  unfold leaveBatch; split <;> simp [covers]

@[simp] theorem only_leaveBatch {e : EvapId} {hs : List Group} {u s : Part}
    (cov : covers hs [.zones, .portals, .evaps, .batches, .alarms, .ports] = true) : Only hs u (leaveBatch e s) ↔ Only hs u s :=
  (leaveBatch_only e s).iff cov

theorem evapLost_only (e : EvapId) (n : Nat) (s : Part) :
    Only [.zones, .docks, .portals, .evaps, .batches, .alarms, .ports] s (evapLost e n s) := by
  unfold evapLost; dsimp only; (repeat' split) <;> simp (maxDischargeDepth := 6) [covers]

@[simp] theorem only_evapLost {e : EvapId} {n : Nat} {hs : List Group} {u s : Part}
    (cov : covers hs [.zones, .docks, .portals, .evaps, .batches, .alarms, .ports] = true) : Only hs u (evapLost e n s) ↔ Only hs u s :=
  (evapLost_only e n s).iff cov

theorem evapRestored_only (e : EvapId) (s : Part) :
    Only [.evaps, .batches] s (evapRestored e s) := by
  unfold evapRestored; dsimp only; (repeat' split) <;> simp (maxDischargeDepth := 6) [covers]

@[simp] theorem only_evapRestored {e : EvapId} {hs : List Group} {u s : Part}
    (cov : covers hs [.evaps, .batches] = true) : Only hs u (evapRestored e s) ↔ Only hs u s :=
  (evapRestored_only e s).iff cov

theorem noCurrentCheck_only (e : EvapId) (h c : Bool) (s : Part) :
    Only [.zones, .docks, .portals, .evaps, .batches, .alarms, .ports] s (noCurrentCheck e h c s) := by
  unfold noCurrentCheck; dsimp only; (repeat' split) <;> simp (maxDischargeDepth := 6) [covers]

@[simp] theorem only_noCurrentCheck {e : EvapId} {h c : Bool} {hs : List Group} {u s : Part}
    (cov : covers hs [.zones, .docks, .portals, .evaps, .batches, .alarms, .ports] = true) : Only hs u (noCurrentCheck e h c s) ↔ Only hs u s :=
  (noCurrentCheck_only e h c s).iff cov

theorem stuckCheck_only (e : EvapId) (h c : Bool) (s : Part) :
    Only [.evaps, .alarms, .ports] s (stuckCheck e h c s) := by
  simp [stuckCheck, covers]

@[simp] theorem only_stuckCheck {e : EvapId} {h c : Bool} {hs : List Group} {u s : Part}
    (cov : covers hs [.evaps, .alarms, .ports] = true) : Only hs u (stuckCheck e h c s) ↔ Only hs u s :=
  (stuckCheck_only e h c s).iff cov

theorem terminationCheck_only (e : EvapId) (x : Option Int) (s : Part) :
    Only [.zones, .docks, .portals, .evaps, .batches, .alarms, .ports] s (terminationCheck e x s) := by
  unfold terminationCheck; split <;> simp [covers]

@[simp] theorem only_terminationCheck {e : EvapId} {x : Option Int} {hs : List Group} {u s : Part}
    (cov : covers hs [.zones, .docks, .portals, .evaps, .batches, .alarms, .ports] = true) : Only hs u (terminationCheck e x s) ↔ Only hs u s :=
  (terminationCheck_only e x s).iff cov

theorem fanCheck_only (e : EvapId) (x : Option Int) (s : Part) :
    Only [.zones, .portals, .evaps, .batches, .alarms, .ports] s (fanCheck e x s) := by
  unfold fanCheck; split <;> simp [covers]

@[simp] theorem only_fanCheck {e : EvapId} {x : Option Int} {hs : List Group} {u s : Part}
    (cov : covers hs [.zones, .portals, .evaps, .batches, .alarms, .ports] = true) : Only hs u (fanCheck e x s) ↔ Only hs u s :=
  (fanCheck_only e x s).iff cov

theorem evapReportEvent_only (e : EvapId) (r : EvapReport) (h : Bool) (s : Part) :
    Only [.zones, .docks, .portals, .evaps, .batches, .alarms, .ports] s (evapReportEvent e r h s) := by
  simp [evapReportEvent, covers]

@[simp] theorem only_evapReportEvent {e : EvapId} {r : EvapReport} {h : Bool} {hs : List Group} {u s : Part}
    (cov : covers hs [.zones, .docks, .portals, .evaps, .batches, .alarms, .ports] = true) : Only hs u (evapReportEvent e r h s) ↔ Only hs u s :=
  (evapReportEvent_only e r h s).iff cov

theorem dockLost_only (d : DoorId) (n : Nat) (s : Part) :
    Only [.zones, .docks, .evaps, .batches, .alarms, .ports] s (dockLost d n s) := by
  simp [dockLost, covers]

@[simp] theorem only_dockLost {d : DoorId} {n : Nat} {hs : List Group} {u s : Part}
    (cov : covers hs [.zones, .docks, .evaps, .batches, .alarms, .ports] = true) : Only hs u (dockLost d n s) ↔ Only hs u s :=
  (dockLost_only d n s).iff cov

theorem portalLost_only (q : PortalId) (n : Nat) (s : Part) :
    Only [.zones, .portals, .evaps, .batches, .alarms, .ports] s (portalLost q n s) := by
  simp [portalLost, covers]

@[simp] theorem only_portalLost {q : PortalId} {n : Nat} {hs : List Group} {u s : Part}
    (cov : covers hs [.zones, .portals, .evaps, .batches, .alarms, .ports] = true) : Only hs u (portalLost q n s) ↔ Only hs u s :=
  (portalLost_only q n s).iff cov

theorem stationLost_only (a : StationId) (s : Part) :
    Only [.zones, .docks, .portals, .evaps, .batches, .alarms, .ports] s (stationLost a s) := by
  simp [stationLost, covers]

@[simp] theorem only_stationLost {a : StationId} {hs : List Group} {u s : Part}
    (cov : covers hs [.zones, .docks, .portals, .evaps, .batches, .alarms, .ports] = true) : Only hs u (stationLost a s) ↔ Only hs u s :=
  (stationLost_only a s).iff cov

theorem stationRestored_only (a : StationId) (s : Part) :
    Only [.evaps, .batches] s (stationRestored a s) := by
  simp [stationRestored, covers]

@[simp] theorem only_stationRestored {a : StationId} {hs : List Group} {u s : Part}
    (cov : covers hs [.evaps, .batches] = true) : Only hs u (stationRestored a s) ↔ Only hs u s :=
  (stationRestored_only a s).iff cov

theorem accountMiss_only (a : StationId) (s : Part) :
    Only [.loop, .zones, .docks, .portals, .evaps, .batches, .alarms, .ports] s (accountMiss a s) := by
  simp [accountMiss, covers]

@[simp] theorem only_accountMiss {a : StationId} {hs : List Group} {u s : Part}
    (cov : covers hs [.loop, .zones, .docks, .portals, .evaps, .batches, .alarms, .ports] = true) : Only hs u (accountMiss a s) ↔ Only hs u s :=
  (accountMiss_only a s).iff cov

theorem accountGood_only (a : StationId) (s : Part) :
    Only [.loop, .evaps, .batches, .alarms, .ports] s (accountGood a s) := by
  simp [accountGood, covers]

@[simp] theorem only_accountGood {a : StationId} {hs : List Group} {u s : Part}
    (cov : covers hs [.loop, .evaps, .batches, .alarms, .ports] = true) : Only hs u (accountGood a s) ↔ Only hs u s :=
  (accountGood_only a s).iff cov

theorem missInFlight_only (s : Part) :
    Only [.loop, .zones, .docks, .portals, .evaps, .batches, .alarms, .ports] s (missInFlight s) := by
  unfold missInFlight; (repeat' split) <;> simp [covers]

@[simp] theorem only_missInFlight {hs : List Group} {u s : Part}
    (cov : covers hs [.loop, .zones, .docks, .portals, .evaps, .batches, .alarms, .ports] = true) : Only hs u (missInFlight s) ↔ Only hs u s :=
  (missInFlight_only s).iff cov

theorem takeSection_only (a : StationId) (x : EventSection) (s : Part) :
    Only [.loop] s (takeSection a x s) := by
  simp [takeSection, covers]

@[simp] theorem only_takeSection {a : StationId} {x : EventSection} {hs : List Group} {u s : Part}
    (cov : covers hs [.loop] = true) : Only hs u (takeSection a x s) ↔ Only hs u s :=
  (takeSection_only a x s).iff cov

theorem deliverPasses_only (door : DoorRef) (ps : List Pass) (s : Part) :
    Only [.zones, .docks, .portals, .pallets, .credits, .alarms, .ports] s (deliverPasses door ps s) := by
  simp [deliverPasses, covers]

@[simp] theorem only_deliverPasses {door : DoorRef} {ps : List Pass} {hs : List Group} {u s : Part}
    (cov : covers hs [.zones, .docks, .portals, .pallets, .credits, .alarms, .ports] = true) : Only hs u (deliverPasses door ps s) ↔ Only hs u s :=
  (deliverPasses_only door ps s).iff cov

theorem deliverDock_only (a : StationId) (r : DockReport) (s : Part) :
    Only [.slots, .pallets, .credits, .zones, .docks, .portals, .evaps, .batches, .alarms, .ports] s (deliverDock a r s) := by
  simp (maxDischargeDepth := 6) [deliverDock, covers]

@[simp] theorem only_deliverDock {a : StationId} {r : DockReport} {hs : List Group} {u s : Part}
    (cov : covers hs [.slots, .pallets, .credits, .zones, .docks, .portals, .evaps, .batches, .alarms, .ports] = true) : Only hs u (deliverDock a r s) ↔ Only hs u s :=
  (deliverDock_only a r s).iff cov

theorem deliverPortal_only (a : StationId) (r : PortalReport) (s : Part) :
    Only [.pallets, .credits, .zones, .docks, .portals, .evaps, .batches, .alarms, .ports] s (deliverPortal a r s) := by
  simp (maxDischargeDepth := 6) [deliverPortal, covers]

@[simp] theorem only_deliverPortal {a : StationId} {r : PortalReport} {hs : List Group} {u s : Part}
    (cov : covers hs [.pallets, .credits, .zones, .docks, .portals, .evaps, .batches, .alarms, .ports] = true) : Only hs u (deliverPortal a r s) ↔ Only hs u s :=
  (deliverPortal_only a r s).iff cov

theorem deliverEvap_only (a : StationId) (i : Image) (r : EvapReport) (s : Part) :
    Only [.zones, .docks, .portals, .evaps, .batches, .alarms, .ports] s (deliverEvap a i r s) := by
  simp [deliverEvap, covers]

@[simp] theorem only_deliverEvap {a : StationId} {i : Image} {r : EvapReport} {hs : List Group} {u s : Part}
    (cov : covers hs [.zones, .docks, .portals, .evaps, .batches, .alarms, .ports] = true) : Only hs u (deliverEvap a i r s) ↔ Only hs u s :=
  (deliverEvap_only a i r s).iff cov

theorem deliverProbe_only (a : StationId) (r : Vector ProbeEntry 4) (s : Part) :
    Only [.probes, .zones, .docks, .portals, .evaps, .batches, .alarms, .ports] s (deliverProbe a r s) := by
  simp (maxDischargeDepth := 6) [deliverProbe, covers]

@[simp] theorem only_deliverProbe {a : StationId} {r : Vector ProbeEntry 4} {hs : List Group} {u s : Part}
    (cov : covers hs [.probes, .zones, .docks, .portals, .evaps, .batches, .alarms, .ports] = true) : Only hs u (deliverProbe a r s) ↔ Only hs u s :=
  (deliverProbe_only a r s).iff cov

/-! ### Ports (PortOps.lean) -/

theorem restorePort_only (p : Port) (s : Part) :
    Only [.heatSlots, .zones, .docks, .portals, .evaps, .batches, .alarms, .ports] s (restorePort p s) := by
  unfold restorePort; split <;> simp [covers]

@[simp] theorem only_restorePort {p : Port} {hs : List Group} {u s : Part}
    (cov : covers hs [.heatSlots, .zones, .docks, .portals, .evaps, .batches, .alarms, .ports] = true) : Only hs u (restorePort p s) ↔ Only hs u s :=
  (restorePort_only p s).iff cov

theorem zonesSilent_only (s : Part) :
    Only [.zones, .docks, .portals, .evaps, .batches, .alarms, .ports] s (zonesSilent s) := by
  simp (maxDischargeDepth := 6) [zonesSilent, covers]

@[simp] theorem only_zonesSilent {hs : List Group} {u s : Part}
    (cov : covers hs [.zones, .docks, .portals, .evaps, .batches, .alarms, .ports] = true) : Only hs u (zonesSilent s) ↔ Only hs u s :=
  (zonesSilent_only s).iff cov

theorem doorsSilent_only (s : Part) :
    Only [.docks, .ports] s (doorsSilent s) := by
  simp (maxDischargeDepth := 6) [doorsSilent, covers]

@[simp] theorem only_doorsSilent {hs : List Group} {u s : Part}
    (cov : covers hs [.docks, .ports] = true) : Only hs u (doorsSilent s) ↔ Only hs u s :=
  (doorsSilent_only s).iff cov

theorem warehouseSilent_only (s : Part) :
    Only [.zones, .docks, .portals, .evaps, .batches, .alarms, .ports] s (warehouseSilent s) := by
  unfold warehouseSilent; simp (maxDischargeDepth := 6) [covers]

@[simp] theorem only_warehouseSilent {hs : List Group} {u s : Part}
    (cov : covers hs [.zones, .docks, .portals, .evaps, .batches, .alarms, .ports] = true) : Only hs u (warehouseSilent s) ↔ Only hs u s :=
  (warehouseSilent_only s).iff cov

theorem stationLeaves_only (a : StationId) (s : Part) :
    Only [.loop, .alarms, .ports] s (stationLeaves a s) := by
  have hl (t : Part) (l : Loop) : Only [.loop, .alarms, .ports] t { t with loop := l } :=
    ⟨fun g h => by cases g <;> simp_all [Group.same], rfl, rfl, rfl⟩
  unfold stationLeaves; dsimp only
  rw [only_endCondition rfl]
  exact ((modStation_only a _ s).mono rfl).trans (hl _ _)

@[simp] theorem only_stationLeaves {a : StationId} {hs : List Group} {u s : Part}
    (cov : covers hs [.loop, .alarms, .ports] = true) : Only hs u (stationLeaves a s) ↔ Only hs u s :=
  (stationLeaves_only a s).iff cov

theorem stationBegins_only (a : StationId) (s : Part) :
    Only [.loop] s (stationBegins a s) := by
  have hl (t : Part) (l : Loop) : Only [.loop] t { t with loop := l } := ⟨fun g h => by cases g <;> simp_all [Group.same], rfl, rfl, rfl⟩
  exact (modStation_only a _ s).trans (hl _ _)

@[simp] theorem only_stationBegins {a : StationId} {hs : List Group} {u s : Part}
    (cov : covers hs [.loop] = true) : Only hs u (stationBegins a s) ↔ Only hs u s :=
  (stationBegins_only a s).iff cov

theorem stationWritten_only (a : StationId) (o x : StationCfg) (s : Part) :
    Only [.loop, .alarms, .ports] s (stationWritten a o x s) := by
  unfold stationWritten; (repeat' split) <;> simp [covers]

@[simp] theorem only_stationWritten {a : StationId} {o x : StationCfg} {hs : List Group} {u s : Part}
    (cov : covers hs [.loop, .alarms, .ports] = true) : Only hs u (stationWritten a o x s) ↔ Only hs u s :=
  (stationWritten_only a o x s).iff cov

theorem clearProbe_only (t : ProbeId) (s : Part) :
    Only [.probes] s (clearProbe t s) := by
  simp [clearProbe, covers]

@[simp] theorem only_clearProbe {t : ProbeId} {hs : List Group} {u s : Part}
    (cov : covers hs [.probes] = true) : Only hs u (clearProbe t s) ↔ Only hs u s :=
  (clearProbe_only t s).iff cov

theorem probeWritten_only (t : ProbeId) (o x : ProbeCfg) (s : Part) :
    Only [.probes, .zones, .docks, .portals, .evaps, .batches, .alarms, .ports] s (probeWritten t o x s) := by
  simp [probeWritten, covers]

@[simp] theorem only_probeWritten {t : ProbeId} {o x : ProbeCfg} {hs : List Group} {u s : Part}
    (cov : covers hs [.probes, .zones, .docks, .portals, .evaps, .batches, .alarms, .ports] = true) : Only hs u (probeWritten t o x s) ↔ Only hs u s :=
  (probeWritten_only t o x s).iff cov

theorem zoneEnters_only (z : ZoneId) (s : Part) :
    Only [.zones, .probes, .ports] s (zoneEnters z s) := by
  simp (maxDischargeDepth := 6) [zoneEnters, covers]

@[simp] theorem only_zoneEnters {z : ZoneId} {hs : List Group} {u s : Part}
    (cov : covers hs [.zones, .probes, .ports] = true) : Only hs u (zoneEnters z s) ↔ Only hs u s :=
  (zoneEnters_only z s).iff cov

theorem zoneLeaves_only (z : ZoneId) (s : Part) :
    Only [.zones, .alarms, .ports] s (zoneLeaves z s) := by
  simp [zoneLeaves, covers]

@[simp] theorem only_zoneLeaves {z : ZoneId} {hs : List Group} {u s : Part}
    (cov : covers hs [.zones, .alarms, .ports] = true) : Only hs u (zoneLeaves z s) ↔ Only hs u s :=
  (zoneLeaves_only z s).iff cov

theorem zoneWritten_only (z : ZoneId) (o x : ZoneCfg) (s : Part) :
    Only [.probes, .zones, .alarms, .ports] s (zoneWritten z o x s) := by
  unfold zoneWritten; (repeat' split) <;> simp [covers]

@[simp] theorem only_zoneWritten {z : ZoneId} {o x : ZoneCfg} {hs : List Group} {u s : Part}
    (cov : covers hs [.probes, .zones, .alarms, .ports] = true) : Only hs u (zoneWritten z o x s) ↔ Only hs u s :=
  (zoneWritten_only z o x s).iff cov

theorem dockEnters_only (d : DoorId) (s : Part) :
    Only [.docks, .slots] s (dockEnters d s) := by
  simp [dockEnters, covers]

@[simp] theorem only_dockEnters {d : DoorId} {hs : List Group} {u s : Part}
    (cov : covers hs [.docks, .slots] = true) : Only hs u (dockEnters d s) ↔ Only hs u s :=
  (dockEnters_only d s).iff cov

theorem dockLeaves_only (d : DoorId) (s : Part) :
    Only [.zones, .docks, .portals, .evaps, .batches, .alarms, .ports] s (dockLeaves d s) := by
  simp [dockLeaves, covers]

@[simp] theorem only_dockLeaves {d : DoorId} {hs : List Group} {u s : Part}
    (cov : covers hs [.zones, .docks, .portals, .evaps, .batches, .alarms, .ports] = true) : Only hs u (dockLeaves d s) ↔ Only hs u s :=
  (dockLeaves_only d s).iff cov

theorem dockWritten_only (d : DoorId) (o x : DockCfg) (s : Part) :
    Only [.slots, .zones, .docks, .portals, .evaps, .batches, .alarms, .ports] s (dockWritten d o x s) := by
  unfold dockWritten; (repeat' split) <;> simp [covers]

@[simp] theorem only_dockWritten {d : DoorId} {o x : DockCfg} {hs : List Group} {u s : Part}
    (cov : covers hs [.slots, .zones, .docks, .portals, .evaps, .batches, .alarms, .ports] = true) : Only hs u (dockWritten d o x s) ↔ Only hs u s :=
  (dockWritten_only d o x s).iff cov

theorem portalEnters_only (q : PortalId) (s : Part) :
    Only [.portals] s (portalEnters q s) := by
  simp [portalEnters, covers]

@[simp] theorem only_portalEnters {q : PortalId} {hs : List Group} {u s : Part}
    (cov : covers hs [.portals] = true) : Only hs u (portalEnters q s) ↔ Only hs u s :=
  (portalEnters_only q s).iff cov

theorem portalLeaves_only (q : PortalId) (s : Part) :
    Only [.zones, .docks, .portals, .evaps, .batches, .alarms, .ports] s (portalLeaves q s) := by
  simp [portalLeaves, covers]

@[simp] theorem only_portalLeaves {q : PortalId} {hs : List Group} {u s : Part}
    (cov : covers hs [.zones, .docks, .portals, .evaps, .batches, .alarms, .ports] = true) : Only hs u (portalLeaves q s) ↔ Only hs u s :=
  (portalLeaves_only q s).iff cov

theorem portalWritten_only (q : PortalId) (o x : PortalCfg) (s : Part) :
    Only [.cfg, .zones, .docks, .portals, .evaps, .batches, .alarms, .ports] s (portalWritten q o x s) := by
  unfold portalWritten; (repeat' split) <;> simp [covers]

@[simp] theorem only_portalWritten {q : PortalId} {o x : PortalCfg} {hs : List Group} {u s : Part}
    (cov : covers hs [.cfg, .zones, .docks, .portals, .evaps, .batches, .alarms, .ports] = true) : Only hs u (portalWritten q o x s) ↔ Only hs u s :=
  (portalWritten_only q o x s).iff cov

theorem evapLeaves_only (e : EvapId) (s : Part) :
    Only [.evaps, .alarms, .ports] s (evapLeaves e s) := by
  simp [evapLeaves, covers]

@[simp] theorem only_evapLeaves {e : EvapId} {hs : List Group} {u s : Part}
    (cov : covers hs [.evaps, .alarms, .ports] = true) : Only hs u (evapLeaves e s) ↔ Only hs u s :=
  (evapLeaves_only e s).iff cov

theorem evapWritten_only (e : EvapId) (o x : EvapCfg) (s : Part) :
    Only [.evaps, .alarms, .ports] s (evapWritten e o x s) := by
  unfold evapWritten; (repeat' split) <;> simp [covers]

@[simp] theorem only_evapWritten {e : EvapId} {o x : EvapCfg} {hs : List Group} {u s : Part}
    (cov : covers hs [.evaps, .alarms, .ports] = true) : Only hs u (evapWritten e o x s) ↔ Only hs u s :=
  (evapWritten_only e o x s).iff cov

theorem applyRecord_only (r : Record) (s : Part) :
    Only [.cfg, .loop, .probes, .slots, .zones, .docks, .portals, .evaps, .batches, .alarms, .ports] s (applyRecord r s) := by
  unfold applyRecord; split <;> simp [covers]

@[simp] theorem only_applyRecord {r : Record} {hs : List Group} {u s : Part}
    (cov : covers hs [.cfg, .loop, .probes, .slots, .zones, .docks, .portals, .evaps, .batches, .alarms, .ports] = true) : Only hs u (applyRecord r s) ↔ Only hs u s :=
  (applyRecord_only r s).iff cov

theorem acceptWrite_only (w : WriteOp) (s : Part) :
    Only [.store] s (acceptWrite w s) := by
  have hl (t : Part) (x : Store) : Only [.store] t { t with store := x } := ⟨fun g h => by cases g <;> simp_all [Group.same], rfl, rfl, rfl⟩
  unfold acceptWrite; split <;> exact hl _ _

@[simp] theorem only_acceptWrite {w : WriteOp} {hs : List Group} {u s : Part}
    (cov : covers hs [.store] = true) : Only hs u (acceptWrite w s) ↔ Only hs u s :=
  (acceptWrite_only w s).iff cov

theorem startWaiting_only (s : Part) :
    Only [.store] s (startWaiting s) := by
  have hl (t : Part) (x : Store) : Only [.store] t { t with store := x } := ⟨fun g h => by cases g <;> simp_all [Group.same], rfl, rfl, rfl⟩
  unfold startWaiting; split
  · exact .refl _ _
  · exact hl _ _

@[simp] theorem only_startWaiting {hs : List Group} {u s : Part}
    (cov : covers hs [.store] = true) : Only hs u (startWaiting s) ↔ Only hs u s :=
  (startWaiting_only s).iff cov

theorem lockDock_only (d : DoorId) (s : Part) :
    Only [.zones, .docks, .portals, .evaps, .batches, .alarms, .ports] s (lockDock d s) := by
  simp [lockDock, covers]

@[simp] theorem only_lockDock {d : DoorId} {hs : List Group} {u s : Part}
    (cov : covers hs [.zones, .docks, .portals, .evaps, .batches, .alarms, .ports] = true) : Only hs u (lockDock d s) ↔ Only hs u s :=
  (lockDock_only d s).iff cov

theorem lockPortal_only (q : PortalId) (s : Part) :
    Only [.zones, .docks, .portals, .evaps, .batches, .alarms, .ports] s (lockPortal q s) := by
  simp [lockPortal, covers]

@[simp] theorem only_lockPortal {q : PortalId} {hs : List Group} {u s : Part}
    (cov : covers hs [.zones, .docks, .portals, .evaps, .batches, .alarms, .ports] = true) : Only hs u (lockPortal q s) ↔ Only hs u s :=
  (lockPortal_only q s).iff cov

theorem lockEvap_only (e : EvapId) (s : Part) :
    Only [.zones, .portals, .evaps, .batches, .alarms, .ports] s (lockEvap e s) := by
  simp [lockEvap, covers]

@[simp] theorem only_lockEvap {e : EvapId} {hs : List Group} {u s : Part}
    (cov : covers hs [.zones, .portals, .evaps, .batches, .alarms, .ports] = true) : Only hs u (lockEvap e s) ↔ Only hs u s :=
  (lockEvap_only e s).iff cov

theorem lockEffect_only (t : LockTarget) (b : Bool) (s : Part) :
    Only [.loop, .probes, .zones, .docks, .portals, .evaps, .batches, .alarms, .ports] s (lockEffect t b s) := by
  unfold lockEffect; split <;> simp [covers]

@[simp] theorem only_lockEffect {t : LockTarget} {b : Bool} {hs : List Group} {u s : Part}
    (cov : covers hs [.loop, .probes, .zones, .docks, .portals, .evaps, .batches, .alarms, .ports] = true) : Only hs u (lockEffect t b s) ↔ Only hs u s :=
  (lockEffect_only t b s).iff cov

end Sys2Proof.Machine
end

