-- ==== Sys2Proof/Laws/Talks.lean ====
section
/-! SUPPORT. What the shared operations do to the alarm table and the notice queues: nothing but notices placed, alarms raised and
conditions ended, in some order. So a property of the table and the queues that these three keep is kept by every operation. -/

namespace Sys2Proof.Machine

open Sys2Proof

/-- What a notice queue holds apart from the state of its port. -/
def PortRec.box (r : PortRec) : List Notice × Bool × Nat := (r.queue, r.overflow, r.nextNumber)

/-- The parts agree in the alarm table, the notice queues, device time and the supply monitor. -/
structure Quiet (s t : Part) : Prop where
  alarms : t.alarms = s.alarms
  plant : t.portPlant.box = s.portPlant.box
  warehouse : t.portWarehouse.box = s.portWarehouse.box
  time : t.time = s.time
  supply : t.supply = s.supply

/-- The second part follows from the first by notices, raises and condition ends, and changes that touch none of them. -/
inductive Talks : Part → Part → Prop where
  | refl (s : Part) : Talks s s
  | quiet {s t u : Part} : Talks s t → Quiet t u → Talks s u
  | notify {s t : Part} (p : Port) (b : NoticeBody) : Talks s t → Talks s (notify p b t)
  | raised {s t : Part} (k : AlarmKind) (x : Subject) : Talks s t → Talks s (raiseAlarm k x t)
  | ended {s t : Part} (k : AlarmKind) (x : Subject) : Talks s t → Talks s (endCondition k x t)

/-- A property that the three operations keep, and that depends on nothing else, is kept. -/
theorem Talks.keeps {I : Part → Prop} (quiet : ∀ s t, Quiet s t → I s → I t) (note : ∀ p b s, I s → I (Machine.notify p b s))
    (raise : ∀ k x s, I s → I (raiseAlarm k x s)) (ends : ∀ k x s, I s → I (endCondition k x s)) {s t : Part} (h : Talks s t)
    (hs : I s) : I t := by
  induction h with
  | refl => exact hs
  | quiet _ q ih => exact quiet _ _ q ih
  | notify p b _ ih => exact note p b _ ih
  | raised k x _ ih => exact raise k x _ ih
  | ended k x _ ih => exact ends k x _ ih

theorem Talks.trans {s t u : Part} (h : Talks s t) (h' : Talks t u) : Talks s u := by
  induction h' with
  | refl => exact h
  | quiet _ q ih => exact ih.quiet q
  | notify p b _ ih => exact ih.notify p b
  | raised k x _ ih => exact ih.raised k x
  | ended k x _ ih => exact ih.ended k x

/-- Operations that reach neither table nor queues are quiet. -/
theorem Quiet.of_only {gs : List Group} {s t : Part} (h : Only gs s t)
    (c : (gs.contains .alarms || gs.contains .ports || gs.contains .time || gs.contains .supply) = false) : Quiet s t := by
  simp only [Bool.or_eq_false_iff, List.contains_eq_mem, decide_eq_false_iff_not] at c
  obtain ⟨⟨⟨ca, cp⟩, ct⟩, cs⟩ := c
  have hp := h.within .ports cp
  exact ⟨h.within .alarms ca, by rw [PortRec.box, PortRec.box, hp.1], by rw [PortRec.box, PortRec.box, hp.2],
    h.within .time ct, h.within .supply cs⟩

theorem Talks.of_only {gs : List Group} {u s t : Part} (h : Only gs s t)
    (c : (gs.contains .alarms || gs.contains .ports || gs.contains .time || gs.contains .supply) = false) (k : Talks u s) : Talks u t :=
  k.quiet (.of_only h c)

@[simp] theorem Talks.rfl' (s : Part) : Talks s s := .refl s

@[simp] theorem talks_onlyIf {u s : Part} {c : Bool} {f : Part → Part} (h : ∀ t, Talks t (f t)) (k : Talks u s) :
    Talks u (onlyIf c f s) := by
  unfold onlyIf; split
  · exact k.trans (h s)
  · exact k

theorem talks_foldl {α : Type} {u : Part} {f : α → Part → Part} (h : ∀ a t, Talks t (f a t)) (l : List α) {s : Part}
    (k : Talks u s) : Talks u (l.foldl (fun s a => f a s) s) := by
  induction l generalizing s with
  | nil => exact k
  | cons a l ih => exact ih (k.trans (h a s))

@[simp] theorem talks_forList {α : Type} {u s : Part} {l : List α} {f : α → Part → Part} (h : ∀ a t, Talks t (f a t))
    (k : Talks u s) : Talks u (forList l f s) := talks_foldl h l k

@[simp] theorem talks_forEach {n : Nat} {u s : Part} {f : Fin n → Part → Part} (h : ∀ a t, Talks t (f a t))
    (k : Talks u s) : Talks u (forEach f s) := talks_foldl h _ k

theorem quiet_draws (s : Part) (n : Nat) : Quiet s { s with draws := n } := ⟨rfl, rfl, rfl, rfl, rfl⟩

theorem quiet_credits (s : Part) (n : Nat) : Quiet s { s with credits := n } := ⟨rfl, rfl, rfl, rfl, rfl⟩

theorem quiet_heatInForce (s : Part) (n : Nat) : Quiet s { s with heatInForce := n } := ⟨rfl, rfl, rfl, rfl, rfl⟩

theorem quiet_loop (s : Part) (l : Loop) : Quiet s { s with loop := l } := ⟨rfl, rfl, rfl, rfl, rfl⟩

/-- A change of a port that leaves its queue alone. -/
theorem quiet_modPort (p : Port) (f : PortRec → PortRec) (s : Part) (h : ∀ r, (f r).box = r.box) : Quiet s (modPort p f s) := by
  cases p
  · exact ⟨rfl, h _, rfl, rfl, rfl⟩
  · exact ⟨rfl, rfl, h _, rfl, rfl⟩

theorem quiet_send (o : Output) (s : Part) : Quiet s (send o s) := ⟨rfl, rfl, rfl, rfl, rfl⟩

@[simp] theorem talks_send {o : Output} {u s : Part} (k : Talks u s) : Talks u (send o s) := k.quiet (quiet_send o s)

@[simp] theorem talks_superviseFromNow {p : Port} {u s : Part} (k : Talks u s) : Talks u (superviseFromNow p s) :=
  k.quiet (quiet_modPort p _ s fun r => by split <;> rfl)

@[simp] theorem talks_respond {p : Port} {code : Nat} {tag : Byte} {st : Status} {body : List Byte} {u s : Part} (k : Talks u s) :
    Talks u (respond p code tag st body s) := talks_superviseFromNow (talks_send k)

@[simp] theorem talks_credits {u s : Part} {n : Nat} (k : Talks u s) : Talks u { s with credits := n } := k.quiet (quiet_credits s n)

@[simp] theorem talks_unordered {u s : Part} {f g : Part → Part} (hf : ∀ t, Talks t (f t))
    (hg : ∀ t, Talks t (g t)) (k : Talks u s) : Talks u (unordered f g s) := by
  unfold unordered; dsimp only; split
  · exact ((k.quiet (quiet_draws s _)).trans (hf _)).trans (hg _)
  · exact ((k.quiet (quiet_draws s _)).trans (hg _)).trans (hf _)

@[simp] theorem talks_eitherOrder {u s : Part} {b : Bool} {f g : Part → Part} (hf : ∀ t, Talks t (f t))
    (hg : ∀ t, Talks t (g t)) (k : Talks u s) : Talks u (eitherOrder b f g s) := by
  unfold eitherOrder; split
  · exact talks_unordered hf hg k
  · exact (k.trans (hf _)).trans (hg _)

@[simp] theorem talks_trackDock {u s : Part} {d : DoorId} {f : Part → Part} (h : Talks u (f s)) : Talks u (trackDock d f s) := by
  unfold trackDock; exact talks_onlyIf (fun t => .of_only (bumpDock_only d t) rfl (.refl t)) h

@[simp] theorem talks_trackPortal {u s : Part} {q : PortalId} {f : Part → Part} (h : Talks u (f s)) : Talks u (trackPortal q f s) := by
  unfold trackPortal; exact talks_onlyIf (fun t => .of_only (bumpPortal_only q t) rfl (.refl t)) h

@[simp] theorem talks_withSome {α : Type} {u s : Part} {x : Option α} {f : α → Part → Part} (h : ∀ a t, Talks t (f a t)) (k : Talks u s) :
    Talks u (withSome x f s) := by
  cases x with
  | none => exact k
  | some a => exact k.trans (h a s)

/-! ### Records (Ops.lean) -/

@[simp] theorem talks_modZone {z : ZoneId} {f : Zone → Zone} {u s : Part} (k : Talks u s) : Talks u (modZone z f s) :=
  .of_only (modZone_only z f s) rfl k

@[simp] theorem talks_modProbe {t : ProbeId} {f : Probe → Probe} {u s : Part} (k : Talks u s) : Talks u (modProbe t f s) :=
  .of_only (modProbe_only t f s) rfl k

@[simp] theorem talks_modDock {d : DoorId} {f : Dock → Dock} {u s : Part} (k : Talks u s) : Talks u (modDock d f s) :=
  .of_only (modDock_only d f s) rfl k

@[simp] theorem talks_modPortal {q : PortalId} {f : Portal → Portal} {u s : Part} (k : Talks u s) : Talks u (modPortal q f s) :=
  .of_only (modPortal_only q f s) rfl k

@[simp] theorem talks_modSlot {d : DoorId} {f : Slot → Slot} {u s : Part} (k : Talks u s) : Talks u (modSlot d f s) :=
  .of_only (modSlot_only d f s) rfl k

@[simp] theorem talks_modEvap {e : EvapId} {f : Evap → Evap} {u s : Part} (k : Talks u s) : Talks u (modEvap e f s) :=
  .of_only (modEvap_only e f s) rfl k

@[simp] theorem talks_modBatch {z : ZoneId} {f : Batch → Batch} {u s : Part} (k : Talks u s) : Talks u (modBatch z f s) :=
  .of_only (modBatch_only z f s) rfl k

@[simp] theorem talks_putBatch {z : ZoneId} {b : Option Batch} {u s : Part} (k : Talks u s) : Talks u (putBatch z b s) :=
  .of_only (putBatch_only z b s) rfl k

@[simp] theorem talks_modStation {a : StationId} {f : Station → Station} {u s : Part} (k : Talks u s) : Talks u (modStation a f s) :=
  .of_only (modStation_only a f s) rfl k

@[simp] theorem talks_modLoop {f : Loop → Loop} {u s : Part} (k : Talks u s) : Talks u (modLoop f s) :=
  .of_only (modLoop_only f s) rfl k

@[simp] theorem talks_modPallet {i : Nat} {f : Pallet → Pallet} {u s : Part} (k : Talks u s) : Talks u (modPallet i f s) :=
  .of_only (modPallet_only i f s) rfl k

@[simp] theorem talks_dropPallet {i : Nat} {u s : Part} (k : Talks u s) : Talks u (dropPallet i s) :=
  .of_only (dropPallet_only i s) rfl k

@[simp] theorem talks_putCfg {r : Record} {u s : Part} (k : Talks u s) : Talks u (putCfg r s) :=
  .of_only (putCfg_only r s) rfl k

@[simp] theorem talks_setMode {z : ZoneId} {m : Mode} {dl : Option Nat} {u s : Part} (k : Talks u s) : Talks u (setMode z m dl s) :=
  .of_only (setMode_only z m dl s) rfl k

@[simp] theorem talks_clearFlight {u s : Part} (k : Talks u s) : Talks u (clearFlight s) :=
  .of_only (clearFlight_only s) rfl k

@[simp] theorem talks_notify {p : Port} {b : NoticeBody} {u s : Part} (k : Talks u s) : Talks u (notify p b s) :=
  k.notify p b

@[simp] theorem talks_notifyBoth {b : NoticeBody} {u s : Part} (k : Talks u s) : Talks u (notifyBoth b s) := by
  simp [notifyBoth, k]

/-! ### Alarms (Ops.lean) -/

@[simp] theorem talks_raiseAlarm {a : AlarmKind} {x : Subject} {u s : Part} (k : Talks u s) : Talks u (raiseAlarm a x s) :=
  k.raised a x

@[simp] theorem talks_endCondition {a : AlarmKind} {x : Subject} {u s : Part} (k : Talks u s) : Talks u (endCondition a x s) :=
  k.ended a x

/-! ### Zones (ZoneOps.lean) -/

@[simp] theorem talks_warmEvaluate {z : ZoneId} {u s : Part} (k : Talks u s) : Talks u (warmEvaluate z s) := by
  unfold warmEvaluate; dsimp only; (repeat' split) <;> simp (maxDischargeDepth := 12) [k]

@[simp] theorem talks_zonePastGather {z : ZoneId} {u s : Part} (k : Talks u s) : Talks u (zonePastGather z s) := by
  simp [zonePastGather, k]

@[simp] theorem talks_zoneBatchEnded {z : ZoneId} {u s : Part} (k : Talks u s) : Talks u (zoneBatchEnded z s) := by
  simp [zoneBatchEnded, k]

@[simp] theorem talks_modeNotice {z : ZoneId} {old : Mode} {c : ModeCause} {u s : Part} (k : Talks u s) : Talks u (modeNotice z old c s) := by
  simp [modeNotice, k]

/-! ### Doors (DoorOps.lean) -/

@[simp] theorem talks_bumpDock {d : DoorId} {u s : Part} (k : Talks u s) : Talks u (bumpDock d s) :=
  .of_only (bumpDock_only d s) rfl k

@[simp] theorem talks_bumpPortal {q : PortalId} {u s : Part} (k : Talks u s) : Talks u (bumpPortal q s) :=
  .of_only (bumpPortal_only q s) rfl k

@[simp] theorem talks_endPendingDock {d : DoorId} {o : RequestEnd} {u s : Part} (k : Talks u s) : Talks u (endPendingDock d o s) := by
  unfold endPendingDock; split <;> simp (maxDischargeDepth := 12) [k]

@[simp] theorem talks_endPendingPortal {q : PortalId} {o : RequestEnd} {u s : Part} (k : Talks u s) : Talks u (endPendingPortal q o s) := by
  unfold endPendingPortal; split <;> simp (maxDischargeDepth := 12) [k]

@[simp] theorem talks_faultDock {d : DoorId} {u s : Part} (k : Talks u s) : Talks u (faultDock d s) := by
  unfold faultDock; split <;> simp (maxDischargeDepth := 12) [k]

@[simp] theorem talks_faultPortal {q : PortalId} {u s : Part} (k : Talks u s) : Talks u (faultPortal q s) := by
  unfold faultPortal; split <;> simp (maxDischargeDepth := 12) [k]

@[simp] theorem talks_lockOutDock {d : DoorId} {u s : Part} (k : Talks u s) : Talks u (lockOutDock d s) := by
  simp (maxDischargeDepth := 12) [lockOutDock, k]

@[simp] theorem talks_lockOutPortal {q : PortalId} {u s : Part} (k : Talks u s) : Talks u (lockOutPortal q s) := by
  simp (maxDischargeDepth := 12) [lockOutPortal, k]

@[simp] theorem talks_closeDock {d : DoorId} {u s : Part} (k : Talks u s) : Talks u (closeDock d s) :=
  .of_only (closeDock_only d s) rfl k

@[simp] theorem talks_endGrant {q : PortalId} {u s : Part} (k : Talks u s) : Talks u (endGrant q s) :=
  .of_only (endGrant_only q s) rfl k

@[simp] theorem talks_takePortal {q : PortalId} {u s : Part} (k : Talks u s) : Talks u (takePortal q s) :=
  .of_only (takePortal_only q s) rfl k

@[simp] theorem talks_grantDock {d : DoorId} {u s : Part} (k : Talks u s) : Talks u (grantDock d s) := by
  simp [grantDock, k]

@[simp] theorem talks_grantPortal {q : PortalId} {u s : Part} (k : Talks u s) : Talks u (grantPortal q s) :=
  .of_only (grantPortal_only q s) rfl k

@[simp] theorem talks_withdraw {z : ZoneId} {c : CloseCause} {u s : Part} (k : Talks u s) : Talks u (withdraw z c s) := by
  unfold withdraw; split <;> simp (maxDischargeDepth := 12) [k]

@[simp] theorem talks_becomeHeld {q : PortalId} {u s : Part} (k : Talks u s) : Talks u (becomeHeld q s) := by
  simp [becomeHeld, k]

@[simp] theorem talks_holdOpen {q : PortalId} {u s : Part} (k : Talks u s) : Talks u (holdOpen q s) := by
  simp [holdOpen, k]

@[simp] theorem talks_portalsEnterBulk {z : ZoneId} {u s : Part} (k : Talks u s) : Talks u (portalsEnterBulk z s) := by
  simp (maxDischargeDepth := 12) [portalsEnterBulk, k]

@[simp] theorem talks_portalsLeaveBulk {z : ZoneId} {u s : Part} (k : Talks u s) : Talks u (portalsLeaveBulk z s) :=
  .of_only (portalsLeaveBulk_only z s) rfl k

@[simp] theorem talks_portalsBlock {z : ZoneId} {u s : Part} (k : Talks u s) : Talks u (portalsBlock z s) := by
  simp (maxDischargeDepth := 12) [portalsBlock, k]

@[simp] theorem talks_portalsUnblock {z : ZoneId} {u s : Part} (k : Talks u s) : Talks u (portalsUnblock z s) :=
  .of_only (portalsUnblock_only z s) rfl k

@[simp] theorem talks_drainCheck {z : ZoneId} {u s : Part} (k : Talks u s) : Talks u (drainCheck z s) := by
  unfold drainCheck; split <;> simp (maxDischargeDepth := 12) [k]

/-! ### Defrost (DefrostOps.lean) -/

@[simp] theorem talks_gatherMembers {es : List EvapId} {u s : Part} (k : Talks u s) : Talks u (gatherMembers es s) :=
  .of_only (gatherMembers_only es s) rfl k

@[simp] theorem talks_batchRule {z : ZoneId} {u s : Part} (k : Talks u s) : Talks u (batchRule z s) :=
  .of_only (batchRule_only z s) rfl k

@[simp] theorem talks_enterDemand {e : EvapId} {u s : Part} (k : Talks u s) : Talks u (enterDemand e s) :=
  .of_only (enterDemand_only e s) rfl k

@[simp] theorem talks_idleCheck {e : EvapId} {u s : Part} (k : Talks u s) : Talks u (idleCheck e s) :=
  .of_only (idleCheck_only e s) rfl k

@[simp] theorem talks_endOverdue {e : EvapId} {u s : Part} (k : Talks u s) : Talks u (endOverdue e s) := by
  simp [endOverdue, k]

@[simp] theorem talks_dropDemand {e : EvapId} {u s : Part} (k : Talks u s) : Talks u (dropDemand e s) := by
  simp [dropDemand, k]

@[simp] theorem talks_treatMembers {ms : List Member} {c : BatchEnd} {u s : Part} (k : Talks u s) : Talks u (treatMembers ms c s) := by
  unfold treatMembers; split <;> simp (maxDischargeDepth := 12) [k]

@[simp] theorem talks_endBatch {z : ZoneId} {c : BatchEnd} {u s : Part} (k : Talks u s) : Talks u (endBatch z c s) := by
  unfold endBatch; split <;> simp (maxDischargeDepth := 12) [k]

@[simp] theorem talks_enterPumpdown {z : ZoneId} {u s : Part} (k : Talks u s) : Talks u (enterPumpdown z s) := by
  unfold enterPumpdown; split <;> simp (maxDischargeDepth := 12) [k]

@[simp] theorem talks_closingCheck {z : ZoneId} {u s : Part} (k : Talks u s) : Talks u (closingCheck z s) := by
  unfold closingCheck; split <;> simp (maxDischargeDepth := 12) [k]

@[simp] theorem talks_suspendMembers {z : ZoneId} {u s : Part} (k : Talks u s) : Talks u (suspendMembers z s) :=
  .of_only (suspendMembers_only z s) rfl k

@[simp] theorem talks_reevaluateDock {d : DoorId} {u s : Part} (k : Talks u s) : Talks u (reevaluateDock d s) := by
  unfold reevaluateDock; (repeat' split) <;> simp (maxDischargeDepth := 12) [k]

@[simp] theorem talks_reevaluatePortal {q : PortalId} {u s : Part} (k : Talks u s) : Talks u (reevaluatePortal q s) := by
  unfold reevaluatePortal; (repeat' split) <;> simp (maxDischargeDepth := 12) [k]

@[simp] theorem talks_doorsLeftHeat {z : ZoneId} {u s : Part} (k : Talks u s) : Talks u (doorsLeftHeat z s) := by
  unfold doorsLeftHeat; split <;> simp (maxDischargeDepth := 12) [k]

@[simp] theorem talks_zoneLeftHeat {z : ZoneId} {u s : Part} (k : Talks u s) : Talks u (zoneLeftHeat z s) := by
  unfold zoneLeftHeat; split <;> simp (maxDischargeDepth := 12) [k]

@[simp] theorem talks_enterDrip {z : ZoneId} {u s : Part} (k : Talks u s) : Talks u (enterDrip z s) :=
  .of_only (enterDrip_only z s) rfl k

@[simp] theorem talks_leaveHeatCheck {z : ZoneId} {u s : Part} (k : Talks u s) : Talks u (leaveHeatCheck z s) := by
  unfold leaveHeatCheck; dsimp only; (repeat' split) <;> simp (maxDischargeDepth := 12) [k]

@[simp] theorem talks_giveOutcome {e : EvapId} {o : MemberOutcome} {n : Nat} {u s : Part} (k : Talks u s) : Talks u (giveOutcome e o n s) :=
  .of_only (giveOutcome_only e o n s) rfl k

@[simp] theorem talks_serveWaiting {e : EvapId} {u s : Part} (k : Talks u s) : Talks u (serveWaiting e s) := by
  unfold serveWaiting; split <;> simp (maxDischargeDepth := 12) [k]

@[simp] theorem talks_arbiterRounds {n : Nat} {u s : Part} (k : Talks u s) : Talks u (arbiterRounds n s) := by
  induction n generalizing s with
  | zero => exact k
  | succ n ih =>
    unfold arbiterRounds; split
    · split
      · exact ih (talks_serveWaiting k)
      · exact k
    · exact k

@[simp] theorem talks_arbiter {u s : Part} (k : Talks u s) : Talks u (arbiter s) := by
  simp [arbiter, k]

@[simp] theorem talks_endHeat {e : EvapId} {o : MemberOutcome} {u s : Part} (k : Talks u s) : Talks u (endHeat e o s) := by
  simp (maxDischargeDepth := 12) [endHeat, k]

@[simp] theorem talks_enterHeat {z : ZoneId} {u s : Part} (k : Talks u s) : Talks u (enterHeat z s) := by
  unfold enterHeat; split <;> simp (maxDischargeDepth := 12) [k]

@[simp] theorem talks_roomWarmCut {z : ZoneId} {u s : Part} (k : Talks u s) : Talks u (roomWarmCut z s) := by
  unfold roomWarmCut; dsimp only; (repeat' split) <;> simp (maxDischargeDepth := 12) [k]

@[simp] theorem talks_suspendBatch {z : ZoneId} {u s : Part} (k : Talks u s) : Talks u (suspendBatch z s) := by
  simp [suspendBatch, k]

@[simp] theorem talks_resumeCheck {z : ZoneId} {u s : Part} (k : Talks u s) : Talks u (resumeCheck z s) := by
  unfold resumeCheck; (repeat' split) <;> simp (maxDischargeDepth := 12) [k]

@[simp] theorem talks_defrostModeOpen {z : ZoneId} {u s : Part} (k : Talks u s) : Talks u (defrostModeOpen z s) := by
  simp [defrostModeOpen, k]

@[simp] theorem talks_bulkToOpen {z : ZoneId} {rc : Option RevokeCause} {c : ModeCause} {u s : Part} (k : Talks u s) : Talks u (bulkToOpen z rc c s) := by
  unfold bulkToOpen; split <;> simp (maxDischargeDepth := 12) [k]

@[simp] theorem talks_takeBack {n : Nat} {u s : Part} (k : Talks u s) : Talks u (takeBack n s) :=
  .of_only (takeBack_only n s) rfl k

@[simp] theorem talks_setInForce {n : Nat} {u s : Part} (k : Talks u s) : Talks u (setInForce n s) := by
  unfold setInForce
  exact talks_arbiter (talks_takeBack (k.quiet (quiet_heatInForce s n)))

@[simp] theorem talks_divideFrost {z : ZoneId} {a : Nat} {u s : Part} (k : Talks u s) : Talks u (divideFrost z a s) :=
  .of_only (divideFrost_only z a s) rfl k

@[simp] theorem talks_settleDock {d : DoorId} {upTo : Nat} {u s : Part} (k : Talks u s) : Talks u (settleDock d upTo s) :=
  .of_only (settleDock_only d upTo s) rfl k

@[simp] theorem talks_settlePortal {q : PortalId} {upTo : Nat} {u s : Part} (k : Talks u s) : Talks u (settlePortal q upTo s) :=
  .of_only (settlePortal_only q upTo s) rfl k

@[simp] theorem talks_settleZoneDoors {z : ZoneId} {u s : Part} (k : Talks u s) : Talks u (settleZoneDoors z s) :=
  .of_only (settleZoneDoors_only z s) rfl k

@[simp] theorem talks_approach {q : PortalId} {u s : Part} (k : Talks u s) : Talks u (approach q s) := by
  unfold approach; dsimp only; (repeat' split) <;> simp (maxDischargeDepth := 12) [k]

@[simp] theorem talks_dockPassed {d : DoorId} {u s : Part} (k : Talks u s) : Talks u (dockPassed d s) :=
  .of_only (dockPassed_only d s) rfl k

@[simp] theorem talks_portalPassed {q : PortalId} {u s : Part} (k : Talks u s) : Talks u (portalPassed q s) :=
  .of_only (portalPassed_only q s) rfl k

/-! ### Exposure Unit and Move Tracker (TrackerOps.lean) -/

@[simp] theorem talks_endMove {id : Nat} {note : Option (MoveEnd → NoticeBody)} {u s : Part} (k : Talks u s) : Talks u (endMove id note s) := by
  unfold endMove; (repeat' split) <;> simp (maxDischargeDepth := 12) [k]

@[simp] theorem talks_warnCheck {id : Nat} {u s : Part} (k : Talks u s) : Talks u (warnCheck id s) := by
  unfold warnCheck; dsimp only; (repeat' split) <;> simp (maxDischargeDepth := 12) [k]

@[simp] theorem talks_holdCheck {id : Nat} {u s : Part} (k : Talks u s) : Talks u (holdCheck id s) := by
  unfold holdCheck; dsimp only; (repeat' split) <;> simp (maxDischargeDepth := 12) [k]

@[simp] theorem talks_dwellCheck {id : Nat} {u s : Part} (k : Talks u s) : Talks u (dwellCheck id s) := by
  unfold dwellCheck; (repeat' split) <;> simp (maxDischargeDepth := 12) [k]

@[simp] theorem talks_updatePallet {id : Nat} {u s : Part} (k : Talks u s) : Talks u (updatePallet id s) := by
  unfold updatePallet; (repeat' split) <;> simp (maxDischargeDepth := 12) [k]

@[simp] theorem talks_updateAt {l : Loc} {u s : Part} (k : Talks u s) : Talks u (updateAt l s) := by
  simp [updateAt, k]

@[simp] theorem talks_updateAll {u s : Part} (k : Talks u s) : Talks u (updateAll s) := by
  simp [updateAll, k]

@[simp] theorem talks_passLocation {id : Nat} {door : DoorRef} {dir : Direction} {u s : Part} (k : Talks u s) : Talks u (passLocation id door dir s) := by
  unfold passLocation; split <;> simp (maxDischargeDepth := 12) [k]

@[simp] theorem talks_passMove {id : Nat} {door : DoorRef} {dir : Direction} {u s : Part} (k : Talks u s) : Talks u (passMove id door dir s) := by
  unfold passMove; (repeat' split) <;> simp (maxDischargeDepth := 12) [k]

@[simp] theorem talks_passHall {id : Nat} {old : Loc} {u s : Part} (k : Talks u s) : Talks u (passHall id old s) :=
  .of_only (passHall_only id old s) rfl k

@[simp] theorem talks_passHandOn {door : DoorRef} {u s : Part} (k : Talks u s) : Talks u (passHandOn door s) := by
  unfold passHandOn; split <;> simp (maxDischargeDepth := 12) [k]

@[simp] theorem talks_processPass {door : DoorRef} {x : Pass} {u s : Part} (k : Talks u s) : Talks u (processPass door x s) := by
  unfold processPass; split <;> simp (maxDischargeDepth := 12) [k]

@[simp] theorem talks_changeSlot {d : DoorId} {f : Slot → Slot} {u s : Part} (k : Talks u s) : Talks u (changeSlot d f s) :=
  .of_only (changeSlot_only d f s) rfl k

@[simp] theorem talks_emptySlotAt {d : DoorId} {u s : Part} (k : Talks u s) : Talks u (emptySlotAt d s) :=
  .of_only (emptySlotAt_only d s) rfl k

@[simp] theorem talks_faultSlot {d : DoorId} {c : LoadCause} {n : Nat} {u s : Part} (k : Talks u s) : Talks u (faultSlot d c n s) := by
  simp [faultSlot, k]

@[simp] theorem talks_trailerEnded {d : DoorId} {u s : Part} (k : Talks u s) : Talks u (trailerEnded d s) := by
  have hl (x : Part × List LeftEntry) (i : Nat) : Talks x.1 (leaveOnTrailer x i).1 := by
    simp (maxDischargeDepth := 12) [leaveOnTrailer]
  have hf (l : List Nat) (x : Part × List LeftEntry) : Talks x.1 (l.foldl leaveOnTrailer x).1 := by
    induction l generalizing x with
    | nil => exact .refl _
    | cons a l ih => exact (hl x a).trans (ih _)
  have key (l m : List Nat) : Talks u
      (m.foldl leaveOnTrailer (forList l (fun id => endMove id (some (NoticeBody.moveCancelled · .trailerGone))) s, [])).1 :=
    Talks.trans (by simp (maxDischargeDepth := 12) [k]) (hf _ _)
  unfold trailerEnded; dsimp only
  apply talks_emptySlotAt
  repeat' split
  · exact talks_forList (fun _ _ => by simp) (key _ _)
  · exact key _ _
  · exact talks_onlyIf (fun _ => by simp) (talks_forList (fun _ _ => by simp) (key _ _))

@[simp] theorem talks_finishVacant {d : DoorId} {u s : Part} (k : Talks u s) : Talks u (finishVacant d s) := by
  simp (maxDischargeDepth := 12) [finishVacant, k]

/-! ### Field loop (LoopOps.lean) -/

@[simp] theorem talks_recomputeTemp {z : ZoneId} {u s : Part} (k : Talks u s) : Talks u (recomputeTemp z s) := by
  unfold recomputeTemp; split <;> simp (maxDischargeDepth := 12) [k]

@[simp] theorem talks_recompute {z : ZoneId} {u s : Part} (k : Talks u s) : Talks u (recompute z s) := by
  unfold recompute; dsimp only; (repeat' split) <;> simp (maxDischargeDepth := 12) [k]

@[simp] theorem talks_recomputeOpt {z : Option ZoneId} {u s : Part} (k : Talks u s) : Talks u (recomputeOpt z s) := by
  unfold recomputeOpt; split <;> simp (maxDischargeDepth := 12) [k]

@[simp] theorem talks_probeEvent {t : ProbeId} {r : Option Int} {u s : Part} (k : Talks u s) : Talks u (probeEvent t r s) := by
  unfold probeEvent; dsimp only; (repeat' split) <;> simp (maxDischargeDepth := 12) [k]

@[simp] theorem talks_accrueDock {d : DoorId} {o : Bool} {u s : Part} (k : Talks u s) : Talks u (accrueDock d o s) :=
  .of_only (accrueDock_only d o s) rfl k

@[simp] theorem talks_accruePortal {q : PortalId} {o : Bool} {u s : Part} (k : Talks u s) : Talks u (accruePortal q o s) :=
  .of_only (accruePortal_only q o s) rfl k

@[simp] theorem talks_handOn {z : ZoneId} {u s : Part} (k : Talks u s) : Talks u (handOn z s) := by
  simp (maxDischargeDepth := 12) [handOn, k]

@[simp] theorem talks_takeDockState {d : DoorId} {r : DockReport} {u s : Part} (k : Talks u s) : Talks u (takeDockState d r s) := by
  unfold takeDockState; split <;> simp (maxDischargeDepth := 12) [k]

@[simp] theorem talks_storeDockReport {d : DoorId} {r : DockReport} {u s : Part} (k : Talks u s) : Talks u (storeDockReport d r s) :=
  .of_only (storeDockReport_only d r s) rfl k

@[simp] theorem talks_storePortalReport {q : PortalId} {x : Position} {u s : Part} (k : Talks u s) : Talks u (storePortalReport q x s) :=
  .of_only (storePortalReport_only q x s) rfl k

@[simp] theorem talks_dockFaultReport {d : DoorId} {r : DockReport} {u s : Part} (k : Talks u s) : Talks u (dockFaultReport d r s) := by
  unfold dockFaultReport; dsimp only; (repeat' split) <;> simp (maxDischargeDepth := 12) [k]

@[simp] theorem talks_sealProven {d : DoorId} {u s : Part} (k : Talks u s) : Talks u (sealProven d s) := by
  simp (maxDischargeDepth := 12) [sealProven, k]

@[simp] theorem talks_doorClosed {d : DoorId} {b : Bool} {u s : Part} (k : Talks u s) : Talks u (doorClosed d b s) :=
  .of_only (doorClosed_only d b s) rfl k

@[simp] theorem talks_breachDock {d : DoorId} {u s : Part} (k : Talks u s) : Talks u (breachDock d s) := by
  simp (maxDischargeDepth := 12) [breachDock, k]

@[simp] theorem talks_applyRow {d : DoorId} {r : DockReport} {n : Nat} {u s : Part} (k : Talks u s) : Talks u (applyRow d r n s) := by
  unfold applyRow; split <;> simp (maxDischargeDepth := 12) [k]

@[simp] theorem talks_dockReportState {d : DoorId} {r : DockReport} {u s : Part} (k : Talks u s) : Talks u (dockReportState d r s) := by
  unfold dockReportState; split <;> simp (maxDischargeDepth := 12) [k]

@[simp] theorem talks_dockReportEvent {d : DoorId} {r : DockReport} {u s : Part} (k : Talks u s) : Talks u (dockReportEvent d r s) := by
  simp (maxDischargeDepth := 12) [dockReportEvent, k]

@[simp] theorem talks_buttonEvent {d : DoorId} {u s : Part} (k : Talks u s) : Talks u (buttonEvent d s) := by
  unfold buttonEvent askDock; dsimp only
  repeat' split
  all_goals simp (maxDischargeDepth := 12) [*]

@[simp] theorem talks_takePortalReported {q : PortalId} {u s : Part} (k : Talks u s) : Talks u (takePortalReported q s) := by
  simp (maxDischargeDepth := 12) [takePortalReported, k]

@[simp] theorem talks_portalFaultReport {q : PortalId} {x : Position} {u s : Part} (k : Talks u s) : Talks u (portalFaultReport q x s) := by
  unfold portalFaultReport; dsimp only; (repeat' split) <;> simp (maxDischargeDepth := 12) [k]

@[simp] theorem talks_portalReportState {q : PortalId} {x : Position} {u s : Part} (k : Talks u s) : Talks u (portalReportState q x s) := by
  unfold portalReportState; split <;> simp (maxDischargeDepth := 12) [k]

@[simp] theorem talks_portalReportEvent {q : PortalId} {x : Position} {u s : Part} (k : Talks u s) : Talks u (portalReportEvent q x s) := by
  simp (maxDischargeDepth := 12) [portalReportEvent, k]

@[simp] theorem talks_evapFault {e : EvapId} {c : FaultCause} {u s : Part} (k : Talks u s) : Talks u (evapFault e c s) :=
  .of_only (evapFault_only e c s) rfl k

@[simp] theorem talks_refreezeCheck {z : ZoneId} {u s : Part} (k : Talks u s) : Talks u (refreezeCheck z s) := by
  unfold refreezeCheck; (repeat' split) <;> simp (maxDischargeDepth := 12) [k]

@[simp] theorem talks_loseMember {e : EvapId} {c : FaultCause} {n : Nat} {u s : Part} (k : Talks u s) : Talks u (loseMember e c n s) :=
  .of_only (loseMember_only e c n s) rfl k

@[simp] theorem talks_leaveBatch {e : EvapId} {u s : Part} (k : Talks u s) : Talks u (leaveBatch e s) := by
  unfold leaveBatch; split <;> simp (maxDischargeDepth := 12) [k]

@[simp] theorem talks_evapLost {e : EvapId} {n : Nat} {u s : Part} (k : Talks u s) : Talks u (evapLost e n s) := by
  unfold evapLost; dsimp only; (repeat' split) <;> simp (maxDischargeDepth := 12) [k]

@[simp] theorem talks_evapRestored {e : EvapId} {u s : Part} (k : Talks u s) : Talks u (evapRestored e s) :=
  .of_only (evapRestored_only e s) rfl k

@[simp] theorem talks_noCurrentCheck {e : EvapId} {h c : Bool} {u s : Part} (k : Talks u s) : Talks u (noCurrentCheck e h c s) := by
  unfold noCurrentCheck; dsimp only; (repeat' split) <;> simp (maxDischargeDepth := 12) [k]

@[simp] theorem talks_stuckCheck {e : EvapId} {h c : Bool} {u s : Part} (k : Talks u s) : Talks u (stuckCheck e h c s) := by
  simp [stuckCheck, k]

@[simp] theorem talks_terminationCheck {e : EvapId} {x : Option Int} {u s : Part} (k : Talks u s) : Talks u (terminationCheck e x s) := by
  unfold terminationCheck; split <;> simp (maxDischargeDepth := 12) [k]

@[simp] theorem talks_fanCheck {e : EvapId} {x : Option Int} {u s : Part} (k : Talks u s) : Talks u (fanCheck e x s) := by
  unfold fanCheck; split <;> simp (maxDischargeDepth := 12) [k]

@[simp] theorem talks_evapReportEvent {e : EvapId} {r : EvapReport} {h : Bool} {u s : Part} (k : Talks u s) : Talks u (evapReportEvent e r h s) := by
  simp (maxDischargeDepth := 12) [evapReportEvent, k]

@[simp] theorem talks_dockLost {d : DoorId} {n : Nat} {u s : Part} (k : Talks u s) : Talks u (dockLost d n s) := by
  simp (maxDischargeDepth := 12) [dockLost, k]

@[simp] theorem talks_portalLost {q : PortalId} {n : Nat} {u s : Part} (k : Talks u s) : Talks u (portalLost q n s) := by
  simp (maxDischargeDepth := 12) [portalLost, k]

@[simp] theorem talks_stationLost {a : StationId} {u s : Part} (k : Talks u s) : Talks u (stationLost a s) := by
  simp (maxDischargeDepth := 12) [stationLost, k]

@[simp] theorem talks_stationRestored {a : StationId} {u s : Part} (k : Talks u s) : Talks u (stationRestored a s) :=
  .of_only (stationRestored_only a s) rfl k

@[simp] theorem talks_accountMiss {a : StationId} {u s : Part} (k : Talks u s) : Talks u (accountMiss a s) := by
  simp (maxDischargeDepth := 12) [accountMiss, k]

@[simp] theorem talks_accountGood {a : StationId} {u s : Part} (k : Talks u s) : Talks u (accountGood a s) := by
  simp (maxDischargeDepth := 12) [accountGood, k]

@[simp] theorem talks_missInFlight {u s : Part} (k : Talks u s) : Talks u (missInFlight s) := by
  unfold missInFlight; (repeat' split) <;> simp (maxDischargeDepth := 12) [k]

@[simp] theorem talks_takeSection {a : StationId} {x : EventSection} {u s : Part} (k : Talks u s) : Talks u (takeSection a x s) :=
  .of_only (takeSection_only a x s) rfl k

@[simp] theorem talks_deliverPasses {door : DoorRef} {ps : List Pass} {u s : Part} (k : Talks u s) : Talks u (deliverPasses door ps s) := by
  simp [deliverPasses, k]

@[simp] theorem talks_deliverDock {a : StationId} {r : DockReport} {u s : Part} (k : Talks u s) : Talks u (deliverDock a r s) := by
  simp (maxDischargeDepth := 12) [deliverDock, k]

@[simp] theorem talks_deliverPortal {a : StationId} {r : PortalReport} {u s : Part} (k : Talks u s) : Talks u (deliverPortal a r s) := by
  simp (maxDischargeDepth := 12) [deliverPortal, k]

@[simp] theorem talks_deliverEvap {a : StationId} {i : Image} {r : EvapReport} {u s : Part} (k : Talks u s) : Talks u (deliverEvap a i r s) := by
  simp [deliverEvap, k]

@[simp] theorem talks_deliverProbe {a : StationId} {r : Vector ProbeEntry 4} {u s : Part} (k : Talks u s) : Talks u (deliverProbe a r s) := by
  simp (maxDischargeDepth := 12) [deliverProbe, k]

/-! ### Ports (PortOps.lean) -/

@[simp] theorem talks_restorePort {p : Port} {u s : Part} (k : Talks u s) : Talks u (restorePort p s) := by
  unfold restorePort; split <;> simp (maxDischargeDepth := 12) [k]

@[simp] theorem talks_renew {p : Port} {u s : Part} (k : Talks u s) : Talks u (renew p s) := by
  unfold renew
  exact talks_onlyIf (fun t => by simp) (k.quiet (quiet_modPort p _ s fun _ => rfl))

@[simp] theorem talks_zonesSilent {u s : Part} (k : Talks u s) : Talks u (zonesSilent s) := by
  simp (maxDischargeDepth := 12) [zonesSilent, k]

@[simp] theorem talks_doorsSilent {u s : Part} (k : Talks u s) : Talks u (doorsSilent s) := by
  simp (maxDischargeDepth := 12) [doorsSilent, k]

@[simp] theorem talks_warehouseSilent {u s : Part} (k : Talks u s) : Talks u (warehouseSilent s) := by
  unfold warehouseSilent; simp (maxDischargeDepth := 12) [k]

@[simp] theorem talks_becomeSilent {p : Port} {u s : Part} (k : Talks u s) : Talks u (becomeSilent p s) := by
  unfold becomeSilent; dsimp only
  have h := k.quiet (quiet_modPort p (fun r => { r with silent := true, supervisionDl := none }) s fun _ => rfl)
  split <;> simp (maxDischargeDepth := 12) [h]

/-! ### Settings (StoreOps.lean) -/

@[simp] theorem talks_stationLeaves {a : StationId} {u s : Part} (k : Talks u s) : Talks u (stationLeaves a s) := by
  unfold stationLeaves; dsimp only
  exact talks_endCondition ((Talks.of_only (modStation_only a _ s) rfl k).quiet (quiet_loop _ _))

@[simp] theorem talks_stationBegins {a : StationId} {u s : Part} (k : Talks u s) : Talks u (stationBegins a s) :=
  .of_only (stationBegins_only a s) rfl k

@[simp] theorem talks_stationWritten {a : StationId} {o x : StationCfg} {u s : Part} (k : Talks u s) : Talks u (stationWritten a o x s) := by
  unfold stationWritten; (repeat' split) <;> simp (maxDischargeDepth := 12) [k]

@[simp] theorem talks_clearProbe {t : ProbeId} {u s : Part} (k : Talks u s) : Talks u (clearProbe t s) :=
  .of_only (clearProbe_only t s) rfl k

@[simp] theorem talks_probeWritten {t : ProbeId} {o x : ProbeCfg} {u s : Part} (k : Talks u s) : Talks u (probeWritten t o x s) := by
  simp (maxDischargeDepth := 12) [probeWritten, k]

@[simp] theorem talks_zoneEnters {z : ZoneId} {u s : Part} (k : Talks u s) : Talks u (zoneEnters z s) := by
  simp (maxDischargeDepth := 12) [zoneEnters, k]

@[simp] theorem talks_zoneLeaves {z : ZoneId} {u s : Part} (k : Talks u s) : Talks u (zoneLeaves z s) := by
  simp (maxDischargeDepth := 12) [zoneLeaves, k]

@[simp] theorem talks_zoneWritten {z : ZoneId} {o x : ZoneCfg} {u s : Part} (k : Talks u s) : Talks u (zoneWritten z o x s) := by
  unfold zoneWritten; (repeat' split) <;> simp (maxDischargeDepth := 12) [k]

@[simp] theorem talks_dockEnters {d : DoorId} {u s : Part} (k : Talks u s) : Talks u (dockEnters d s) :=
  .of_only (dockEnters_only d s) rfl k

@[simp] theorem talks_dockLeaves {d : DoorId} {u s : Part} (k : Talks u s) : Talks u (dockLeaves d s) := by
  simp (maxDischargeDepth := 12) [dockLeaves, k]

@[simp] theorem talks_dockWritten {d : DoorId} {o x : DockCfg} {u s : Part} (k : Talks u s) : Talks u (dockWritten d o x s) := by
  unfold dockWritten; (repeat' split) <;> simp (maxDischargeDepth := 12) [k]

@[simp] theorem talks_portalEnters {q : PortalId} {u s : Part} (k : Talks u s) : Talks u (portalEnters q s) :=
  .of_only (portalEnters_only q s) rfl k

@[simp] theorem talks_portalLeaves {q : PortalId} {u s : Part} (k : Talks u s) : Talks u (portalLeaves q s) := by
  simp (maxDischargeDepth := 12) [portalLeaves, k]

@[simp] theorem talks_portalWritten {q : PortalId} {o x : PortalCfg} {u s : Part} (k : Talks u s) : Talks u (portalWritten q o x s) := by
  unfold portalWritten; (repeat' split) <;> simp (maxDischargeDepth := 12) [k]

@[simp] theorem talks_evapLeaves {e : EvapId} {u s : Part} (k : Talks u s) : Talks u (evapLeaves e s) := by
  simp [evapLeaves, k]

@[simp] theorem talks_evapWritten {e : EvapId} {o x : EvapCfg} {u s : Part} (k : Talks u s) : Talks u (evapWritten e o x s) := by
  unfold evapWritten; (repeat' split) <;> simp (maxDischargeDepth := 12) [k]

@[simp] theorem talks_applyRecord {r : Record} {u s : Part} (k : Talks u s) : Talks u (applyRecord r s) := by
  unfold applyRecord; split <;> simp (maxDischargeDepth := 12) [k]

@[simp] theorem talks_lockDock {d : DoorId} {u s : Part} (k : Talks u s) : Talks u (lockDock d s) := by
  simp (maxDischargeDepth := 12) [lockDock, k]

@[simp] theorem talks_lockPortal {q : PortalId} {u s : Part} (k : Talks u s) : Talks u (lockPortal q s) := by
  simp (maxDischargeDepth := 12) [lockPortal, k]

@[simp] theorem talks_lockEvap {e : EvapId} {u s : Part} (k : Talks u s) : Talks u (lockEvap e s) := by
  simp (maxDischargeDepth := 12) [lockEvap, k]

@[simp] theorem talks_lockEffect {t : LockTarget} {b : Bool} {u s : Part} (k : Talks u s) : Talks u (lockEffect t b s) := by
  unfold lockEffect; split <;> simp (maxDischargeDepth := 12) [k]

/-! ### Commands -/

theorem talks_acceptWrite {w : WriteOp} {u s : Part} (k : Talks u s) : Talks u (acceptWrite w s) := .of_only (acceptWrite_only w s) rfl k

theorem talks_answer {p : Port} {code : Nat} {tag : Byte} {r : Reply} {u : Part} (k : Talks u r.1) : Talks u (answer p code tag r) := by
  unfold answer; split
  · exact talks_respond k
  · exact k.quiet (quiet_modPort p _ _ fun _ => rfl)

/-- A request talks as its own rule does: the renewal and the response add nothing to the queues but the notices of a restore. -/
theorem talks_serve {code : Nat} {role : Option Port} {p : Port} {tag : Byte} {h : Part → Reply} (hh : ∀ t, Talks t (h t).1) {u s : Part}
    (k : Talks u s) : Talks u (serve code role p tag h s) := by
  unfold serve; dsimp only
  repeat' split
  all_goals first
    | exact talks_respond (talks_renew k)
    | exact talks_answer ((talks_renew k).trans (hh _))
    | exact k

theorem talks_whileRunning {f : Part → Part} (h : ∀ t, Talks t (f t)) {u s : Part} (k : Talks u s) : Talks u (whileRunning f s) := by
  unfold whileRunning; split
  · exact k.trans (h s)
  · exact k

end Sys2Proof.Machine
end

