-- ==== Sys2Proof/Laws/Alarms.lean ====
section
/-! SUPPORT. What the three primitives of the alarm table and the notice queues can do: an offered notice, a raise, the end of a
condition; and the pallet table's own operations. -/

namespace Sys2Proof.Machine

open Sys2Proof

/-! ### Notices -/

theorem offer_room {time : Nat} {b : NoticeBody} {r : PortRec} (h : r.queue.length < queueDepth) :
    offer time b r = { r with queue := r.queue ++ [⟨r.nextNumber, time, b⟩], nextNumber := nextNoticeNumber r.nextNumber } := by
  simp [offer, h]

theorem offer_full {time : Nat} {b : NoticeBody} {r : PortRec} (h : ¬ r.queue.length < queueDepth) :
    offer time b r = { r with overflow := true, nextNumber := nextNoticeNumber r.nextNumber } := by
  simp [offer, h]

theorem offer_bounded {time : Nat} {b : NoticeBody} {r : PortRec} (h : r.queue.length ≤ queueDepth) :
    (offer time b r).queue.length ≤ queueDepth := by
  by_cases k : r.queue.length < queueDepth
  · rw [offer_room k]; simpa using k
  · rw [offer_full k]; exact h

theorem offer_overflow {time : Nat} {b : NoticeBody} {r : PortRec} (h : r.overflow = true) : (offer time b r).overflow = true := by
  unfold offer; split
  · exact h
  · rfl

theorem notify_port (p : Port) (b : NoticeBody) (s : Part) : (notify p b s).port p = offer s.time b (s.port p) := by
  cases p <;> rfl

theorem notify_port_other (p : Port) (b : NoticeBody) (s : Part) : (notify p b s).port p.other = s.port p.other := by
  cases p <;> rfl

@[simp] theorem notify_alarms (p : Port) (b : NoticeBody) (s : Part) : (notify p b s).alarms = s.alarms := by cases p <;> rfl

@[simp] theorem notifyBoth_alarms (b : NoticeBody) (s : Part) : (notifyBoth b s).alarms = s.alarms := rfl

/-! ### Alarms -/

/-- What a raise leaves in the table: a repeat of the record present, a new record, a new record in the place of a displaced one, or the
table-full flag (R176, R177, R180). -/
theorem raiseAlarm_cases (k : AlarmKind) (x : Subject) (s : Part) :
    (∃ a, s.alarms.records.find? (isAlarm k x) = some a ∧ raiseAlarm k x s = repeatAlarm a s)
      ∨ (s.alarms.records.find? (isAlarm k x) = none ∧ s.alarms.records.length < alarmRoom ∧ raiseAlarm k x s = createAlarm k x s)
      ∨ (∃ a, s.alarms.records.find? (isAlarm k x) = none ∧ ¬ s.alarms.records.length < alarmRoom
          ∧ displaceable s.alarms.records = some a
          ∧ raiseAlarm k x s
              = createAlarm k x (notifyBoth (.alarmCleared a.number a.kind a.subject none .displaced) (modAlarms (dropAlarm a) s)))
      ∨ (s.alarms.records.find? (isAlarm k x) = none ∧ ¬ s.alarms.records.length < alarmRoom
          ∧ displaceable s.alarms.records = none ∧ raiseAlarm k x s = unstoredAlarm k x s) := by
  unfold raiseAlarm
  split
  · exact .inl ⟨_, ‹_›, rfl⟩
  · split
    · exact .inr (.inl ⟨‹_›, ‹_›, rfl⟩)
    · split
      · exact .inr (.inr (.inl ⟨_, ‹_›, ‹_›, ‹_›, rfl⟩))
      · exact .inr (.inr (.inr ⟨‹_›, ‹_›, ‹_›, rfl⟩))

theorem createAlarm_records (k : AlarmKind) (x : Subject) (s : Part) :
    (createAlarm k x s).alarms.records = s.alarms.records ++ [newAlarm k x s.time s.alarms] := by
  simp [createAlarm, modAlarms, setRelay]

theorem repeatAlarm_records (a : Alarm) (s : Part) :
    (repeatAlarm a s).alarms.records = s.alarms.records.map (fun c => if c = a then
      { a with
        lastRepeat := s.time, repeats := satInc 255 a.repeats
        state := if a.state = .clearedUnack then .activeUnack else a.state } else c) := by
  simp [repeatAlarm, modAlarms, setRelay]

theorem unstoredAlarm_records (k : AlarmKind) (x : Subject) (s : Part) :
    (unstoredAlarm k x s).alarms.records = s.alarms.records := by
  simp [unstoredAlarm, modAlarms]

theorem removeAlarm_records (a : Alarm) (c : ClearCause) (s : Part) :
    (removeAlarm a c s).alarms.records = s.alarms.records.erase a := by
  have h (t : AlarmTable) : (clearFull t).records = t.records := by unfold clearFull; split <;> rfl
  simp [removeAlarm, modAlarms, setRelay, h, dropAlarm]

/-- What the end of a condition does: nothing, ACTIVE_UNACK to CLEARED_UNACK, or the removal of an ACTIVE_ACK record (R178). -/
theorem endCondition_cases (k : AlarmKind) (x : Subject) (s : Part) :
    endCondition k x s = s
      ∨ (∃ a, k.latched = false ∧ s.alarms.records.find? (isAlarm k x) = some a ∧ a.state = .activeUnack
          ∧ endCondition k x s
              = notifyBoth (.alarmCleared a.number a.kind a.subject (some .clearedUnack) .conditionEnded)
                  (countChange (modAlarms (setAlarmState a .clearedUnack) s)))
      ∨ (∃ a, k.latched = false ∧ s.alarms.records.find? (isAlarm k x) = some a ∧ a.state = .activeAck
          ∧ endCondition k x s = removeAlarm a .conditionEnded (countChange s)) := by
  unfold endCondition
  split
  · exact .inl rfl
  · rename_i hl
    split
    · exact .inl rfl
    · split
      · exact .inr (.inl ⟨_, by simpa using hl, ‹_›, ‹_›, rfl⟩)
      · exact .inr (.inr ⟨_, by simpa using hl, ‹_›, ‹_›, rfl⟩)
      · exact .inl rfl

/-! ### Pallets -/

theorem modPallet_ids {id : Nat} {f : Pallet → Pallet} {s : Part} (h : ∀ p, (f p).id = p.id) :
    (modPallet id f s).pallets.map (·.id) = s.pallets.map (·.id) := by
  simp only [modPallet, List.map_map]
  apply List.map_congr_left
  intro p _
  simp only [Function.comp]
  split
  · exact h p
  · rfl

theorem findPallet_id {s : Part} {id : Nat} {p : Pallet} (h : findPallet s id = some p) : p ∈ s.pallets ∧ p.id = id := by
  unfold findPallet at h
  exact ⟨List.mem_of_find?_eq_some h, by simpa using List.find?_some h⟩

theorem dropPallet_ids (id : Nat) (s : Part) : (dropPallet id s).pallets.map (·.id) = (s.pallets.map (·.id)).filter (· != id) := by
  simp [dropPallet, List.filter_map]; rfl

theorem mem_insertPallet {p q : Pallet} {l : List Pallet} : q ∈ insertPallet p l ↔ q = p ∨ q ∈ l := by
  induction l with
  | nil => simp [insertPallet]
  | cons a l ih =>
    unfold insertPallet; split
    · simp
    · simp only [List.mem_cons, ih]; tauto

end Sys2Proof.Machine
end

