-- ==== Sys2Proof/Laws/PerInstr.lean ====
section
/-! SUPPORT. One lemma per command for statements about every command: RequestCode says that a well-formed request carries a code of the
request table (R198), or a body that no code reads (R200). -/

namespace Sys2Proof.Laws.RequestCode

open Sys2Proof Sys2Proof.Machine

/-- The code of a well-formed request is one of 1 to 40, or its body does not read (R198, R200). -/
def Statement (i : Instr) : Prop :=
  WellFormed i = true → ∀ p code tag, asRequest i = some (p, code, tag) → (1 ≤ code ∧ code ≤ 40) ∨ bodyReads i = false

theorem of_code {i : Instr} {q : Port} {n : Nat} {g : Byte} (h : asRequest i = some (q, n, g)) (lo : 1 ≤ n) (hi : n ≤ 40) :
    Statement i := by
  intro _ p code tag k
  rw [h] at k
  cases k
  exact .inl ⟨lo, hi⟩

theorem of_none {i : Instr} (h : asRequest i = none) : Statement i := by
  intro _ p code tag k
  rw [h] at k
  cases k

theorem supplyFall (ms : Nat) : Statement (.supplyFall ms) := of_none rfl
theorem supplyRise (ms : Nat) : Statement (.supplyRise ms) := of_none rfl
theorem dipFilterExpiry (ms : Nat) : Statement (.dipFilterExpiry ms) := of_none rfl
theorem rideThroughLimit (ms : Nat) : Statement (.rideThroughLimit ms) := of_none rfl
theorem warmRestart (ms : Nat) : Statement (.warmRestart ms) := of_none rfl
theorem coldStart (ms : Nat) : Statement (.coldStart ms) := of_none rfl
theorem resetAssert : Statement .resetAssert := of_none rfl
theorem resetRelease (ms : Nat) : Statement (.resetRelease ms) := of_none rfl
theorem deviceTimeTick : Statement .deviceTimeTick := of_none rfl
theorem bankWriteComplete (matched : Bool) : Statement (.bankWriteComplete matched) := of_none rfl
theorem receiverGapTimeout (p : Port) (arrived : List (Nat × Byte)) (ms : Nat) : Statement (.receiverGapTimeout p arrived ms) :=
  of_none rfl
theorem frameDiscarded (p : Port) (arrived : List (Nat × Byte)) : Statement (.frameDiscarded p arrived) := of_none rfl
theorem unknownRequestCode (p : Port) (code tag : Byte) (body : List Byte) : Statement (.unknownRequestCode p code tag body) :=
  fun _ _ _ _ _ => .inr rfl
theorem ping (p : Port) (tag : Byte) (body : List Byte) : Statement (.ping p tag body) :=
  of_code rfl (by decide) (by decide)
theorem readSettings (p : Port) (tag : Byte) (body : List Byte) : Statement (.readSettings p tag body) :=
  of_code rfl (by decide) (by decide)
theorem writeSettings (p : Port) (tag : Byte) (body : List Byte) : Statement (.writeSettings p tag body) :=
  of_code rfl (by decide) (by decide)
theorem lockout (p : Port) (tag : Byte) (body : List Byte) : Statement (.lockout p tag body) :=
  of_code rfl (by decide) (by decide)
theorem readStation (p : Port) (tag : Byte) (body : List Byte) : Statement (.readStation p tag body) :=
  of_code rfl (by decide) (by decide)
theorem readZone (p : Port) (tag : Byte) (body : List Byte) : Statement (.readZone p tag body) :=
  of_code rfl (by decide) (by decide)
theorem zoneBulk (p : Port) (tag : Byte) (body : List Byte) : Statement (.zoneBulk p tag body) :=
  of_code rfl (by decide) (by decide)
theorem zoneBulkRelease (p : Port) (tag : Byte) (body : List Byte) : Statement (.zoneBulkRelease p tag body) :=
  of_code rfl (by decide) (by decide)
theorem zonePulldown (p : Port) (tag : Byte) (body : List Byte) : Statement (.zonePulldown p tag body) :=
  of_code rfl (by decide) (by decide)
theorem zoneRelease (p : Port) (tag : Byte) (body : List Byte) : Statement (.zoneRelease p tag body) :=
  of_code rfl (by decide) (by decide)
theorem readDoor (p : Port) (tag : Byte) (body : List Byte) : Statement (.readDoor p tag body) :=
  of_code rfl (by decide) (by decide)
theorem claimDoor (p : Port) (tag : Byte) (body : List Byte) : Statement (.claimDoor p tag body) :=
  of_code rfl (by decide) (by decide)
theorem unclaimDoor (p : Port) (tag : Byte) (body : List Byte) : Statement (.unclaimDoor p tag body) :=
  of_code rfl (by decide) (by decide)
theorem holdDoor (p : Port) (tag : Byte) (body : List Byte) : Statement (.holdDoor p tag body) :=
  of_code rfl (by decide) (by decide)
theorem unholdDoor (p : Port) (tag : Byte) (body : List Byte) : Statement (.unholdDoor p tag body) :=
  of_code rfl (by decide) (by decide)
theorem sealDoor (p : Port) (tag : Byte) (body : List Byte) : Statement (.sealDoor p tag body) :=
  of_code rfl (by decide) (by decide)
theorem reseal (p : Port) (tag : Byte) (body : List Byte) : Statement (.reseal p tag body) :=
  of_code rfl (by decide) (by decide)
theorem releaseDoor (p : Port) (tag : Byte) (body : List Byte) : Statement (.releaseDoor p tag body) :=
  of_code rfl (by decide) (by decide)
theorem openDoor (p : Port) (tag : Byte) (body : List Byte) : Statement (.openDoor p tag body) :=
  of_code rfl (by decide) (by decide)
theorem closeDoor (p : Port) (tag : Byte) (body : List Byte) : Statement (.closeDoor p tag body) :=
  of_code rfl (by decide) (by decide)
theorem manifestBegin (p : Port) (tag : Byte) (body : List Byte) : Statement (.manifestBegin p tag body) :=
  of_code rfl (by decide) (by decide)
theorem manifestEntry (p : Port) (tag : Byte) (body : List Byte) : Statement (.manifestEntry p tag body) :=
  of_code rfl (by decide) (by decide)
theorem manifestCommit (p : Port) (tag : Byte) (body : List Byte) : Statement (.manifestCommit p tag body) :=
  of_code rfl (by decide) (by decide)
theorem manifestClear (p : Port) (tag : Byte) (body : List Byte) : Statement (.manifestClear p tag body) :=
  of_code rfl (by decide) (by decide)
theorem readManifest (p : Port) (tag : Byte) (body : List Byte) : Statement (.readManifest p tag body) :=
  of_code rfl (by decide) (by decide)
theorem move (p : Port) (tag : Byte) (body : List Byte) : Statement (.move p tag body) :=
  of_code rfl (by decide) (by decide)
theorem cancelMove (p : Port) (tag : Byte) (body : List Byte) : Statement (.cancelMove p tag body) :=
  of_code rfl (by decide) (by decide)
theorem removePallet (p : Port) (tag : Byte) (body : List Byte) : Statement (.removePallet p tag body) :=
  of_code rfl (by decide) (by decide)
theorem readPallet (p : Port) (tag : Byte) (body : List Byte) : Statement (.readPallet p tag body) :=
  of_code rfl (by decide) (by decide)
theorem findPallets (p : Port) (tag : Byte) (body : List Byte) : Statement (.findPallets p tag body) :=
  of_code rfl (by decide) (by decide)
theorem readStaging (p : Port) (tag : Byte) (body : List Byte) : Statement (.readStaging p tag body) :=
  of_code rfl (by decide) (by decide)
theorem defrostRequest (p : Port) (tag : Byte) (body : List Byte) : Statement (.defrostRequest p tag body) :=
  of_code rfl (by decide) (by decide)
theorem forceDefrost (p : Port) (tag : Byte) (body : List Byte) : Statement (.forceDefrost p tag body) :=
  of_code rfl (by decide) (by decide)
theorem cancelDefrost (p : Port) (tag : Byte) (body : List Byte) : Statement (.cancelDefrost p tag body) :=
  of_code rfl (by decide) (by decide)
theorem setHeatSlots (p : Port) (tag : Byte) (body : List Byte) : Statement (.setHeatSlots p tag body) :=
  of_code rfl (by decide) (by decide)
theorem readEvaporator (p : Port) (tag : Byte) (body : List Byte) : Statement (.readEvaporator p tag body) :=
  of_code rfl (by decide) (by decide)
theorem readDefrost (p : Port) (tag : Byte) (body : List Byte) : Statement (.readDefrost p tag body) :=
  of_code rfl (by decide) (by decide)
theorem ackAlarm (p : Port) (tag : Byte) (body : List Byte) : Statement (.ackAlarm p tag body) :=
  of_code rfl (by decide) (by decide)
theorem readAlarms (p : Port) (tag : Byte) (body : List Byte) : Statement (.readAlarms p tag body) :=
  of_code rfl (by decide) (by decide)
theorem fetchNotices (p : Port) (tag : Byte) (body : List Byte) : Statement (.fetchNotices p tag body) :=
  of_code rfl (by decide) (by decide)
theorem supervisionDeadline (p : Port) : Statement (.supervisionDeadline p) := of_none rfl
theorem roundStart (ms : Nat) : Statement (.roundStart ms) := of_none rfl
theorem poll : Statement .poll := of_none rfl
theorem reportWindowExpiry : Statement .reportWindowExpiry := of_none rfl
theorem badReport (bytes : List Byte) : Statement (.badReport bytes) := of_none rfl
theorem dockReport (a : StationId) (body : List Byte) : Statement (.dockReport a body) := of_none rfl
theorem portalReport (a : StationId) (body : List Byte) : Statement (.portalReport a body) := of_none rfl
theorem evapReport (a : StationId) (body : List Byte) : Statement (.evapReport a body) := of_none rfl
theorem probeReport (a : StationId) (body : List Byte) : Statement (.probeReport a body) := of_none rfl
theorem freshnessExpiry (t : ProbeId) : Statement (.freshnessExpiry t) := of_none rfl
theorem staleHoldOffExpiry (z : ZoneId) : Statement (.staleHoldOffExpiry z) := of_none rfl
theorem warmDeadlineExpiry (z : ZoneId) : Statement (.warmDeadlineExpiry z) := of_none rfl
theorem recoveryDeadlineExpiry (z : ZoneId) : Statement (.recoveryDeadlineExpiry z) := of_none rfl
theorem zoneExposureIntervalExpiry (z : ZoneId) : Statement (.zoneExposureIntervalExpiry z) := of_none rfl
theorem bulkDeadlineExpiry (z : ZoneId) : Statement (.bulkDeadlineExpiry z) := of_none rfl
theorem sealDeadlineExpiry (d : DoorId) : Statement (.sealDeadlineExpiry d) := of_none rfl
theorem travelDeadlineExpiry (d : DoorId) : Statement (.travelDeadlineExpiry d) := of_none rfl
theorem portalTravelDeadlineExpiry (q : PortalId) : Statement (.portalTravelDeadlineExpiry q) := of_none rfl
theorem openDeadlineExpiry (d : DoorId) : Statement (.openDeadlineExpiry d) := of_none rfl
theorem grantDeadlineExpiry (q : PortalId) : Statement (.grantDeadlineExpiry q) := of_none rfl
theorem doorExposureIntervalExpiry (d : DoorId) : Statement (.doorExposureIntervalExpiry d) := of_none rfl
theorem entryDeadlineExpiry (d : DoorId) : Statement (.entryDeadlineExpiry d) := of_none rfl
theorem moveExpiry (id : Nat) : Statement (.moveExpiry id) := of_none rfl
theorem backstopDeadlineExpiry (e : EvapId) : Statement (.backstopDeadlineExpiry e) := of_none rfl
theorem overdueDeadlineExpiry (e : EvapId) : Statement (.overdueDeadlineExpiry e) := of_none rfl
theorem gatherWindowExpiry (z : ZoneId) : Statement (.gatherWindowExpiry z) := of_none rfl
theorem pumpdownDeadlineExpiry (z : ZoneId) : Statement (.pumpdownDeadlineExpiry z) := of_none rfl
theorem heatDeadlineExpiry (e : EvapId) : Statement (.heatDeadlineExpiry e) := of_none rfl
theorem dripDeadlineExpiry (z : ZoneId) : Statement (.dripDeadlineExpiry z) := of_none rfl
theorem refreezeMaximumExpiry (z : ZoneId) : Statement (.refreezeMaximumExpiry z) := of_none rfl
theorem suspensionDeadlineExpiry (z : ZoneId) : Statement (.suspensionDeadlineExpiry z) := of_none rfl

end Sys2Proof.Laws.RequestCode
end

