-- ==== Sys2Proof/Laws/Ports.lean ====
section
/-! SUPPORT. What a port does with a request: the renewal, the response, and the four ways `serve` ends. A proof about a request
rewrites `serve` with one of them and unfolds none of it. -/

namespace Sys2Proof.Machine

open Sys2Proof

/-! ### The renewal (R185, R193, R195) -/

@[simp] theorem portInterval_modPort (p q : Port) (f : PortRec → PortRec) (s : Part) :
    portInterval (modPort p f s) q = portInterval s q := by
  cases p <;> cases q <;> rfl

/-- A renewal is a change of the port's own fields, then a restore that only talks. -/
theorem renew_only (p : Port) (s : Part) :
    Only (.heatSlots :: defrostGroups)
      (modPort p (fun r => { r with
        receiver := .hunt, silent := false, lastRequest := some s.time, supervisionDl := some (addTime s.time (portInterval s p)) }) s)
      (renew p s) := by
  unfold renew; dsimp only
  exact onlyIf_only (restorePort_only p _)

theorem renew_within (p : Port) (s : Part) : Within (.heatSlots :: defrostGroups) s (renew p s) := by
  intro g hg
  refine Group.same_trans ?_ ((renew_only p s).within g hg)
  cases g <;> simp_all [Group.same, defrostGroups]

@[simp] theorem renew_out (p : Port) (s : Part) : (renew p s).out = s.out := by
  simpa using (renew_only p s).out

@[simp] theorem renew_time (p : Port) (s : Part) : (renew p s).time = s.time := renew_within p s .time (by decide)
@[simp] theorem renew_cfg (p : Port) (s : Part) : (renew p s).cfg = s.cfg := renew_within p s .cfg (by decide)
@[simp] theorem renew_supply (p : Port) (s : Part) : (renew p s).supply = s.supply := renew_within p s .supply (by decide)
@[simp] theorem renew_store (p : Port) (s : Part) : (renew p s).store = s.store := renew_within p s .store (by decide)
@[simp] theorem renew_slots (p : Port) (s : Part) : (renew p s).slots = s.slots := renew_within p s .slots (by decide)
@[simp] theorem renew_pallets (p : Port) (s : Part) : (renew p s).pallets = s.pallets := renew_within p s .pallets (by decide)
@[simp] theorem renew_credits (p : Port) (s : Part) : (renew p s).credits = s.credits := renew_within p s .credits (by decide)
@[simp] theorem renew_loop (p : Port) (s : Part) : (renew p s).loop = s.loop := renew_within p s .loop (by decide)
@[simp] theorem renew_probes (p : Port) (s : Part) : (renew p s).probes = s.probes := renew_within p s .probes (by decide)
@[simp] theorem renew_cause (p : Port) (s : Part) : (renew p s).cause = s.cause := renew_within p s .cause (by decide)

/-- The fields of each port but its queue are kept by what only talks. -/
theorem Only.core {gs : List Group} {s t : Part} (h : Only gs s t) (p : Port) : (t.port p).core = (s.port p).core := by
  cases p
  · exact h.plant
  · exact h.warehouse

theorem renew_core (p : Port) (s : Part) :
    ((renew p s).port p).core = (false, some (addTime s.time (portInterval s p)), (s.port p).inService, some s.time, .hunt) := by
  rw [(renew_only p s).core p]; simp [PortRec.core]

theorem renew_core_other (p : Port) (s : Part) : ((renew p s).port p.other).core = (s.port p.other).core := by
  rw [(renew_only p s).core p.other]; simp

@[simp] theorem renew_inService (p : Port) (s : Part) : ((renew p s).port p).inService = (s.port p).inService := by
  have := renew_core p s; simp [PortRec.core] at this; simp [this]

@[simp] theorem renew_silent (p : Port) (s : Part) : ((renew p s).port p).silent = false := by
  have := renew_core p s; simp [PortRec.core] at this; simp [this]

@[simp] theorem renew_supervisionDl (p : Port) (s : Part) :
    ((renew p s).port p).supervisionDl = some (addTime s.time (portInterval s p)) := by
  have := renew_core p s; simp [PortRec.core] at this; simp [this]

/-- A port that is ACTIVE is only given its new deadline (R193). -/
theorem renew_active {p : Port} {s : Part} (h : (s.port p).silent = false) :
    renew p s = modPort p (fun r => { r with
      receiver := .hunt, silent := false, lastRequest := some s.time, supervisionDl := some (addTime s.time (portInterval s p)) }) s := by
  simp [renew, onlyIf, h]

/-! ### Responses (R187, R193) -/

theorem modPort_self {p : Port} {f : PortRec → PortRec} {s : Part} (h : f (s.port p) = s.port p) : modPort p f s = s := by
  cases p <;> simp_all [modPort, Part.port]

/-- A deadline set to the value it holds. -/
theorem setDeadline_self {r : PortRec} {d : Option Nat} (h : r.supervisionDl = d) : { r with supervisionDl := d } = r := by
  subst h; rfl

/-- A response on a port whose deadline has just been renewed is one frame and changes no record. -/
theorem respond_renewed {p : Port} {code : Nat} {tag : Byte} {st : Status} {body : List Byte} {t : Part}
    (h : (t.port p).supervisionDl = some (addTime t.time (portInterval t p))) :
    respond p code tag st body t = send (.response p ⟨code, tag, st, body⟩) t := by
  unfold respond superviseFromNow
  refine modPort_self ?_
  split
  · rfl
  · cases p <;> exact setDeadline_self h

/-! ### The ways a request ends (R185, R186) -/

theorem serve_stopped {code : Nat} {role : Option Port} {p : Port} {tag : Byte} {h : Part → Reply} {s : Part}
    (hr : s.running = false) : serve code role p tag h s = s := by simp [serve, hr]

theorem serve_busy {code : Nat} {role : Option Port} {p : Port} {tag : Byte} {h : Part → Reply} {s : Part}
    (hr : s.running = true) (hb : (s.port p).inService ≠ none) :
    serve code role p tag h s = send (.response p ⟨code, tag, .portBusy, []⟩) (renew p s) := by
  have hb' : (s.port p).inService.isSome = true := Option.isSome_iff_ne_none.mpr hb
  unfold serve
  simp only [hr, if_true, renew_inService, hb']
  refine respond_renewed ?_
  simp [portInterval]

theorem serve_wrongRole {code : Nat} {role : Option Port} {p : Port} {tag : Byte} {h : Part → Reply} {s : Part}
    (hr : s.running = true) (hb : (s.port p).inService = none) (hp : role = some p.other) :
    serve code role p tag h s = send (.response p ⟨code, tag, .notPermitted, []⟩) (renew p s) := by
  unfold serve
  simp only [hr, if_true, renew_inService, hb, hp]
  simp only [Option.isSome_none, Bool.false_eq_true, if_false]
  refine respond_renewed ?_
  simp [portInterval]

/-- A request that is dispatched and answered at once: its handler's part, with the response sent. The handler must keep the device
time, the port's interval and the port's own deadline. -/
theorem serve_reply {code : Nat} {role : Option Port} {p : Port} {tag : Byte} {h : Part → Reply} {s t : Part} {st : Status}
    {body : List Byte} (hr : s.running = true) (hb : (s.port p).inService = none) (hp : role ≠ some p.other)
    (hh : h (renew p s) = (t, some (st, body))) (hd : (t.port p).supervisionDl = some (addTime t.time (portInterval t p))) :
    serve code role p tag h s = send (.response p ⟨code, tag, st, body⟩) t := by
  unfold serve
  simp only [hr, if_true, renew_inService, hb, hp, Option.isSome_none, Bool.false_eq_true, if_false, answer, hh]
  exact respond_renewed hd

/-- A request that is dispatched and refused without effect. -/
theorem serve_refuse {code : Nat} {role : Option Port} {p : Port} {tag : Byte} {h : Part → Reply} {s : Part} {st : Status}
    {body : List Byte} (hr : s.running = true) (hb : (s.port p).inService = none) (hp : role ≠ some p.other)
    (hh : h (renew p s) = (renew p s, some (st, body))) :
    serve code role p tag h s = send (.response p ⟨code, tag, st, body⟩) (renew p s) :=
  serve_reply hr hb hp hh (by simp [portInterval])

/-- The handler of an answered request that only talks keeps what `serve_reply` asks for. -/
theorem Only.deadline {gs : List Group} {p : Port} {s t : Part} (h : Only gs (renew p s) t) (ht : .time ∉ gs) (hc : .cfg ∉ gs) :
    (t.port p).supervisionDl = some (addTime t.time (portInterval t p)) := by
  have h1 : t.time = s.time := (h.within .time ht).trans (by simp)
  have h2 : t.cfg = s.cfg := (h.within .cfg hc).trans (by simp)
  have h3 := (h.core p).trans (renew_core p s)
  simp only [PortRec.core, Prod.mk.injEq] at h3
  rw [h3.2.1, h1]
  cases p <;> simp [portInterval, h2]

/-- A request whose response waits for a write operation. -/
theorem serve_wait {code : Nat} {role : Option Port} {p : Port} {tag : Byte} {h : Part → Reply} {s t : Part}
    (hr : s.running = true) (hb : (s.port p).inService = none) (hp : role ≠ some p.other) (hh : h (renew p s) = (t, none)) :
    serve code role p tag h s = modPort p (fun x => { x with inService := some tag }) t := by
  unfold serve
  simp only [hr, if_true, renew_inService, hb, hp, Option.isSome_none, Bool.false_eq_true, if_false, answer, hh]

/-! ### Frames -/

/-- A frame sent changes no record. -/
theorem send_within (o : Output) (s : Part) : Within [] s (send o s) := fun g _ => by cases g <;> simp [Group.same]

end Sys2Proof.Machine
end

