-- ==== Sys2Proof/Tests/Slice0.lean ====
section
/-! SUPPORT. The model's own tests: the checks of WellFormed on ill-formed terms, words of the spec's frames, single steps, and for every
statement with hypotheses a `witness_` theorem that shows states and operands that meet them, clause by clause. Where a
witness holds for every value of a record, that value is quantified. -/

namespace Sys2Proof.Tests

open Sys2Proof Sys2Proof.Machine

/-! ### A part in operation -/

/-- A configuration with two zones, and one element of each kind at the top of its range. -/
def rigCfg : Settings :=
  { blankSettings with
    stations := upd (upd (upd (upd blankSettings.stations 0 fun _ => ⟨.dock, true, false⟩) 1 fun _ => ⟨.portal, true, false⟩) 2
      fun _ => ⟨.evap, true, false⟩) 61 fun _ => ⟨.probe, true, false⟩
    zones := upd (upd blankSettings.zones 0 fun c => { c with inService := true }) 6 fun c => { c with inService := true }
    probes := upd (upd blankSettings.probes 23 fun _ => ⟨true, false, some 6, some 61, 3⟩) 22 fun _ => ⟨true, false, some 6, some 61, 2⟩
    docks := upd blankSettings.docks 23 fun c => { c with inService := true, station := some 0 }
    portals := upd blankSettings.portals 11 fun c => { c with inService := true, zone := some 6, station := some 1 }
    evaps := upd blankSettings.evaps 15 fun c => { c with inService := true, zone := some 6, station := some 2 } }

/-- That part at device time 1000 with both zones OPEN, changed by `f`. -/
def rig (f : Part → Part) : State :=
  { pending := []
    part := f { State.reset.part with
      cfg := rigCfg, time := 1000
      zones := upd (upd State.reset.part.zones 0 fun z => { z with mode := .open }) 6 fun z => { z with mode := .open } } }

def door : Dock := coldDock rigCfg 23
def gate : Portal := coldPortal
def room : Zone := { coldZone rigCfg 6 with mode := .open }
def coil : Evap := freshEvap (rigCfg.evaps.get 15) 0

def withDock (k : Dock) : State := rig (modDock 23 fun _ => k)
def withPortal (k : Portal) : State := rig (modPortal 11 fun _ => k)
def withZone (k : Zone) : State := rig (modZone 6 fun _ => k)
def withHall (k : Zone) : State := rig (modZone 0 fun _ => k)
def withDoor (k : Dock) (w : Slot) : State := rig fun s => modSlot 23 (fun _ => w) (modDock 23 (fun _ => k) s)
def withEvap (k : Evap) : State := rig (modEvap 15 fun _ => k)
def putBatch (z : ZoneId) (b : Batch) (s : Part) : Part := { s with batches := upd s.batches z fun _ => some b }
def withBatch (b : Batch) : State := rig (putBatch 6 b)
def withPallets (l : List Pallet) : State := rig fun s => { s with pallets := l }
def withStation (a : StationId) (k : Station) (f : InFlight) : State :=
  rig fun s => modStation a (fun _ => k) { s with loop := { s.loop with inFlight := some f } }
def withSupply (u : Supply) : State := rig fun s => { s with supply := u }
def withPort (p : Port) (f : PortRec → PortRec) : State := rig (modPort p f)

/-- A batch of evaporator 15 with the given kind and phase; its deadline is now. -/
def batch (k : BatchKind) (f : Phase) : Batch := ⟨k, f, [⟨15, none, false⟩], some 1000, 900, 1, 0, false, none, none, false⟩

/-- A pallet in STORE(Z6) class 7. -/
def pallet (id : Nat) (l : Loc) (st : PalletStatus) (m : Option Move) : Pallet :=
  ⟨id, l, st, 4095, 7, ⟨.store 6, 0, 6, none⟩, none, false, m, -1800, 0, 1000, 0, false, false⟩

/-! ### Words of the spec -/

/-- R197: the check value of CRC-16 with this polynomial and initial value, of the bytes "123456789". -/
theorem test_crc_check_value : crc16 [0x31, 0x32, 0x33, 0x34, 0x35, 0x36, 0x37, 0x38, 0x39] = 0x29B1#16 := by decide +kernel

/-- R199: a PING with tag 7 is start byte, length 2, code 1, tag, CRC; the receiver takes it whole. -/
theorem test_ping_frame :
    requestFrame 1 7 [] = [0xA6, 0x00, 0x02, 0x01, 0x07] ++ crcBytes [0x00, 0x02, 0x01, 0x07]
      ∧ receive .hunt ((requestFrame 1 7 []).map fun b => (0, b)) = (.hunt, [[0x01, 0x07]]) := by decide +kernel

/-- R199: one bit wrong in the frame, and it is discarded. -/
theorem test_ping_frame_damaged :
    frameBad (((requestFrame 1 7 []).set 4 0x06).map fun b => (0, b)) = true := by decide +kernel

/-- R198, R201: a PORT record is kind 12, port byte, interval; a door is 1 to 24 and a portal 33 to 44. -/
theorem test_record_bytes :
    readRecord [12, 2, 15] = some ⟨.port .warehouse 15, true⟩ ∧ readDoor [24] = some (.dock 23) ∧ readDoor [44] = some (.portal 11)
      ∧ readDoor [25] = none ∧ readDoor [45] = none ∧ readZone [7] = none ∧ readZone [6, 0] = none := by decide

/-- R5, R198: a portal byte as the key of a DOOR HANDLING record, a dock byte as that of a PORTAL record, STORE with no zone and CROSS with one
in a routing entry: each byte has a value, so the record reads, and check 2 refuses it. A door byte of 25 and an action of 4 have none. -/
theorem test_wrong_identifiers_are_read :
    let rule := fun (k z : Byte) => (readRecord [11, 0, 1, 0, 5, 0, k, z, 0, 0]).map (·.identified)
    (readRecord [5, 33, 0, 0, 0, 0, 0, 0]).map (·.identified) = some false ∧ readRecord [5, 25, 0, 0, 0, 0, 0, 0] = none
      ∧ (readRecord [6, 24, 0, 0, 0, 0, 0, 0, 0, 0]).map (·.identified) = some false
      ∧ rule 1 255 = some false ∧ rule 3 255 = some false ∧ rule 2 6 = some false ∧ rule 4 6 = none ∧ rule 1 7 = none
      ∧ rule 1 6 = some true ∧ rule 2 255 = some true := by decide

/-- The table of this hardware gives no word a bit. -/
theorem test_no_words (n w : Nat) : decodeTableWord n w = none := rfl

/-! ### WellFormed refuses -/

theorem test_body_too_long : WellFormed (.ping .plant 0 (List.replicate 255 0)) = false := by decide +kernel
theorem test_body_fits : WellFormed (.ping .plant 0 (List.replicate 254 0)) = true := by decide +kernel
theorem test_known_code : WellFormed (.unknownRequestCode .plant 40 0 []) = false := by decide
theorem test_unknown_code : WellFormed (.unknownRequestCode .plant 41 0 []) = true := by decide
theorem test_no_gap : WellFormed (.receiverGapTimeout .plant [(0, 0xA6)] 5) = false := by decide
theorem test_gap : WellFormed (.receiverGapTimeout .plant [(0, 0xA6)] 6) = true := by decide
theorem test_no_bytes : WellFormed (.frameDiscarded .plant []) = false := by decide
theorem test_valid_frame_is_no_discard :
    WellFormed (.frameDiscarded .plant ((requestFrame 1 7 []).map fun b => (0, b))) = false := by decide +kernel
theorem test_good_report_is_not_bad : WellFormed (.badReport (reportFrame 2 .evap [0, 0, 0, 0, 1])) = false := by decide +kernel
theorem test_bad_report : WellFormed (.badReport (reportFrame 2 .evap [0, 0, 0, 0, 2])) = true := by decide +kernel
theorem test_dock_report_short : WellFormed (.dockReport 0 []) = false := by decide
theorem test_portal_report_short : WellFormed (.portalReport 0 [1]) = false := by decide
theorem test_evap_report_long : WellFormed (.evapReport 0 [0, 0, 0, 0, 1, 0]) = false := by decide
theorem test_probe_report_short : WellFormed (.probeReport 0 [1, 0, 0]) = false := by decide
theorem test_pallet_zero : WellFormed (.moveExpiry 0) = false := by decide

/-! ### Single steps -/

/-- An empty queue idles. -/
theorem test_idle (s : State) (h : s.pending = []) : step s = .next s := by
  unfold step
  rw [h]

/-- The step takes the front of the queue and leaves the rest. -/
theorem test_step_takes_front (c : Instr) (l : List Instr) (s : State) :
    step { s with pending := c :: l } = exec c { s with pending := l } := rfl

def outcomeHas (x : Host.Outcome State Fault Refusal) (f : State → Bool) : Bool :=
  match x with
  | .next t => f t
  | _ => false

/-- R16. -/
theorem test_tick : outcomeHas (exec .deviceTimeTick (rig id)) (fun t => t.part.time == 1001) = true := by decide

/-- R188: PING of the plant port is answered by role PLANT and the cause record. -/
theorem test_ping : outcomeHas (exec (.ping .plant 9 []) (rig id))
    (fun t => t.part.out.length == 1 && (t.part.port .plant).supervisionDl == some 1015) = true := by decide +kernel

/-- R193: the deadline at 15 is reached at 1000. -/
theorem test_supervision : outcomeHas (exec (.supervisionDeadline .warehouse) (rig id))
    (fun t => (t.part.port .warehouse).silent && t.part.alarms.records.length == 1 && !t.part.alarms.relay) = true := by decide +kernel

/-- R71: a first claim takes revision 0 to 1. -/
theorem test_claim : outcomeHas (exec (.claimDoor .warehouse 1 [24, 2, 0, 0, 0, 5, 0, 0]) (rig id))
    (fun t => (t.part.docks.get 23).revision == 1 && (t.part.docks.get 23).claim == .outbound) = true := by decide

/-- R161: nine heat slots are held at eight. -/
theorem test_heat_slots : outcomeHas (exec (.setHeatSlots .plant 1 [9]) (rig id))
    (fun t => t.part.heatCommanded == 8 && t.part.heatInForce == 8) = true := by decide

/-- R5: from the wrong port a portal of zone Z0, and a PORTAL record with the key of a dock door, is NOT_PERMITTED, from the right one
BAD_REQUEST. -/
theorem test_role_before_identifiers :
    let w := putRecord (.portal 0 ⟨false, false, some 0, none, 20, 8⟩)
    let k : List Byte := [6, 24, 0, 0, 0, 0, 0, 0, 0, 0]
    let gives := fun (p : Port) (st : Status) (b : List Byte) =>
      outcomeHas (exec (.writeSettings p 1 b) (rig id)) (fun t => t.part.out == [.response p ⟨3, 1, st, []⟩])
    gives .warehouse .notPermitted w = true ∧ gives .plant .badRequest w = true
      ∧ gives .warehouse .notPermitted k = true ∧ gives .plant .badRequest k = true := by
  decide +kernel

/-- R59, R69: a door whose stored lockout is set starts in FAULT with first report pending and a drive of NONE, and its first report puts it
into LOCKED_OUT with a drive of CLOSE. -/
theorem test_locked_out_at_the_first_report :
    let cfg := writeCfg (.dock 23 ⟨true, true, some 0, 30, 8⟩) rigCfg
    let s := (rig fun s => { s with cfg := cfg }).part
    let x : DockReport := ⟨true, .closed, .released, none, ⟨1, false, []⟩⟩
    ((coldDock cfg 23).state = .fault ∧ (coldDock cfg 23).firstPending = true ∧ driveOf (coldDock cfg 23).state = .none)
      ∧ ((dockReportEvent 23 x s).docks.get 23).state = .lockedOut ∧ ((dockReportEvent 23 x s).docks.get 23).revision = 1
      ∧ driveOf .lockedOut = .close ∧ ((dockReportEvent 23 x (rig id).part).docks.get 23).state = .arrived := by decide +kernel

/-- R169: an approach in a zone left in BULK with a heating batch below its suspend limit is deferred; in an OPEN zone it suspends the batch. -/
theorem test_bulk_defers_while_heating :
    let shut := { gate with state := .closed, firstPending := false, last := some ⟨.closed, 999⟩ }
    let s := fun (m : Mode) => (rig fun s => putBatch 6 (batch .normal .heat) (modZone 6 (fun _ => { room with mode := m })
      (modPortal 11 (fun _ => shut) s))).part
    ((approach 11 (s .bulk)).portals.get 11).state = .deferred ∧ (approach 11 (s .bulk)).batches.get 6 = (s .bulk).batches.get 6
      ∧ ((approach 11 (s .open)).portals.get 11).state = .granted
      ∧ ((approach 11 (s .open)).batches.get 6).map (·.suspended) = some true := by decide +kernel

/-- R156, Section 8.1: the OK of FORCE DEFROST carries the member list, for one member its evaporator, no outcome, and no fan started. -/
theorem test_force_defrost_members :
    outcomeHas (exec (.forceDefrost .plant 1 [6]) (rig id))
      (fun t => t.part.out == [.response .plant ⟨33, 1, .ok, [16, 0, 0, 0]⟩]) = true := by decide +kernel

/-- R10: the set lockout of a station is set again while its dock door is in service and not locked out; clear, it is refused BUSY_STATE. -/
theorem test_station_lockout_set_again :
    let s := rig fun s => { s with cfg := writeCfg (.station 0 ⟨.dock, true, true⟩) s.cfg }
    outcomeHas (exec (.lockout .plant 1 [1, 1, 1]) s) (fun t => t.part.out == [] && t.part.store.current.isSome) = true
      ∧ outcomeHas (exec (.lockout .plant 1 [1, 1, 1]) (rig id))
          (fun t => t.part.out == [.response .plant ⟨4, 1, .busyState, []⟩]) = true := by decide +kernel

/-- R110, R114: the doors of a path stand in the order of its row, the portals of a zone before the dock door it leads to. -/
theorem test_path_order :
    pathDoors (rig id).part (.zone 6) (.door 23) = [.portal 11, .dock 23] ∧ pathZones (.zone 6) (.door 23) = [6, 0]
      ∧ pathDoors (rig id).part (.trailer 23) (.zone 6) = [.dock 23, .portal 11] ∧ pathZones (.trailer 23) (.zone 6) = [0, 6]
      ∧ pathDoors (rig id).part (.trailer 0) (.door 23) = [.dock 0, .dock 23] ∧ pathDoors (rig id).part .hall (.zone 5) = [] := by
  decide

/-- R180: on a full table whose one CLEARED_UNACK record is of a WARNING kind, that record makes the place. -/
theorem test_displaced_warning :
    let a (n : Nat) : Alarm := ⟨n, .doorFault, .station 0, .activeUnack, 0, 0, 1⟩
    let s := (rig fun s => { s with alarms := { s.alarms with
      records := (List.range 95).map (fun n => a (n + 1)) ++ [⟨96, .probeFault, .probe 0, .clearedUnack, 0, 0, 1⟩] } }).part
    (raiseAlarm .heaterStuck (.evap 15) s).alarms.records.length = 96
      ∧ ((raiseAlarm .heaterStuck (.evap 15) s).alarms.records.any fun x => x.kind == .heaterStuck) = true
      ∧ ((raiseAlarm .heaterStuck (.evap 15) s).alarms.records.any fun x => x.kind == .probeFault) = false := by decide +kernel

/-- Section 7.11: the three updates of the hall, the class that reaches the air, and the same half way. -/
theorem test_worked_updates :
    estimateStep 20 40 30 (-2100) 0 = (-2098, 760000) ∧ estimateStep 20 40 30 (-2098) 760000 = (-2095, 517600)
      ∧ estimateStep 20 40 30 (-1480) 0 = (-1478, 16000) ∧ exposureStep (-150) (-1478) 30 0 = 660 ∧ reported 660 = 1
      ∧ estimateStep (-195) 5000 300 (-2400) 310000 = (-1950, 0) ∧ estimateStep (-195) 5000 100 (-2400) 310000 = (-2175, 310000) := by
  decide

/-- Section 5.4, routing examples: the four routes of the table with entries 4, 9 and 12. -/
theorem test_worked_routes :
    let rules := upd (upd (upd blankSettings.rules 4 fun _ => ⟨true, some 210, none, .cross, 1800⟩) 9
      fun _ => ⟨true, some 210, some 5, .store 2, 0⟩) 12 fun _ => ⟨true, none, some 2, .store 3, 900⟩
    let s := { (rig id).part with cfg := { rigCfg with rules := rules } }
    routeFor s 210 5 = ⟨.store 2, 0, 6, some 9⟩ ∧ routeFor s 210 0 = ⟨.cross, 1800, 6, some 4⟩
      ∧ routeFor s 501 2 = ⟨.store 3, 900, 6, some 12⟩ ∧ routeFor s 501 7 = ⟨.store 1, 0, 6, none⟩ := by decide

/-! ### Witnesses: what a rig meets whatever its record holds -/

theorem rig_dock (p : Port) (k : Dock) :
    takes p (withDock k) ∧ dockInService (withDock k).part 23 = true ∧ (renewed p (withDock k)).docks.get 23 = k := by
  cases p <;> exact ⟨⟨rfl, rfl⟩, rfl, rfl⟩

theorem rig_portal (p : Port) (k : Portal) :
    takes p (withPortal k) ∧ portalInService (withPortal k).part 11 = true ∧ portalOf (withPortal k).part 6 11 = true
      ∧ (renewed p (withPortal k)).portals.get 11 = k := by
  cases p <;> exact ⟨⟨rfl, rfl⟩, rfl, rfl, rfl⟩

theorem rig_zone (p : Port) (k : Zone) :
    takes p (withZone k) ∧ zoneInService (withZone k).part 6 = true ∧ (withZone k).part.zones.get 6 = k
      ∧ (renewed p (withZone k)).zones.get 6 = k := by
  cases p <;> exact ⟨⟨rfl, rfl⟩, rfl, rfl, rfl⟩

theorem rig_hall (p : Port) (k : Zone) :
    takes p (withHall k) ∧ zoneInService (withHall k).part 0 = true ∧ (withHall k).part.zones.get 0 = k
      ∧ (renewed p (withHall k)).zones.get 0 = k := by
  cases p <;> exact ⟨⟨rfl, rfl⟩, rfl, rfl, rfl⟩

theorem rig_door (p : Port) (k : Dock) (w : Slot) :
    takes p (withDoor k w) ∧ dockInService (withDoor k w).part 23 = true ∧ (renewed p (withDoor k w)).docks.get 23 = k
      ∧ (renewed p (withDoor k w)).slots.get 23 = w ∧ (withDoor k w).part.slots.get 23 = w := by
  cases p <;> exact ⟨⟨rfl, rfl⟩, rfl, rfl, rfl, rfl⟩

theorem rig_evap (p : Port) (k : Evap) :
    takes p (withEvap k) ∧ evapOf (withEvap k).part 6 15 = true ∧ (withEvap k).part.evaps.get 15 = k
      ∧ (renewed p (withEvap k)).evaps.get 15 = k := by
  cases p <;> exact ⟨⟨rfl, rfl⟩, rfl, rfl, rfl⟩

theorem rig_batch (p : Port) (b : Batch) :
    takes p (withBatch b) ∧ (withBatch b).part.batches.get 6 = some b ∧ (renewed p (withBatch b)).batches.get 6 = some b
      ∧ ((renewed p (withBatch b)).zones.get 6).mode = .open ∧ ((renewed p (withBatch b)).evaps.get 15).sub = .idle := by
  cases p <;> exact ⟨⟨rfl, rfl⟩, rfl, rfl, rfl, rfl⟩

theorem rig_pallets (p : Port) (l : List Pallet) :
    takes p (withPallets l) ∧ (withPallets l).part.pallets = l ∧ (renewed p (withPallets l)).pallets = l := by
  cases p <;> exact ⟨⟨rfl, rfl⟩, rfl, rfl⟩

theorem rig_port (p : Port) (k : PortRec) : (withPort p fun _ => k).part.running = true ∧ (withPort p fun _ => k).part.port p = k := by
  cases p <;> exact ⟨rfl, rfl⟩

/-- A rig with one batch, of members that are the zone's, keeps them so. -/
theorem putBatch_own (s : Part) (b : Batch) (none_ : ∀ z, z ≠ 6 → s.batches.get z = none)
    (own : (b.members.map (·.evap)).Nodup ∧ ∀ m ∈ b.members, (s.cfg.evaps.get m.evap).inService = true
      ∧ (s.cfg.evaps.get m.evap).zone = some 6) : membersOwn (putBatch 6 b s) := by
  intro z c h
  by_cases e : z = 6
  · subst e
    have k : b = c := Option.some.inj ((by simp [putBatch] : (putBatch 6 b s).batches.get 6 = some b).symm.trans h)
    subst k
    exact own
  · have k : (putBatch 6 b s).batches.get z = none := (by simp [putBatch, e] : _ = s.batches.get z).trans (none_ z e)
    rw [k] at h
    cases h

theorem rig_supply (u : Supply) : (withSupply u).part.supply = u ∧ (withSupply u).part.time = 1000 := ⟨rfl, rfl⟩

/-! ### Witnesses: the machine, requests and supply -/

/-- Every command has a next state, so the frame speaks of every command. -/
theorem witness_CommandsKeepToTheirRecords (c : Instr) (s : State) (h : Obligations.StepRunsTheFrontCommand) :
    ∃ t, exec c s = .next t :=
  let ⟨t, e, _⟩ := (h c s).2
  ⟨t, e⟩

/-- No power, and suspended in RIDE_THROUGH; a port with a request in service. -/
theorem witness_StoppedOrBusyTakesNothing :
    let s := withPort .warehouse fun r => { r with inService := some 255 }
    (State.unpowered.part.running = false ∧ isSupplyEvent .poll = false ∧ isSupplyEvent (.ping .plant 0 []) = false
        ∧ (withSupply { poweredSupply with state := .rideThrough, service := .suspended }).part.running = false)
      ∧ asRequest (.fetchNotices .warehouse 1 [8]) = some (.warehouse, 40, 1) ∧ s.part.running = true
      ∧ (s.part.port .warehouse).inService ≠ none := by decide

/-- A plant request on the warehouse port and a warehouse request on the plant port; the unknown codes 0, 41 and 255; a body too long; a
door, a portal and a zone out of service; a portal named where a dock door is wanted. -/
theorem witness_RefusedRequestsChangeNothing :
    (takes .plant (rig id) ∧ takes .warehouse (rig id))
      ∧ (asRequest (.setHeatSlots .warehouse 5 [2]) = some (.warehouse, 35, 5) ∧ WellFormed (.setHeatSlots .warehouse 5 [2]) = true
          ∧ roleOf 35 = some Port.warehouse.other)
      ∧ (asRequest (.removePallet .plant 5 [0, 0, 0, 1]) = some (.plant, 28, 5) ∧ roleOf 28 = some Port.plant.other)
      ∧ (asRequest (.unknownRequestCode .plant 0 5 []) = some (.plant, 0, 5) ∧ roleOf 0 = none ∧ roleOf 41 = none ∧ roleOf 255 = none
          ∧ WellFormed (.unknownRequestCode .plant 41 5 []) = true ∧ bodyReads (.unknownRequestCode .plant 41 5 []) = false)
      ∧ (roleOf 1 ≠ some Port.plant.other ∧ bodyReads (.ping .plant 5 [0]) = false)
      ∧ (roleOf 16 ≠ some Port.warehouse.other ∧ namedDoor (.sealDoor .warehouse 5 [1]) = some (.dock 0)
          ∧ doorInService (rig id).part (.dock 0) = false ∧ 16 ∉ manifestCodes ∧ dockInService (rig id).part 0 = false)
      ∧ (roleOf 15 ≠ some Port.plant.other ∧ namedDoor (.unholdDoor .plant 5 [33, 0, 0]) = some (.portal 0)
          ∧ doorInService (rig id).part (.portal 0) = false ∧ 15 ∉ manifestCodes)
      ∧ (namedDoor (.manifestBegin .warehouse 5 [33, 1, 0, 0]) = some (.portal 0) ∧ 21 ∈ manifestCodes
          ∧ namedDoor (.openDoor .warehouse 5 [44]) = some (.portal 11) ∧ 18 ∈ dockCodes ∧ portalInService (rig id).part 11 = true)
      ∧ (roleOf 33 ≠ some Port.plant.other ∧ namedZone (.forceDefrost .plant 5 [5]) = some 5 ∧ zoneInService (rig id).part 5 = false) := by
  refine ⟨⟨⟨rfl, rfl⟩, ⟨rfl, rfl⟩⟩, ?_⟩
  decide

/-- A SILENT plant port with one place left in the other queue; an ACTIVE port. -/
theorem witness_ValidRequestRenewsItsPort :
    let s := rig fun s => modPort .warehouse (fun r => { r with queue := List.replicate 63 ⟨1, 0, .portRestored .plant 0⟩ })
      (modPort .plant (fun r => { r with silent := true, supervisionDl := none }) s)
    asRequest (.ping .plant 0 []) = some (.plant, 1, 0) ∧ s.part.running = true ∧ (s.part.port .plant).silent = true
      ∧ (s.part.port Port.plant.other).queue.length < queueDepth ∧ (s.part.port .warehouse).silent = false := by decide

/-- Each body reads at the top of its range; an element out of service beside one in service; identifier 0, absent and present. -/
theorem witness_ReadsAnswerAndChangeNothing :
    (takes .plant (rig id) ∧ takes .warehouse (rig id))
      ∧ (readRecordKey [12, 2] = some (.port .warehouse) ∧ readStation [62] = some 61)
      ∧ (readZone [6] = some 6 ∧ zoneInService (rig id).part 6 = true ∧ readZone [5] = some 5 ∧ zoneInService (rig id).part 5 = false)
      ∧ (readDoor [24] = some (.dock 23) ∧ doorInService (rig id).part (.dock 23) = true ∧ readDoor [44] = some (.portal 11)
          ∧ doorInService (rig id).part (.portal 11) = true ∧ readDoor [1] = some (.dock 0) ∧ dockInService (rig id).part 0 = false
          ∧ doorInService (rig id).part (.portal 0) = false)
      ∧ (readPalletId [0, 0, 0, 0] = some 0 ∧ readPalletId [255, 255, 255, 255] = some 4294967295
          ∧ findPallet (rig id).part 4294967295 = none
          ∧ findPallet (withPallets [pallet 4294967295 .hall .standing none]).part 4294967295
              = some (pallet 4294967295 .hall .standing none))
      ∧ (readFind [2, 0, 0, 0, 0, 0] = some (.hall, 0) ∧ locInService (rig id).part .hall = true
          ∧ readFind [1, 1, 0, 0, 0, 1] = some (.trailer 0, 1) ∧ locInService (rig id).part (.trailer 0) = false)
      ∧ (readEvap [16] = some 15 ∧ ((rig id).part.cfg.evaps.get 15).inService = true ∧ readEvap [1] = some 0
          ∧ ((rig id).part.cfg.evaps.get 0).inService = false)
      ∧ readAlarmQuery [95, 3] = some (95, .active) := by
  refine ⟨⟨⟨rfl, rfl⟩, ⟨rfl, rfl⟩⟩, ?_⟩
  decide

/-- The maxima 1 and 8, and those on either side of them. -/
theorem witness_FetchNoticesRemovesTheOldest :
    takes .plant (rig id) ∧ (1 ≤ 1 ∧ 1 ≤ 8 ∧ 1 < 256) ∧ (1 ≤ 8 ∧ 8 ≤ 8) ∧ (8 < 9 ∧ 255 < 256) := by
  refine ⟨⟨rfl, rfl⟩, ?_⟩
  decide

/-- A full queue, one with a place left, and OVERFLOW set before another command. -/
theorem witness_OfferedNoticeIsPlacedOrCounted :
    let full := (withPort .plant fun r => { r with queue := List.replicate 64 ⟨1, 0, .portRestored .plant 0⟩, nextNumber := 65535 }).part
    let last := (withPort .plant fun r => { r with queue := List.replicate 63 ⟨1, 0, .portRestored .plant 0⟩ }).part
    let marked := withPort .plant fun r => { r with overflow := true }
    ((full.port .plant).queue.length = 64 ∧ (full.port .plant).queue.length ≤ queueDepth)
      ∧ ((last.port .plant).queue.length < 64 ∧ (last.port .plant).queue.length ≤ queueDepth)
      ∧ ((marked.part.port .plant).overflow = true ∧ isSupplyEvent .poll = false
          ∧ (∀ tag body, Instr.poll ≠ .fetchNotices .plant tag body) ∧ ∃ t, exec .poll marked = .next t) := by
  refine ⟨by decide, by decide, by decide, by decide, ?_, _, rfl⟩
  intro _ _ h
  cases h

/-- A deadline reached at the very second, and one a second ahead. -/
theorem witness_SupervisionDeadlineSilencesThePort :
    let due := withPort .warehouse fun r => { r with supervisionDl := some 1000, lastRequest := some 985 }
    let early := withPort .warehouse fun r => { r with supervisionDl := some 1001 }
    (due.part.running = true ∧ (due.part.port .warehouse).silent = false ∧ (due.part.port .warehouse).inService = none
        ∧ reached (due.part.port .warehouse).supervisionDl due.part.time = true
        ∧ (due.part.port .warehouse).lastRequest = some 985
        ∧ (due.part.zones.get 6).mode ≠ .draining ∧ (due.part.zones.get 6).mode ≠ .pulldown ∧ (due.part.zones.get 6).mode ≠ .outOfService)
      ∧ (roomFor .portSilent (.port .warehouse) due.part ∧ notAcked .portSilent (.port .warehouse) due.part)
      ∧ reached (early.part.port .warehouse).supervisionDl early.part.time = false := by
  refine ⟨by decide, ⟨.inr (by decide), by unfold notAcked; decide⟩, by decide⟩

theorem witness_DamagedFrameChangesNoRecord :
    (rig id).part.running = true ∧ ((rig id).part.port .plant).receiver = .hunt
      ∧ frameBad [(0, 0xA6), (1, 1), (2, 1)] = true ∧ framePartial [(0, 0xA6), (5, 0)] 11 = true := by decide

/-- The tick in each service; a fall and a rise in and out of NORMAL and DIP_PENDING; the filter at 10 ms and at 9 ms. -/
theorem witness_SupplyDipSuspendsService :
    let dip := withSupply { poweredSupply with state := .dipPending, dipStart := some 990, risen := none }
    ((rig id).part.supply.service ≠ .stopped ∧ State.unpowered.part.supply.service = .stopped)
      ∧ ((rig id).part.supply.state = .normal ∧ dip.part.supply.state = .dipPending)
      ∧ (dip.part.supply.dipStart = some 990 ∧ 990 + 10 ≤ 1000 ∧ dip.part.running = true) ∧ 999 < 990 + 10 := by decide

/-- Sequences one apart either way and over the wrap, further apart, and each bank alone; the limit at 500 ms; a released reset in NORMAL,
in a dip and in DOWN; DOWN with 100 ms of supply; a released reset that waits, with 10 ms of supply. -/
theorem witness_ColdStartClearsEveryRecord :
    let ride := { poweredSupply with state := .rideThrough, dipStart := some 0, risen := none, service := .suspended }
    let held := { poweredSupply with resetAsserted := true, service := .stopped }
    let down := { unpoweredSupply with risen := some 50, released := 100 }
    let waits := { poweredSupply with state := .rideThrough, risen := some 90, resetWait := true, service := .stopped }
    ((2 = succSeq 1 ∧ 1 = succSeq 4294967295)
      ∧ (∃ b1 b2 : Bank, b1.valid = true ∧ b2.valid = true ∧ b1.seq = succSeq b2.seq ∧ b2.seq ≠ succSeq b1.seq)
      ∧ (∃ b1 b2 : Bank, b1.valid = true ∧ b2.valid = true ∧ b2.seq ≠ succSeq b1.seq ∧ b1.seq ≠ succSeq b2.seq)
      ∧ (∃ b1 b2 : Bank, b1.valid = false ∧ b2.valid = true) ∧ ∃ b1 b2 : Bank, b1.valid = false ∧ b2.valid = false)
    ∧ (ride.state = .rideThrough ∧ ride.dipStart = some 0 ∧ 0 + 500 ≤ 500) ∧ (held.resetAsserted = true ∧ held.state = .normal)
      ∧ (down.resetAsserted = false ∧ down.state = .down ∧ down.risen = some 50 ∧ max 50 down.released + 100 ≤ 200)
      ∧ (waits.resetAsserted = false ∧ waits.resetWait = true ∧ waits.state = .rideThrough ∧ waits.risen = some 90 ∧ 90 + 10 ≤ 100)
      ∧ ((withSupply { held with state := .dipPending }).part.supply.state = .dipPending
          ∧ (withSupply { held with state := .down }).part.supply.state = .down) := by
  refine ⟨⟨⟨rfl, rfl⟩, ⟨shippedBank 2, shippedBank 1, rfl, rfl, rfl, by decide⟩,
    ⟨shippedBank 1, shippedBank 3, rfl, rfl, by decide, by decide⟩,
    ⟨{ shippedBank 1 with valid := false }, shippedBank 1, rfl, rfl⟩,
    ⟨{ shippedBank 1 with valid := false }, { shippedBank 1 with valid := false }, rfl, rfl⟩⟩, ?_⟩
  decide

/-- A dip of 500 ms, with a pallet updated at the present second. -/
theorem witness_WarmRestartResumesWithRecordsKept :
    let u := { poweredSupply with state := .rideThrough, dipStart := some 0, risen := some 490, service := .suspended }
    let s := rig fun s => { s with supply := u, pallets := [pallet 1 .hall .standing none, pallet 2 .hall .standing none] }
    (s.part.supply.state = .rideThrough ∧ s.part.supply.service = .suspended ∧ s.part.supply.dipStart = some 0
        ∧ s.part.supply.risen = some 490 ∧ 490 + 10 ≤ 500 ∧ 490 + 10 - 0 ≤ 500)
      ∧ palletsUnique s.part ∧ ∀ x ∈ s.part.pallets, x.updated ≤ s.part.time := by
  refine ⟨by decide, ?_, by decide⟩
  unfold palletsUnique
  decide

/-! ### Witnesses: settings, lockout and loop -/

/-- A record of the other port; an identifier there is not; a station that has its door, a channel that has its probe, a station of another
kind; an accepted record, with and without a write in progress. -/
theorem witness_WriteSettingsReplacesTheRecord :
    let other := Record.port .plant 120
    let bad := Record.dock 0 ⟨false, false, some 0, 1, 0⟩
    let chan := Record.probe 0 ⟨false, false, none, some 61, 3⟩
    let kind := Record.probe 0 ⟨false, false, none, some 3, 0⟩
    let room0 := Record.portal 0 ⟨false, false, some 0, none, 20, 8⟩
    let good := Record.zone 6 ⟨true, -400, 5, 10, 10, 3600, 1800⟩
    let r := renewed .plant (rig id)
    let check := fun w => firstSome [structureCheck r.cfg (keepLockout r.cfg w), topologyCheck r (keepLockout r.cfg w)]
    (takes .plant (rig id) ∧ takes .warehouse (rig id))
      ∧ (readRecord (putRecord other) = some ⟨other, true⟩ ∧ writableFrom .warehouse other = false ∧ writableFrom .plant other = true)
      ∧ (readRecord (putRecord room0) = some ⟨room0, true⟩ ∧ writableFrom .plant room0 = true ∧ Written.identified ⟨room0, true⟩ = false
          ∧ (readRecord ((putRecord chan).dropLast ++ [5])).map (fun w => (writableFrom .plant w.record, w.identified)) = some (true, false))
      ∧ ((readRecord [5, 33, 0, 0, 0, 0, 0, 0]).map (fun w => (writableFrom .warehouse w.record, w.identified)) = some (true, false)
          ∧ (readRecord [5, 33, 0, 0, 0, 0, 0, 0]).map (fun w => writableFrom .plant w.record) = some false)
      ∧ (readRecord (putRecord bad) = some ⟨bad, true⟩ ∧ writableFrom .plant bad = true ∧ Written.identified ⟨bad, true⟩ = true
          ∧ check bad = some .duplicate ∧ bindingOf bad = some (.dock 0, .dock, 0) ∧ (r.cfg.stations.get 0).kind ∈ [.dock, .portal, .evap]
          ∧ Elem.dock 23 ≠ .dock 0 ∧ (Elem.dock 23).station r.cfg = some 0)
      ∧ (bindingOf chan = some (.probe 0, .probe, 61) ∧ (r.cfg.probes.get 23).station = some 61 ∧ (r.cfg.probes.get 23).channel = 3
          ∧ check chan = some .duplicate)
      ∧ (bindingOf kind = some (.probe 0, .probe, 3) ∧ (r.cfg.stations.get 3).kind = .none ∧ check kind = some .badRequest)
      ∧ (readRecord (putRecord good) = some ⟨good, true⟩ ∧ writableFrom .plant good = true ∧ Written.identified ⟨good, true⟩ = true
          ∧ check good = none)
      ∧ ((rig id).part.store.current = none
          ∧ (rig fun s => { s with store := beginBankWrite s.cfg repairOp s.store }).part.store.current ≠ none) := by
  refine ⟨⟨⟨rfl, rfl⟩, ⟨rfl, rfl⟩⟩, ?_⟩
  decide

/-- A station with a bound door, an evaporator in a heating batch, one in a batch that gathers; elements in and out of service. -/
theorem witness_LockoutIsStoredAndTakesHold :
    let heat := renewed .plant (withBatch (batch .normal .heat))
    let r := renewed .plant (rig id)
    takes .plant (rig id) ∧ takes .plant (withBatch (batch .normal .heat))
      ∧ (readLockout [1, 1, 1] = some (.station 0, true) ∧ lockState r.cfg (.station 0) = (true, false) ∧ mayLock r (.station 0) = false)
      ∧ (readLockout [7, 16, 1] = some (.evap 15, true) ∧ lockState heat.cfg (.evap 15) = (true, false) ∧ mayLock heat (.evap 15) = false
          ∧ mayLock (renewed .plant (withBatch (batch .normal .gather))) (.evap 15) = true)
      ∧ (readLockout [4, 24, 1] = some (.dock 23, true) ∧ mayLock r (.dock 23) = true ∧ lockState r.cfg (.dock 23) = (true, !true)
          ∧ lockState r.cfg (.dock 0) = (false, false))
      ∧ (readLockout [6, 44, 0] = some (.portal 11, false) ∧ readLockout [3, 24, 0] = some (.probe 23, false)
          ∧ lockState (writeCfg (.portal 11 ⟨true, true, some 6, some 1, 20, 8⟩) r.cfg) (.portal 11) = (true, !false)) := by
  refine ⟨⟨rfl, rfl⟩, ⟨rfl, rfl⟩, ?_⟩
  decide

/-- A first and a second attempt, with and without an operation that waits. -/
theorem witness_BankWriteEndsByItsCheck :
    let w := fun (second : Bool) => BankWrite.mk ⟨some ⟨.plant, 1, 3⟩, .ok, []⟩ .one 3 rigCfg second false
    let s := fun (second : Bool) (l : List WriteOp) => rig fun s => { s with store := { s.store with current := some (w second), waiting := l } }
    ∀ second l, (s second l).part.running = true ∧ (s second l).part.store.current = some (w second) ∧ (w second).stopped = false
      ∧ (w second).second = second ∧ (s second l).part.store.waiting = l :=
  fun _ _ => ⟨rfl, rfl, rfl, rfl, rfl⟩

/-- A round ended 200 ms after its start, and one that has not; a poll with a station left, and with none. -/
theorem witness_RoundPollsEachActiveStation :
    let ended := rig fun s => { s with loop := { s.loop with roundStart := some 800 } }
    let open_ := rig fun s => { s with loop := { s.loop with round := [0, 61] } }
    ended.part.running = true ∧ ended.part.loop.round = [] ∧ ended.part.loop.inFlight = none
      ∧ (∀ b, ended.part.loop.roundStart = some b → b + 200 ≤ 1000) ∧ (ended.part.loop.roundStart = some 800 ∧ 999 < 800 + 200)
      ∧ (open_.part.loop.round = 0 :: [61] ∧ open_.part.loop.inFlight = none ∧ open_.part.loop.round ≠ []) :=
  ⟨rfl, rfl, rfl, fun _ h => by cases h; decide, ⟨rfl, by decide⟩, rfl, rfl, by decide⟩

/-- The third miss of an ONLINE station, an earlier one, and a station that left operation; the loss of a door, of a portal and of an
evaporator, each in any state, the evaporator in a batch whose other member goes on. -/
theorem witness_MissedPollIsAccountedOnce :
    let k := fun (n : Nat) => Station.mk .online n 5 none (some 990)
    let s := fun (a : StationId) (n : Nat) (d : Bool) => withStation a (k n) ⟨a, .none, d⟩
    let heats := { batch .normal .heat with members := [⟨15, none, false⟩, ⟨14, none, false⟩] }
    let two := fun (e : Evap) => rig fun s => putBatch 6 heats (modEvap 15 (fun _ => e)
      { s with cfg := { s.cfg with evaps := upd s.cfg.evaps 14 fun c => { c with inService := true, zone := some 6 } } })
    (∀ a n d, (s a n d).part.running = true ∧ (s a n d).part.loop.inFlight = some ⟨a, .none, d⟩)
      ∧ (∀ n d, (s 0 n d).part.loop.stations.get 0 = k n)
      ∧ reportBad [] = true ∧ min (2 + 1) 255 = 3 ∧ min (1 + 1) 255 ≠ 3
      ∧ roomFor .stationOffline (.station 0) (s 0 2 false).part ∧ (s 0 2 false).part.alarms.records.length < 94
      ∧ (∀ k : Dock, dockAt (withDock k).part 0 = some 23 ∧ evapAt (withDock k).part 0 = none ∧ (withDock k).part.docks.get 23 = k)
      ∧ (∀ k : Portal, portalAt (withPortal k).part 1 = some 11 ∧ evapAt (withPortal k).part 1 = none
          ∧ (withPortal k).part.portals.get 11 = k)
      ∧ (∀ e : Evap, evapAt (two e).part 2 = some 15 ∧ dockAt (two e).part 2 = none ∧ portalAt (two e).part 2 = none
          ∧ ((two e).part.cfg.evaps.get 15).lockout = false ∧ (two e).part.evaps.get 15 = e ∧ batchOf (two e).part 15 = some (6, heats))
      ∧ (⟨14, none, false⟩ ∈ heats.members ∧ (14 : EvapId) ≠ 15) ∧ membersOwn (two coil).part := by
  refine ⟨fun _ _ _ => ⟨rfl, rfl⟩, fun _ _ => rfl, by decide, by decide, by decide, .inr (by decide), by decide,
    fun _ => ⟨rfl, rfl, rfl⟩, fun _ => ⟨rfl, rfl, rfl⟩, fun _ => ⟨rfl, rfl, rfl, rfl, rfl, rfl⟩, by decide, ?_⟩
  exact putBatch_own _ _ (by decide) (by decide)

/-- A report of each kind that reads, from a station of that kind; the second good report and the first; another kind, another station. -/
theorem witness_GoodReportIsAccountedOnce :
    let s := fun (a : StationId) (n : Nat) => withStation a ⟨.offline, 0, n, none, none⟩ ⟨a, .none, false⟩
    (∀ a n, (s a n).part.running = true ∧ (s a n).part.loop.inFlight = some ⟨a, .none, false⟩)
      ∧ ((rigCfg.stations.get 0).kind = .dock ∧ (readDockReport [1, 1, 2, 0, 0, 0, 0, 0, 0]).isSome = true)
      ∧ ((rigCfg.stations.get 1).kind = .portal ∧ (readPortalReport [1, 7, 1, 1, 0, 0, 0, 5, 2]).isSome = true)
      ∧ ((rigCfg.stations.get 2).kind = .evap ∧ (readEvapReport [1, 255, 206, 1, 0]).isSome = true)
      ∧ ((rigCfg.stations.get 61).kind = .probe ∧ (readProbeReport [1, 0, 0, 2, 0, 0, 3, 0, 0, 1, 254, 12]).isSome = true)
      ∧ (2 ≤ min (1 + 1) 255 ∧ ¬ 2 ≤ min (0 + 1) 255)
      ∧ ((1 : StationId) ≠ 0 ∧ (rigCfg.stations.get 1).kind ≠ .dock ∧ readDockReport [2] = none) := by
  refine ⟨fun _ _ => ⟨rfl, rfl⟩, ?_⟩
  decide


/-- A DOCK report of an ONLINE station, bound to a door and to none; each state, presence, position and seal that a row of R62 names; the
button of a claimed door with each verdict; a drain that is due, and a batch in FORCE_WAIT with the doors closed. -/
theorem witness_DockReportMovesTheDoor :
    let s := fun (f : Part → Part) => rig fun s => f (modStation 0 (fun _ => ⟨.online, 0, 5, none, none⟩)
      { s with loop := { s.loop with inFlight := some ⟨0, .none, false⟩ } })
    let seen := fun (x : SealState) => some (DockLast.mk true .closed x none 999)
    let ready := { door with claim := .outbound, state := .sealed, last := seen .proven }
    let shut := { gate with state := .closed, firstPending := false, last := some ⟨.closed, 999⟩, heard := true }
    let waits := (rig fun s => putBatch 6 (batch .forced .forceWait) (modPortal 11 (fun _ => shut) s)).part
    let drains := (rig fun s => modZone 6 (fun _ => { room with mode := .draining }) (modPortal 11 (fun _ => shut) s)).part
    reportTaken 0 .dock .none (s id) ∧ (readDockReport [1, 1, 2, 0, 0, 0, 0, 0, 0]).isSome = true
      ∧ dockAt (takeSection 0 ⟨1, true, []⟩ (accounted 0 (s id))) 0 = some 23
      ∧ dockAt (s fun s => { s with cfg := { s.cfg with docks := upd s.cfg.docks 23 fun c => { c with inService := false } } }).part 0 = none
      ∧ (∀ k w, (withDoor k w).part.docks.get 23 = k ∧ (withDoor k w).part.slots.get 23 = w)
      ∧ (door.state = .fault ∧ door.firstPending = true ∧ ((rig id).part.cfg.docks.get 23).lockout = false
          ∧ ((rig fun s => { s with cfg := writeCfg (.dock 23 ⟨true, true, some 0, 30, 8⟩) s.cfg }).part.cfg.docks.get 23).lockout = true)
      ∧ ((seen .proven).any fun l => l.presence == true && l.position == .closed && l.sealState == .proven) = true ∧ min (1 + 1) 2 = 2
      ∧ (roomFor .doorFault (.door (.dock 23)) (rig id).part ∧ roomFor .sealBreach (.door (.dock 23)) (rig id).part
          ∧ alarmsUnique (rig id).part)
      ∧ (dockVerdict (withDock ready).part 23 = .granted false ∧ ready.pending = none
          ∧ dockVerdict (withDock { ready with state := .arrived }).part 23 = .refused .busyState
          ∧ dockVerdict (rig fun s => putBatch 0 { batch .normal .heat with suspendCount := 1 } (modDock 23 (fun _ => ready) s)).part 23
              = .deferred)
      ∧ drainDue drains 6 = true ∧ (waits.batches.get 6 = some (batch .forced .forceWait) ∧ zoneDoorsClosed waits 6 = true) := by
  refine ⟨by unfold reportTaken; decide +kernel, by decide, by decide, by decide, fun _ _ => ⟨rfl, rfl⟩, by decide, by decide, by decide,
    ⟨.inr (by decide), .inr (by decide), by unfold alarmsUnique; decide⟩, by decide, by decide, by decide⟩

/-- A PORTAL report of an ONLINE station, bound to a portal and to none; any portal record; each answer to the defrost question. -/
theorem witness_PortalReportMovesThePortal :
    let s := fun (f : Part → Part) => rig fun s => f (modStation 1 (fun _ => ⟨.online, 0, 5, none, none⟩)
      { s with loop := { s.loop with inFlight := some ⟨1, .none, false⟩ } })
    let shut := { gate with state := .closed, firstPending := false, last := some ⟨.closed, 999⟩ }
    reportTaken 1 .portal .none (s id) ∧ (readPortalReport [1, 7, 1, 1, 0, 0, 0, 5, 2]).isSome = true
      ∧ portalAt (takeSection 1 ⟨1, true, []⟩ (accounted 1 (s id))) 1 = some 11
      ∧ portalAt (s fun s => { s with cfg := { s.cfg with portals := upd s.cfg.portals 11 fun c => { c with inService := false } } }).part 1
          = none
      ∧ (∀ k, (withPortal k).part.portals.get 11 = k) ∧ (gate.state = .fault ∧ gate.firstPending = true)
      ∧ (((rig id).part.cfg.portals.get 11).lockout = false
          ∧ ((rig fun s => { s with cfg := writeCfg (.portal 11 ⟨true, true, some 6, some 1, 20, 8⟩) s.cfg }).part.cfg.portals.get 11).lockout
              = true)
      ∧ alarmsUnique (rig id).part ∧ portalZone (rig id).part 11 = 6
      ∧ (reportsClosed shut = true ∧ reportsClosed { shut with last := some ⟨.between, 999⟩ } = false)
      ∧ ((rig id).part.zones.get 6).mode ≠ .pulldown ∧ ((withZone { room with mode := .bulk }).part.zones.get 6).mode = .bulk
      ∧ ((withZone { room with mode := .pulldown }).part.zones.get 6).mode = .pulldown
      ∧ forcedPastWait (withBatch (batch .forced .pumpdown)).part 6 = true
      ∧ defrostAnswer (rig id).part 6 = .proceed ∧ defrostAnswer (withBatch (batch .normal .heat)).part 6 = .proceedSuspended
      ∧ defrostAnswer (withBatch { batch .normal .heat with suspendCount := 1 }).part 6 = .deferred
      ∧ defrostAnswer (withBatch (batch .forced .forceWait)).part 6 = .refused ∧ membersOwn (withBatch (batch .normal .heat)).part := by
  refine ⟨by unfold reportTaken; decide +kernel, by decide, by decide, by decide, fun _ => rfl, by decide, by decide, by unfold alarmsUnique; decide,
    by decide, by decide, by decide, by decide, by decide, by decide, by decide, by decide, by decide, by decide, ?_⟩
  exact putBatch_own _ _ (by decide) (by decide)

/-- A pallet of a move that the pass ends, one that it takes on, one off its path, one without a move, one that stands elsewhere, and no
record; each by a dock door and by a portal of Z6. -/
theorem witness_PassesMoveThePallet :
    let moving := fun (d : Dest) => pallet 9 (.trailer 23) .moving (some ⟨.trailer 23, d, 100, 2000, true⟩)
    let s := fun (x : Pallet) => (withPallets [x]).part
    let still := pallet 9 .hall .standing none
    palletsUnique (s still) ∧ findPallet (s still) 8 = none
      ∧ findPallet (updatePallet 9 (s (moving .hall))) 9 = some (moving .hall) ∧ Loc.hall = destOf .hall
      ∧ findPallet (updatePallet 9 (s (moving (.zone 6)))) 9 = some (moving (.zone 6)) ∧ Loc.hall ≠ destOf (.zone 6)
      ∧ moveUses (s (moving (.zone 6))) ⟨.trailer 23, .zone 6, 100, 2000, true⟩ (.dock 0) = false
      ∧ findPallet (updatePallet 9 (s still)) 9 = some still ∧ still.loc ≠ .trailer 23 ∧ still.move = none
      ∧ portalZone (s still) 11 = 6 ∧ ((s still).cfg.portals.get 11).zone ≠ some 0 := by
  refine ⟨?_, by decide, by decide, by decide, by decide, by decide, by decide, by decide, by decide, by decide, by decide, by decide⟩
  unfold palletsUnique
  decide

/-- An EVAP report of an ONLINE station, bound to an evaporator and to none; any evaporator record; a batch whose other member has an
outcome and one whose other has none; the fan temperature and the termination temperature at their bounds; a station restored. -/
theorem witness_EvapReportActsOnTheHeat :
    let s := fun (f : Part → Part) => rig fun s => f (modStation 2 (fun _ => ⟨.online, 0, 5, none, none⟩)
      { s with loop := { s.loop with inFlight := some ⟨2, .none, false⟩ } })
    let two := fun (ph : Phase) (o : Option MemberOutcome) (f : Bool) (e : Evap) => (rig fun s =>
      putBatch 6 { batch .normal ph with members := [⟨15, none, false⟩, ⟨14, o, f⟩] } (modEvap 15 (fun _ => e)
        { s with cfg := { s.cfg with evaps := upd s.cfg.evaps 14 fun c => { c with inService := true, zone := some 6 } } })).part
    let back := rig (modEvap 15 fun _ => { coil with sub := .fault, faultCause := some .station })
    reportTaken 2 .evap .none (s id) ∧ (readEvapReport [1, 255, 206, 1, 0]).isSome = true ∧ evapAt (accounted 2 (s id)) 2 = some 15
      ∧ evapAt (s fun s => { s with cfg := { s.cfg with evaps := upd s.cfg.evaps 15 fun c => { c with inService := false } } }).part 2 = none
      ∧ (∀ ph o f e, (two ph o f e).evaps.get 15 = e
          ∧ batchOf (two ph o f e) 15 = some (6, { batch .normal ph with members := [⟨15, none, false⟩, ⟨14, o, f⟩] }))
      ∧ membersOwn (two .heat (some .temp) false coil) ∧ membersOwn (two .refreeze (some .time) true coil)
      ∧ ((rig id).part.cfg.defrost.terminationTemp ≤ 100 ∧ ¬ (rig id).part.cfg.defrost.terminationTemp ≤ 99
          ∧ -50 ≤ (rig id).part.cfg.defrost.fanStartTemp ∧ ¬ -49 ≤ (rig id).part.cfg.defrost.fanStartTemp)
      ∧ (min (1 + 1) 2 = 2 ∧ roomFor .heaterFault (.evap 15) (rig id).part ∧ roomFor .heaterStuck (.evap 15) (rig id).part)
      ∧ ((rig (modStation 2 fun _ => ⟨.offline, 0, 1, none, none⟩)).part.loop.stations.get 2).link = .offline
      ∧ (evapAt back.part 2 = some 15 ∧ batchOf back.part 15 = none ∧ back.part.time - coil.lastEnd < 12 * 3600
          ∧ (back.part.cfg.evaps.get 15).backstopHours = 12 ∧ coil.frost < (back.part.cfg.evaps.get 15).trigger) := by
  refine ⟨by unfold reportTaken; decide +kernel, by decide, by decide, by decide, fun _ _ _ _ => ⟨rfl, rfl⟩,
    putBatch_own _ _ (by decide) (by decide), putBatch_own _ _ (by decide) (by decide), by decide,
    ⟨by decide, .inr (by decide), .inr (by decide)⟩, by decide, by decide⟩
/-! ### Witnesses: zones -/

/-- A PROBE report of an ONLINE station; a reading and a FAULT of a probe with a zone in service, with one out of service and with none; a
reading whose freshness ends now, with another fresh reading in the zone and without one. -/
theorem witness_ProbeEventsAndExpiriesRecomputeTheZone :
    let r := rig fun s => modStation 61 (fun _ => ⟨.online, 0, 5, none, none⟩) { s with loop := { s.loop with inFlight := some ⟨61, .none, false⟩ } }
    let bound := fun (z : Option ZoneId) =>
      (rig fun s => { s with cfg := { s.cfg with probes := upd s.cfg.probes 23 fun c => { c with zone := z } } }).part
    let due : Part → Part := modProbe 23 fun _ => ⟨some (-150), some 1000, true⟩
    let s := rig fun s => modProbe 22 (fun _ => ⟨some (-100), some 1001, true⟩) (due s)
    let u := rig fun s => modZone 6 (fun _ => { room with stale := false, holdOff := none }) (due s)
    (reportTaken 61 .probe .none r ∧ (readProbeReport [1, 0, 0, 2, 0, 0, 3, 0, 0, 1, 254, 12]).isSome = true
        ∧ probeAt (accounted 61 r) 61 3 = some 23 ∧ probeAt (accounted 61 r) 61 0 = none)
      ∧ (((bound none).cfg.probes.get 23).zone = none ∧ ((bound (some 6)).cfg.probes.get 23).zone = some 6
          ∧ zoneInService (bound (some 6)) 6 = true ∧ ((bound (some 5)).cfg.probes.get 23).zone = some 5
          ∧ zoneInService (bound (some 5)) 5 = false)
      ∧ (s.part.running = true ∧ (s.part.probes.get 23).expiryDue = true ∧ reached (s.part.probes.get 23).freshUntil s.part.time = true
        ∧ (s.part.cfg.probes.get 23).zone = some 6 ∧ zoneInService s.part 6 = true ∧ freshReading s.part 6 22 = some (-100))
      ∧ (u.part.running = true ∧ (u.part.probes.get 23).expiryDue = true ∧ reached (u.part.probes.get 23).freshUntil u.part.time = true
          ∧ (∀ q, freshReading u.part 6 q = none) ∧ (u.part.zones.get 6).stale = false ∧ (u.part.zones.get 6).holdOff = none)
      ∧ u.part.alarms.records.length < 95 ∧ roomFor .probeFault (.probe 23) u.part ∧ notAcked .probeFault (.probe 23) u.part
      ∧ alarmsUnique u.part := by
  refine ⟨⟨by unfold reportTaken; decide +kernel, by decide⟩, by decide, by decide, by decide, by decide, .inr (by decide),
    by unfold notAcked; decide, by unfold alarmsUnique; decide⟩

/-- Deadlines due at the very second; a temperature at the limit and one above it, with and without a warm deadline and an alarm delay. -/
theorem witness_ZoneDeadlinesRaiseTheirAlarms :
    let due := { room with holdOff := some 1000, warmDl := some 1000, recoveryDl := some 1000 }
    let at_ := withZone { due with stale := false, temp := -170 }
    let above := withZone { due with stale := false, temp := -169, warmDl := none }
    let noDelay := rig fun s => modZone 6 (fun _ => { due with stale := false, temp := -169, warmDl := none })
      { s with cfg := { s.cfg with zones := upd s.cfg.zones 6 fun c => { c with alarmDelay := 0 } } }
    (∀ k : Zone, (withZone k).part.running = true ∧ (withZone k).part.zones.get 6 = k)
      ∧ reached due.holdOff 1000 = true ∧ reached due.warmDl 1000 = true ∧ reached due.recoveryDl 1000 = true ∧ due.stale = true
      ∧ (at_.part.zones.get 6).temp ≤ (at_.part.cfg.zones.get 6).setpoint + (at_.part.cfg.zones.get 6).highOffset
      ∧ (above.part.cfg.zones.get 6).setpoint + (above.part.cfg.zones.get 6).highOffset < (above.part.zones.get 6).temp
      ∧ (above.part.zones.get 6).warmDl = none ∧ (above.part.cfg.zones.get 6).alarmDelay ≠ 0
      ∧ (noDelay.part.cfg.zones.get 6).alarmDelay = 0 ∧ pastGather at_.part 6 = false
      ∧ pastGather (withBatch (batch .normal .refreeze)).part 6 = true
      ∧ roomFor .zoneWarm (.zone 6) above.part ∧ roomFor .zoneStale (.zone 6) above.part :=
  ⟨fun _ => ⟨rfl, rfl⟩, by decide, by decide, by decide, by decide, by decide, by decide, by decide, by decide, by decide, by decide,
    by decide, .inr (by decide), .inr (by decide)⟩

/-- Pallets at each place, updated before now and now; the deadlines due at the very second; one open door of Z0, one open portal of Z6, and
none. -/
theorem witness_ExposureIntervalUpdatesItsPallets :
    let due := fun (f : Part → Part) => rig fun s => f (modZone 0 (fun k => { k with exposureDl := some 1000 })
      (modZone 6 (fun k => { k with exposureDl := some 1000 }) (modDock 23 (fun k => { k with exposureDl := some 1000 })
        { s with pallets := [pallet 1 .hall .standing none, { pallet 2 (.zone 6) .standing none with updated := 970 },
                             { pallet 3 (.trailer 23) .waiting none with updated := 970 }] })))
    let s := due id
    let u := due fun s => modDock 23 (fun k => { k with settleFrom := some 990 }) (modPortal 11 (fun k => { k with settleFrom := some 990 }) s)
    s.part.running = true ∧ palletsUnique s.part ∧ (∀ x ∈ s.part.pallets, x.updated ≤ s.part.time)
      ∧ reached (s.part.zones.get 0).exposureDl s.part.time = true ∧ reached (s.part.zones.get 6).exposureDl s.part.time = true
      ∧ reached (s.part.docks.get 23).exposureDl s.part.time = true
      ∧ (∀ d, dockInService s.part d = true → (s.part.docks.get d).settleFrom = none)
      ∧ (∀ q, portalOf s.part 6 q = true → (s.part.portals.get q).settleFrom = none)
      ∧ (u.part.docks.get 23).settleFrom = some 990 ∧ (u.part.portals.get 11).settleFrom = some 990 ∧ portalOf u.part 6 11 = true
      ∧ (∀ d, d ≠ 23 → dockInService u.part d = true → (u.part.docks.get d).settleFrom = none)
      ∧ (∀ q, q ≠ 11 → portalOf u.part 6 q = true → (u.part.portals.get q).settleFrom = none)
      ∧ 0 < ((1000 - 990) * (u.part.cfg.docks.get 23).weight + (u.part.docks.get 23).carry) / 10
      ∧ 0 < ((1000 - 990) * (u.part.cfg.portals.get 11).weight + (u.part.portals.get 11).carry) / 10 := by
  refine ⟨rfl, ?_, by decide, by decide, by decide, by decide, by decide, by decide, by decide, by decide, by decide, by decide, by decide,
    by decide, by decide⟩
  unfold palletsUnique
  decide

/-- Any mode stands in a zone in service and any batch, and none; on an OPEN zone each answer to the defrost question is met; a portal that
goes HELD and one that does not. -/
theorem witness_ZoneBulkFollowsTheAnswer :
    let heat := batch .normal .heat
    (∀ m : Mode, takes .warehouse (withZone { room with mode := m }) ∧ zoneInService (withZone { room with mode := m }).part 6 = true
        ∧ ((renewed .warehouse (withZone { room with mode := m })).zones.get 6).mode = m)
      ∧ (∀ b : Batch, (withBatch b).part.batches.get 6 = some b) ∧ (rig id).part.batches.get 6 = none
      ∧ (readZone [6] = some 6 ∧ readZone [0] = some 0 ∧ zoneInService (rig id).part 0 = true ∧ zoneInService (rig id).part 5 = false)
      ∧ defrostAnswer (renewed .warehouse (rig id)) 6 = .proceed
      ∧ defrostAnswer (renewed .warehouse (withBatch heat)) 6 = .proceedSuspended
      ∧ defrostAnswer (renewed .warehouse (withBatch { heat with suspendCount := 1 })) 6 = .deferred
      ∧ defrostAnswer (renewed .warehouse (withBatch (batch .forced .forceWait))) 6 = .refused
      ∧ (∀ m : Mode, ((rig fun s => putBatch 6 heat (modZone 6 (fun _ => { room with mode := m }) s)).part.zones.get 6).mode = m
          ∧ (rig fun s => putBatch 6 heat (modZone 6 (fun _ => { room with mode := m }) s)).part.batches.get 6 = some heat)
      ∧ (heat.suspendCount < heat.suspendLimit ∧ ¬ 1 < heat.suspendLimit)
      ∧ (∀ k : Portal, (renewed .warehouse (withPortal k)).portals.get 11 = k ∧ portalOf (renewed .warehouse (withPortal k)) 6 11 = true)
      ∧ membersOwn (renewed .warehouse (withBatch heat)) := by
  refine ⟨fun _ => ⟨⟨rfl, rfl⟩, rfl, rfl⟩, fun _ => rfl, rfl, by decide, by decide, by decide, by decide, by decide,
    fun _ => ⟨rfl, rfl⟩, by decide, fun _ => ⟨rfl, rfl⟩, ?_⟩
  exact putBatch_own _ _ (by decide) (by decide)

theorem witness_BulkEndsInOpen :
    (∀ m : Mode, takes .warehouse (withZone { room with mode := m })
        ∧ ((renewed .warehouse (withZone { room with mode := m })).zones.get 6).mode = m
        ∧ ((renewed .warehouse (withHall { room with mode := m })).zones.get 0).mode = m)
      ∧ zoneInService (rig id).part 0 = true ∧ zoneInService (rig id).part 1 = false
      ∧ reached ((withZone { room with mode := .bulk, bulkDl := some 1000 }).part.zones.get 6).bulkDl 1000 = true := by
  refine ⟨fun _ => ⟨⟨rfl, rfl⟩, rfl, rfl⟩, ?_⟩
  decide

/-- A zone that a move touches, and one whose portal reports CLOSED. -/
theorem witness_PulldownAndReleaseChangeTheMode :
    let shut := { gate with state := .closed, firstPending := false, last := some ⟨.closed, 999⟩, heard := true }
    let moving := withPallets [pallet 1 .hall .moving (some ⟨.hall, .zone 6, 900, 1800, false⟩)]
    (∀ m : Mode, takes .plant (withZone { room with mode := m }) ∧ zoneInService (withZone { room with mode := m }).part 6 = true
        ∧ ((renewed .plant (withZone { room with mode := m })).zones.get 6).mode = m)
      ∧ anyMoveTouches moving.part 6 = true ∧ anyMoveTouches (withPortal shut).part 6 = false
      ∧ zoneDoorsClosed (renewed .plant (withPortal shut)) 6 = true ∧ portalOf (withPortal shut).part 6 11 = true
      ∧ ((renewed .plant (withPortal shut)).zones.get 6).mode = .open := by
  refine ⟨fun _ => ⟨⟨rfl, rfl⟩, rfl, rfl⟩, ?_⟩
  decide

/-! ### Witnesses: doors -/

/-- The revision as expected, another one, a claim by another, a portal and a door out of service. -/
theorem witness_ClaimDoorTakesAFreeDoor :
    (∀ rev c, takes .warehouse (withDock { door with revision := rev, claim := c })
        ∧ ((renewed .warehouse (withDock { door with revision := rev, claim := c })).docks.get 23).revision = rev
        ∧ ((renewed .warehouse (withDock { door with revision := rev, claim := c })).docks.get 23).claim = c)
      ∧ readClaim [24, 1, 0, 0, 0, 5, 255, 255] = some ⟨.dock 23, .inbound, 5, 65535⟩ ∧ dockInService (rig id).part 23 = true
      ∧ readClaim [44, 2, 0, 0, 0, 5, 0, 0] = some ⟨.portal 11, .outbound, 5, 0⟩ ∧ portalInService (rig id).part 11 = true
      ∧ doorInService (rig id).part (.dock 0) = false ∧ takes .plant (rig id) :=
  ⟨fun _ _ => ⟨⟨rfl, rfl⟩, rfl, rfl⟩, by decide, by decide, by decide, by decide, by decide, rfl, rfl⟩

/-- Each claim and state; busy by state, by a manifest, by a pallet on the trailer and by a move; and not busy. -/
theorem witness_UnclaimDoorEndsTheClaim :
    let trailer := renewed .warehouse (withPallets [pallet 1 (.trailer 23) .waiting none])
    let path := renewed .warehouse (withPallets [pallet 1 .hall .moving (some ⟨.hall, .door 23, 900, 1800, false⟩)])
    (∀ rev c st w, takes .warehouse (withDoor { door with revision := rev, claim := c, state := st } w)
        ∧ dockInService (withDoor { door with revision := rev, claim := c, state := st } w).part 23 = true
        ∧ (renewed .warehouse (withDoor { door with revision := rev, claim := c, state := st } w)).docks.get 23
            = { door with revision := rev, claim := c, state := st }
        ∧ (renewed .warehouse (withDoor { door with revision := rev, claim := c, state := st } w)).slots.get 23 = w
        ∧ (renewed .warehouse (withDoor { door with revision := rev, claim := c, state := st } w)).pallets = [])
      ∧ readDoorRev [24, 0, 7] = some (.dock 23, 7)
      ∧ (∃ x ∈ trailer.pallets, x.loc = .trailer 23)
      ∧ ∃ x ∈ path.pallets, ∃ m, x.move = some m ∧ (23 : DoorId) ∈ pathDocks m.origin m.dest :=
  ⟨fun _ _ _ _ => ⟨⟨rfl, rfl⟩, rfl, rfl, rfl, rfl⟩, by decide, ⟨_, .head _, rfl⟩, ⟨_, .head _, _, rfl, by decide⟩⟩

/-- Any revision, claim and state of a dock door and of a portal, and a zone in BULK. -/
theorem witness_HoldAndUnholdSetThePlantHold :
    (∀ k : Dock, takes .plant (withDock k) ∧ doorInService (withDock k).part (.dock 23) = true
        ∧ (renewed .plant (withDock k)).docks.get 23 = k)
      ∧ (∀ k : Portal, takes .plant (withPortal k) ∧ doorInService (withPortal k).part (.portal 11) = true
          ∧ (renewed .plant (withPortal k)).portals.get 11 = k)
      ∧ readDoorRev [24, 255, 255] = some (.dock 23, 65535) ∧ readDoorRev [44, 0, 0] = some (.portal 11, 0)
      ∧ grantLive { gate with state := .granted, openCommand := true } = true
      ∧ ((renewed .plant (withZone { room with mode := .bulk })).zones.get
            (portalZone (renewed .plant (withZone { room with mode := .bulk })) 11)).mode = .bulk :=
  ⟨fun _ => ⟨⟨rfl, rfl⟩, rfl, rfl⟩, fun _ => ⟨⟨rfl, rfl⟩, rfl, rfl⟩, by decide, by decide, by decide, by decide⟩

/-- Any state and claim of the door, for SEAL, RESEAL, RELEASE DOOR and CLOSE DOOR. -/
theorem witness_SealStartsTheInflation :
    (∀ p (k : Dock), takes p (withDock k) ∧ dockInService (withDock k).part 23 = true ∧ (renewed p (withDock k)).docks.get 23 = k)
      ∧ readDoor [24] = some (.dock 23) := ⟨rig_dock, by decide⟩

/-- An INBOUND trailer with a WAITING pallet, and one without. -/
theorem witness_ReleaseDoorDeflatesTheSeal :
    let s := fun k => rig fun s => modDock 23 (fun _ => k) { s with pallets := [pallet 1 (.trailer 23) .waiting none] }
    (∀ k : Dock, takes .warehouse (withDock k) ∧ (renewed .warehouse (withDock k)).docks.get 23 = k)
      ∧ (∀ k : Dock, takes .warehouse (s k) ∧ dockInService (s k).part 23 = true ∧ (renewed .warehouse (s k)).docks.get 23 = k
          ∧ ∃ x ∈ (renewed .warehouse (s k)).pallets, x.loc = .trailer 23 ∧ x.status = .waiting)
      ∧ readRelease [24, 0] = some (.dock 23, false) ∧ readRelease [24, 1] = some (.dock 23, true) :=
  ⟨fun _ => ⟨⟨rfl, rfl⟩, rfl⟩, fun _ => ⟨⟨rfl, rfl⟩, rfl, rfl, _, .head _, rfl, rfl⟩, by decide, by decide⟩

/-- Any state, claim and pending request; a committed slot; a trailer one tenth above the limit and at it; each answer of Z0. -/
theorem witness_OpenDoorIsGrantedByItsChecks :
    let z0 := fun b => renewed .warehouse (rig (putBatch 0 b))
    let warm := fun t => { door with claim := .outbound, state := .sealed, last := some ⟨true, .closed, .proven, some t, 999⟩ }
    (∀ k w, takes .warehouse (withDoor k w) ∧ dockInService (withDoor k w).part 23 = true
        ∧ (renewed .warehouse (withDoor k w)).docks.get 23 = k ∧ (renewed .warehouse (withDoor k w)).slots.get 23 = w)
      ∧ ((renewed .warehouse (withDock (warm (-99)))).cfg.handling.get 23).precool < -99
      ∧ ¬ ((renewed .warehouse (withDock (warm (-100)))).cfg.handling.get 23).precool < -100
      ∧ ((renewed .warehouse (withHall { room with mode := .pulldown })).zones.get 0).mode = .pulldown
      ∧ ((renewed .warehouse (rig id)).zones.get 0).mode = .open
      ∧ defrostAnswer (z0 (batch .forced .heat)) 0 = .refused ∧ defrostAnswer (z0 (batch .normal .heat)) 0 = .proceedSuspended
      ∧ defrostAnswer (renewed .warehouse (rig id)) 0 = .proceed
      ∧ defrostAnswer (z0 { batch .normal .heat with suspendCount := 1 }) 0 = .deferred
      ∧ membersOwn (rig fun s => putBatch 6 (batch .normal .heat) s).part := by
  refine ⟨fun k w => ⟨⟨rfl, rfl⟩, rfl, rfl, rfl⟩, by decide, by decide, by decide, by decide, by decide, by decide, by decide, by decide, ?_⟩
  exact putBatch_own _ _ (by decide) (by decide)

theorem witness_CloseDoorClosesOrCancels :
    (∀ p (k : Dock), takes p (withDock k) ∧ doorInService (withDock k).part (.dock 23) = true ∧ (renewed p (withDock k)).docks.get 23 = k)
      ∧ (∀ p (k : Portal), takes p (withPortal k) ∧ doorInService (withPortal k).part (.portal 11) = true
          ∧ (renewed p (withPortal k)).portals.get 11 = k)
      ∧ reportsClosed { gate with last := some ⟨.closed, 999⟩ } = true ∧ reportsClosed { gate with last := some ⟨.between, 999⟩ } = false :=
  ⟨rig_dock, fun p k => ⟨(rig_portal p k).1, rfl, (rig_portal p k).2.2.2⟩, by decide, by decide⟩

/-- Deadlines due now; a move that uses the door with 2 extensions made, and 3. -/
theorem witness_DoorDeadlinesActOnTheDoor :
    let due := { door with sealDl := some 1000, travelDl := some 1000, openDl := some 1000, firstPending := false }
    let used := rig fun s => modDock 23 (fun _ => { due with extensions := 2 })
      { s with pallets := [pallet 1 (.trailer 23) .moving (some ⟨.trailer 23, .hall, 900, 1800, true⟩)] }
    (∀ k : Dock, (withDock k).part.running = true ∧ (withDock k).part.docks.get 23 = k)
      ∧ (∀ k : Portal, (withPortal k).part.running = true ∧ (withPortal k).part.portals.get 11 = k)
      ∧ (reached due.sealDl 1000 = true ∧ reached due.travelDl 1000 = true ∧ reached due.openDl 1000 = true ∧ due.firstPending = false)
      ∧ (anyMoveUses used.part 23 = true ∧ (used.part.docks.get 23).extensions < 3 ∧ anyMoveUses (withDock due).part 23 = false)
      ∧ roomFor .sealFail (.door (.dock 23)) used.part ∧ roomFor .doorFault (.door (.portal 11)) used.part :=
  ⟨fun _ => ⟨rfl, rfl⟩, fun _ => ⟨rfl, rfl⟩, by decide, by decide, .inr (by decide), .inr (by decide)⟩

/-! ### Witnesses: manifests, pallets and moves -/

def slot (st : SlotState) (count next : Option Nat) (es : List Entry) : Slot := ⟨st, count, next, es, some 1000, none, 0⟩

/-- Counts at 0, 1, 36 and 37; any door and any slot. -/
theorem witness_ManifestBeginsAndClears :
    (∀ k w, takes .warehouse (withDoor k w) ∧ dockInService (withDoor k w).part 23 = true
        ∧ (renewed .warehouse (withDoor k w)).docks.get 23 = k ∧ (renewed .warehouse (withDoor k w)).slots.get 23 = w)
      ∧ readBegin [24, 0, 0, 7] = some (.dock 23, 0, 7) ∧ readBegin [24, 1, 0, 7] = some (.dock 23, 1, 7)
      ∧ readBegin [24, 36, 0, 7] = some (.dock 23, 36, 7) ∧ readBegin [24, 37, 0, 7] = some (.dock 23, 37, 7)
      ∧ readDoor [24] = some (.dock 23) := by
  refine ⟨fun k w => ⟨⟨rfl, rfl⟩, rfl, rfl, rfl⟩, ?_⟩
  decide

/-- Fields at their bounds and past them; a next entry, a repeat, a wrong sequence, a known pallet; the last of the count. -/
theorem witness_ManifestEntryBuildsTheList :
    let e1 : Entry := ⟨1, 9, 4095, 7, -500⟩
    let e2 : Entry := ⟨2, 10, 0, 0, 500⟩
    (∀ k w, takes .warehouse (withDoor k w) ∧ dockInService (withDoor k w).part 23 = true
        ∧ (renewed .warehouse (withDoor k w)).slots.get 23 = w ∧ (withDoor k w).part.slots.get 23 = w)
      ∧ readEntry [24, 2, 0, 0, 0, 10, 0, 0, 0, 1, 244] = some ⟨.dock 23, 2, 10, 0, 0, 500⟩
      ∧ readEntry [24, 36, 255, 255, 255, 255, 15, 255, 7, 254, 12] = some ⟨.dock 23, 36, 4294967295, 4095, 7, -500⟩
      ∧ readEntry [24, 2, 0, 0, 0, 10, 0, 0, 255, 1, 244] = some ⟨.dock 23, 2, 10, 0, 255, 500⟩
      ∧ (slot .loading (some 2) (some 2) [e1]).entries.getLast? = some e1
      ∧ (slot .loading (some 2) (some 2) [e1]).next = some e2.seq ∧ (slot .loading (some 2) (some 3) [e1]).next ≠ some e2.seq
      ∧ (¬ ∃ y ∈ (slot .loading (some 2) (some 2) [e1]).entries, y.id = e2.id)
      ∧ (∃ y ∈ (slot .loading (some 2) (some 2) [{ e1 with id := 10 }]).entries, y.id = e2.id)
      ∧ (slot .loading (some 2) (some 2) [e1]).count = some ([e1].length + 1)
      ∧ reached (slot .loading (some 2) (some 2) [e1]).deadline 1000 = true := by
  refine ⟨fun k w => ⟨⟨rfl, rfl⟩, rfl, rfl, rfl⟩, ?_⟩
  decide

/-- A loaded slot with a known and an unknown identifier; exactly as many places as entries, and one fewer. -/
theorem witness_ManifestCommitCreatesEveryRecord :
    let e : Entry := ⟨1, 9, 0, 0, -180⟩
    let w := slot .loaded (some 1) (some 2) [e]
    let s := fun n => rig fun s => modSlot 23 (fun _ => w) { s with pallets := List.replicate n (pallet 1 .hall .standing none) }
    let known := rig fun s => modSlot 23 (fun _ => w) { s with pallets := [pallet 9 .hall .standing none] }
    (∀ k w, takes .warehouse (withDoor k w) ∧ (renewed .warehouse (withDoor k w)).slots.get 23 = w)
      ∧ (∀ n, takes .warehouse (s n) ∧ (renewed .warehouse (s n)).slots.get 23 = w
          ∧ (renewed .warehouse (s n)).pallets = List.replicate n (pallet 1 .hall .standing none))
      ∧ (w.entries = [] ++ e :: [] ∧ ∃ x ∈ (renewed .warehouse known).pallets, x.id = e.id)
      ∧ (∀ n, ¬ ∃ x ∈ List.replicate n (pallet 1 .hall .standing none), x.id = e.id)
      ∧ 512 - 512 < 1 ∧ 1 ≤ 512 - 511 := by
  refine ⟨fun _ _ => ⟨⟨rfl, rfl⟩, rfl⟩, fun _ => ⟨⟨rfl, rfl⟩, rfl, rfl⟩, ⟨rfl, _, .head _, rfl⟩, ?_, by decide, by decide⟩
  rintro n ⟨x, hx, h⟩
  rw [(List.mem_replicate.mp hx).2] at h
  exact absurd h (by decide)

/-- A pallet that may move, by route, path, door and credit; and one failing case of each check. -/
theorem witness_MoveIsGrantedByItsChecks :
    let x := pallet 9 (.trailer 23) .waiting none
    let s := withPallets [x]
    let out := { door with claim := .outbound, state := .sealed }
    let r := renewed .warehouse s
    takes .warehouse s
      ∧ (readMove [0, 0, 0, 9, 3, 6] = some (9, .zone 6) ∧ readMove [0, 0, 0, 0, 2, 0] = some (0, .hall)
          ∧ readMove [0, 0, 0, 9, 1, 24] = some (9, .door 23))
      ∧ (locInService r (destOf (.zone 6)) = true ∧ locInService r (destOf (.zone 5)) = false ∧ findPallet r 9 = some x
          ∧ ∀ y ∈ r.pallets, y.id ≠ 8)
      ∧ (destOf (.zone 6) ≠ x.loc ∧ destOf (.door 23) = x.loc ∧ routeAgrees x (.zone 6) = true ∧ routeAgrees x (.door 0) = false)
      ∧ ((∀ z ∈ pathZones x.loc (.zone 6), zoneTakesMoves r z = true)
          ∧ ¬ ∀ z ∈ pathZones x.loc (.zone 6), zoneTakesMoves (renewed .warehouse (withZone { room with mode := .draining })) z = true)
      ∧ (doorTakes r (.zone 6) = none ∧ doorTakes r (.door 23) = some .notReady
          ∧ doorTakes (renewed .warehouse (withDock out)) (.door 23) = none)
      ∧ (r.credits < min r.cfg.staging.inboundLimit (effectiveCapacity r)
          ∧ ¬ (96 < min r.cfg.staging.inboundLimit (effectiveCapacity r)) ∧ 119 < effectiveCapacity r ∧ ¬ 120 < effectiveCapacity r) := by
  refine ⟨⟨rfl, rfl⟩, ?_⟩
  decide

/-- Records with and without a move, of each status; a move whose expiry is now. -/
theorem witness_MovesEndAndPalletsLeave :
    let m : Move := ⟨.trailer 23, .hall, 100, 1000, true⟩
    let s := withPallets [pallet 7 .hall .standing none, pallet 8 (.trailer 23) .moving (some m), pallet 9 (.trailer 23) .loaded none]
    takes .warehouse s ∧ palletsUnique s.part
      ∧ (readPalletId [0, 0, 0, 8] = some 8 ∧ findPallet s.part 8 = some (pallet 8 (.trailer 23) .moving (some m)) ∧ m.expiry ≤ s.part.time
          ∧ findPallet s.part 7 = some (pallet 7 .hall .standing none) ∧ findPallet s.part 9 = some (pallet 9 (.trailer 23) .loaded none)
          ∧ findPallet s.part 6 = none ∧ (s.part.port .warehouse).overflow = false) := by
  refine ⟨⟨rfl, rfl⟩, ?_, by decide⟩
  unfold palletsUnique
  decide

/-- Each action, and a quarantined pallet that stands in the table while a move to a door is asked for. -/
theorem witness_RouteCheckFollowsTheSnapshot :
    let x := { pallet 9 .hall .standing none with route := ⟨.cross, 0, 6, none⟩ }
    let s := withPallets [{ x with quarantined := true }]
    x.quarantined = false ∧ x.route.action = .cross ∧ (pallet 9 .hall .standing none).route.action = .store 6
      ∧ readMove [0, 0, 0, 9, 1, 24] = some (9, .door 23) ∧ findPallet s.part 9 = some { x with quarantined := true }
      ∧ outcomeHas (exec (.move .warehouse 1 [0, 0, 0, 9, 1, 24]) s) (fun _ => true) = true := by decide

/-- The air above, below and at the estimate; the widths at their bounds. -/
theorem witness_EstimateMovesTowardTheAir :
    (-1000000 : Int) < -999999 ∧ (999999 : Int) < 1000000 ∧ (-5000 : Int) ≤ 10 * -500 ∧ (10 * 500 : Int) ≤ 5000
      ∧ 1000000 ≤ 200 * 5000 ∧ ¬ 1000000 ≤ 24999 * 40 ∧ (-1500 : Int) ≤ 10 * -150 ∧ (10 * -150 : Int) < -1499
      ∧ 2147483647 ≤ 2147483647 := by decide

/-- A door and a portal settled from 900 for 0 s and for 1 s, with less than ten and with ten. -/
theorem witness_SettlementDividesByTen :
    let s := (withDock { door with settleFrom := some 900, carry := 2 }).part
    let u := (withPortal { gate with settleFrom := some 900, carry := 9 }).part
    (s.docks.get 23).settleFrom = some 900 ∧ (u.portals.get 11).settleFrom = some 900
      ∧ (0 * (s.cfg.docks.get 23).weight + (s.docks.get 23).carry) / 10 = 0
      ∧ 0 < (1 * (s.cfg.docks.get 23).weight + (s.docks.get 23).carry) / 10
      ∧ (0 * (u.cfg.portals.get 11).weight + (u.portals.get 11).carry) / 10 = 0
      ∧ 0 < (1 * (u.cfg.portals.get 11).weight + (u.portals.get 11).carry) / 10 := by decide

/-- A record of each kind, below its ranges and above them: the nearer bound is taken, and the bounds themselves are kept. -/
theorem witness_ClampingHoldsEveryFieldInRange :
    clampRecord (.zone 0 ⟨true, -401, 201, 0, 9, 3601, 1801⟩) = .zone 0 ⟨true, -400, 200, 200, 10, 3600, 1800⟩
      ∧ clampRecord (.dock 23 ⟨true, false, some 61, 0, 255⟩) = .dock 23 ⟨true, false, some 61, 1, 255⟩
      ∧ clampRecord (.handling 0 ⟨3601, 101, -501⟩) = .handling 0 ⟨3600, 100, -500⟩
      ∧ clampRecord (.portal 11 ⟨true, true, some 6, none, 121, 0⟩) = .portal 11 ⟨true, true, some 6, none, 120, 0⟩
      ∧ clampRecord (.evap 15 ⟨true, false, none, none, 99, 49⟩) = .evap 15 ⟨true, false, none, none, 100, 48⟩
      ∧ clampRecord (.cls 7 ⟨5001, 1, 50001, 0⟩) = .cls 7 ⟨5000, 0, 50000, 0⟩
      ∧ clampRecord (.rule 31 ⟨true, none, none, .cross, 7201⟩) = .rule 31 ⟨true, none, none, .cross, 7200⟩
      ∧ clampRecord (.port .plant 121) = .port .plant 120 ∧ clampRecord (.port .plant 1) = .port .plant 2 := by decide

/-! ### Witnesses: defrost and alarms -/

/-- An evaporator that can take a demand, one that cannot; each mode and batch of the zone; nine slots and eight. -/
theorem witness_DefrostRequestsActOnTheZone :
    (∀ p b, takes p (withBatch b) ∧ (renewed p (withBatch b)).batches.get 6 = some b) ∧ (∀ p k, takes p (withEvap k))
      ∧ (readEvapList [2, 16, 1] = some [15, 0] ∧ readEvapList [0] = none ∧ readEvapList [2, 16, 16] = none)
      ∧ (evapActive (renewed .plant (withEvap coil)) 15 = true ∧ (coil.sub == .idle) = true ∧ evapActive (rig id).part 0 = false)
      ∧ (readZone [6] = some 6 ∧ zoneInService (rig id).part 6 = true)
      ∧ ((renewed .plant (withZone { room with mode := .draining })).zones.get 6).mode = .draining
      ∧ pastGather (renewed .plant (withBatch (batch .normal .pumpdown))) 6 = true
      ∧ pastGather (renewed .plant (withBatch (batch .normal .gather))) 6 = false
      ∧ (∀ e, evapOf (renewed .plant (withEvap { coil with sub := .fault, faultCause := some .station })) 6 e = true →
          ((renewed .plant (withEvap { coil with sub := .fault, faultCause := some .station })).evaps.get e).sub = .fault)
      ∧ (evapOf (renewed .plant (rig id)) 6 15 = true ∧ ((renewed .plant (rig id)).evaps.get 15).sub ≠ .fault)
      ∧ ((batch .normal .gather).phase = .gather ∧ (batch .forced .forceWait).phase = .forceWait ∧ coil.sub ≠ .fault)
      ∧ (renewed .plant (rig id)).batches.get 6 = none ∧ readCount [9] = some 9 ∧ readCount [8] = some 8 := by
  refine ⟨fun p b => ⟨(rig_batch p b).1, (rig_batch p b).2.2.1⟩, fun p k => (rig_evap p k).1, ?_⟩
  decide

/-- Every deadline due now, each phase of a batch whose member is its own zone's. -/
theorem witness_DefrostDeadlinesMoveTheBatch :
    let heating := withEvap { coil with sub := .heating, heatDl := some 1000, backstopDl := some 1000, overdueDl := some 1000 }
    let open_ := { gate with state := .granted, openCommand := true }
    let susp := { batch .normal .heat with suspended := true, suspensionDl := some 1000, suspendCount := 1 }
    (∀ k f, (withBatch (batch k f)).part.running = true ∧ (withBatch (batch k f)).part.batches.get 6 = some (batch k f)
        ∧ reached (batch k f).deadline (withBatch (batch k f)).part.time = true)
      ∧ (reached (heating.part.evaps.get 15).heatDl heating.part.time = true ∧ (heating.part.evaps.get 15).sub = .heating
          ∧ reached (heating.part.evaps.get 15).backstopDl heating.part.time = true
          ∧ reached (heating.part.evaps.get 15).overdueDl heating.part.time = true)
      ∧ (evapActive (withEvap coil).part 15 = true ∧ ((withEvap coil).part.evaps.get 15).sub = .idle)
      ∧ (((rig id).part.zones.get 6).mode = .open ∧ 0 < (rig id).part.cfg.defrost.maxHeat ∧ membersOwn (withBatch (batch .normal .pumpdown)).part)
      ∧ (∃ m ∈ (batch .normal .pumpdown).members, m.outcome = none) ∧ ((withBatch (batch .normal .drip)).part.evaps.get 15).sub ≠ .fault
      ∧ (susp.suspended = true ∧ reached susp.suspensionDl 1000 = true
          ∧ portalOf (withPortal open_).part 6 11 = true ∧ grantLive open_ = true ∧ open_.pending = none)
      ∧ roomFor .defrostOverdue (.evap 15) heating.part ∧ roomFor .defrostIncomplete (.evap 15) heating.part
      ∧ notAcked .defrostIncomplete (.evap 15) heating.part := by
  refine ⟨fun k f => ⟨rfl, rfl, rfl⟩, by decide, by decide, ⟨by decide, by decide, ?_⟩, by decide, by decide, by decide,
    .inr (by decide), .inr (by decide), by unfold notAcked; decide⟩
  exact putBatch_own _ _ (by decide) (by decide)

/-- A table with a latched record and self-clearing ones in each state; an expected repeat that agrees and one that does not. -/
theorem witness_AckAlarmActsByState :
    let a : Alarm := ⟨3, .sealFail, .door (.dock 23), .activeUnack, 900, 950, 2⟩
    let b : Alarm := ⟨4, .zoneWarm, .zone 6, .clearedUnack, 900, 950, 1⟩
    let c : Alarm := ⟨65535, .doorFault, .door (.dock 23), .activeAck, 900, 950, 255⟩
    let s := rig fun s => { s with alarms := { s.alarms with records := [a, b, c, { b with number := 5, subject := .zone 0, state := .activeUnack }] } }
    takes .plant s ∧ alarmNumbersUnique (renewed .plant s)
      ∧ (readAck [1, 0, 3, 2, 0, 0, 3, 182] = some (.one 3 2 950) ∧ readAck [1, 0, 0, 0, 0, 0, 0, 0] = some (.one 0 0 0)
          ∧ readAck [2, 0, 0, 0, 0, 0, 0, 0] = some .all)
      ∧ (a ∈ (renewed .plant s).alarms.records ∧ a.repeats = 2 ∧ a.lastRepeat = 950 ∧ a.repeats ≠ 1 ∧ a.kind.latched = true
          ∧ b.kind.latched = false ∧ b ∈ (renewed .plant s).alarms.records ∧ c ∈ (renewed .plant s).alarms.records)
      ∧ ∀ x ∈ (renewed .plant s).alarms.records, x.number ≠ 6 := by
  refine ⟨⟨rfl, rfl⟩, ?_, by decide, by decide, by decide⟩
  unfold alarmNumbersUnique
  decide

/-! ### Witnesses: invariants and encodings -/

/-- Reset has every property that the invariants start from, and a step from it with a command waiting answers a next state. -/
theorem witness_invariants (h : Obligations.ResetIsSafe) (k : Obligations.StepRunsTheFrontCommand) (c : Instr) :
    let s := { State.reset with pending := [c] }
    queuesBounded s.part ∧ alarmsSound s.part ∧ (1 ≤ s.part.alarms.nextNumber ∧ s.part.alarms.nextNumber ≤ 65535) ∧ relayRight s.part
      ∧ supplyRight s.part ∧ tableSound s.part ∧ palletsUnique s.part ∧ quarantineKept s.part ∧ heatWithinSlots s.part ∧ membersOwn s.part
      ∧ ∃ t, step s = .next t :=
  have e := k c State.reset
  ⟨h.queues, h.alarms, (by decide : 1 ≤ State.reset.part.alarms.nextNumber ∧ State.reset.part.alarms.nextNumber ≤ 65535), h.relay, h.supply, h.table, h.table.1, h.quarantine, h.heat, h.members,
    let ⟨t, n, _⟩ := e.2; ⟨t, e.1.trans n⟩⟩

/-- A pallet updated by the hall's interval: before and after it is the one record of its identifier, its exposure at the bound. -/
theorem witness_ExposureNeverDecreases :
    let x := { pallet 9 .hall .standing none with exposure := 2147483647, updated := 970 }
    let s := { rig (fun s => modZone 0 (fun k => { k with exposureDl := some 1000 }) { s with pallets := [x] }) with
      pending := [.zoneExposureIntervalExpiry 0] }
    palletsUnique s.part ∧ (∀ x ∈ s.part.pallets, x.exposure ≤ 2147483647) ∧ x ∈ s.part.pallets
      ∧ outcomeHas (step s) (fun t => t.part.pallets.map (·.id) == [x.id]) = true := by
  refine ⟨?_, by decide, by decide, by decide +kernel⟩
  unfold palletsUnique
  decide

/-- Records at the bounds of their ranges, a frame of the longest body, and a report body of each kind's length. -/
theorem witness_RecordsAndFramesAreReadBack :
    (let w := Record.zone 6 ⟨true, -400, 200, 250, 600, 3600, 1800⟩; clampRecord w = w ∧ namesDefined w = true)
      ∧ (let w := Record.rule 31 ⟨true, some 4095, none, .quarantine 6, 7200⟩; clampRecord w = w ∧ namesDefined w = true)
      ∧ (let w := Record.station 61 ⟨.none, true, false⟩; clampRecord w = w ∧ namesDefined w = true)
      ∧ bodyFits (List.replicate 254 0) = true ∧ reportLength .dock [1, 1, 2, 0, 0, 0, 0, 0, 0] = true
      ∧ reportLength .portal [1, 7, 1, 0] = true ∧ reportLength .evap [1, 0, 0, 0, 0] = true
      ∧ reportLength .probe [1, 0, 0, 1, 0, 0, 1, 0, 0, 1, 0, 0] = true := by decide +kernel
end Sys2Proof.Tests
end

section
/-! SUPPORT. The members of the batches (R8, R154): what each shared operation does to them. A batch keeps its members, loses one, ends, or
is joined by in-service evaporators bound to its zone. -/

namespace Sys2Proof.Machine

open Sys2Proof

/-! ### Rosters -/

/-- Distinct in-service evaporators bound to the zone. -/
def rosterOwn (c : Settings) (z : ZoneId) (es : List EvapId) : Prop :=
  es.Nodup ∧ ∀ e ∈ es, (c.evaps.get e).inService = true ∧ (c.evaps.get e).zone = some z

theorem membersOwn_iff {s : Part} : membersOwn s ↔ ∀ z b, s.batches.get z = some b → rosterOwn s.cfg z (b.members.map (·.evap)) := by
  simp only [membersOwn, rosterOwn, List.mem_map, forall_exists_index, and_imp, forall_apply_eq_imp_iff₂]

theorem rosterOwn_sublist {c : Settings} {z : ZoneId} {es fs : List EvapId} (h : rosterOwn c z es) (l : fs.Sublist es) :
    rosterOwn c z fs :=
  ⟨h.1.sublist l, fun e he => h.2 e (l.subset he)⟩

theorem evapOf_own {s : Part} {z : ZoneId} {e : EvapId} (h : evapOf s z e = true) :
    (s.cfg.evaps.get e).inService = true ∧ (s.cfg.evaps.get e).zone = some z := by
  simp only [evapOf, evapActive, Bool.and_eq_true, beq_iff_eq] at h
  exact ⟨h.1.1, h.2⟩

/-- A member of the joined list is an old one, or one of the evaporators that join. -/
theorem mem_addMembers {ms : List Member} {es : List EvapId} {m : Member} (h : m ∈ addMembers ms es) :
    m ∈ ms ∨ m.evap ∈ es := by
  unfold addMembers at h
  obtain ⟨e, -, he⟩ := List.mem_filterMap.mp h
  split at he
  · cases he
    exact .inl (List.mem_of_find?_eq_some ‹_›)
  · split at he
    · cases he
      exact .inr (by simpa [newMember] using ‹es.contains e = true›)
    · cases he

/-- Members are taken in ascending evaporator number, so each at most once. -/
theorem addMembers_nodup (ms : List Member) (es : List EvapId) : ((addMembers ms es).map (·.evap)).Nodup := by
  unfold addMembers
  rw [List.map_filterMap]
  refine (List.nodup_finRange 16).filterMap fun e e' b he he' => ?_
  have named {e : EvapId} {x : Option Member} (hx : ∀ m, x = some m → m.evap = e) (hb : b ∈ x.map (·.evap)) : b = e := by
    obtain ⟨m, hm, rfl⟩ := Option.map_eq_some_iff.mp hb
    exact hx m hm
  refine (named (e := e) (fun m hm => ?_) he).symm.trans (named (e := e') (fun m hm => ?_) he')
  all_goals
    split at hm
    · cases hm
      rename_i found
      exact eq_of_beq (List.find?_some (p := fun m : Member => m.evap == _) found)
    · split at hm
      · cases hm
        rfl
      · cases hm

theorem rosterOwn_addMembers {c : Settings} {z : ZoneId} {ms : List Member} {es : List EvapId} (h : rosterOwn c z (ms.map (·.evap)))
    (hes : ∀ e ∈ es, (c.evaps.get e).inService = true ∧ (c.evaps.get e).zone = some z) :
    rosterOwn c z ((addMembers ms es).map (·.evap)) := by
  refine ⟨addMembers_nodup ms es, fun e he => ?_⟩
  obtain ⟨m, hm, rfl⟩ := List.mem_map.mp he
  exact (mem_addMembers hm).elim (fun k => h.2 _ (List.mem_map_of_mem k)) (hes _)

/-! ### The relation -/

/-- Batches whose members are their zone's own stay so. -/
def Owns (s t : Part) : Prop := membersOwn s → membersOwn t

@[simp] theorem Owns.refl (s : Part) : Owns s s := id

theorem Owns.trans {s t u : Part} (h : Owns s t) (h' : Owns t u) : Owns s u := fun k => h' (h k)

/-- Nothing is asked of a change that reaches neither the batches nor the evaporator records. -/
theorem Owns.of_eq {u s t : Part} (hb : t.batches = s.batches) (hc : t.cfg.evaps = s.cfg.evaps) (k : Owns u s) : Owns u t :=
  fun h => by rw [membersOwn, hb, hc]; exact k h

theorem Owns.of_only {gs : List Group} {u s t : Part} (h : Only gs s t) (c : (gs.contains .batches || gs.contains .cfg) = false)
    (k : Owns u s) : Owns u t := by
  simp only [Bool.or_eq_false_iff, List.contains_eq_mem, decide_eq_false_iff_not] at c
  exact k.of_eq (h.within .batches c.1) (congrArg Settings.evaps (h.within .cfg c.2))

/-- The batch of one zone takes a roster that is its own. -/
theorem owns_putBatch_some {z : ZoneId} {b : Batch} {u s : Part}
    (h : membersOwn s → rosterOwn s.cfg z (b.members.map (·.evap))) (k : Owns u s) :
    Owns u (putBatch z (some b) s) := by
  refine k.trans fun hs => membersOwn_iff.mpr fun x c hx => ?_
  by_cases hz : x = z
  · subst hz
    rw [putBatch_get] at hx
    cases hx
    exact h hs
  · rw [putBatch_get_ne _ _ hz] at hx
    exact membersOwn_iff.mp hs x c hx

@[simp] theorem owns_putBatch_none {z : ZoneId} {u s : Part} (k : Owns u s) : Owns u (putBatch z none s) := by
  refine k.trans fun hs => membersOwn_iff.mpr fun x c hx => ?_
  by_cases hz : x = z
  · subst hz
    simp at hx
  · rw [putBatch_get_ne _ _ hz] at hx
    exact membersOwn_iff.mp hs x c hx

theorem owns_modBatch_of {z : ZoneId} {f : Batch → Batch} {u s : Part}
    (h : ∀ b, rosterOwn s.cfg z (b.members.map (·.evap)) → rosterOwn s.cfg z ((f b).members.map (·.evap))) (k : Owns u s) :
    Owns u (modBatch z f s) := by
  refine k.trans fun hs => membersOwn_iff.mpr fun x c hx => ?_
  by_cases hz : x = z
  · subst hz
    rw [modBatch_get, Option.map_eq_some_iff] at hx
    obtain ⟨b, hb, rfl⟩ := hx
    exact h b (membersOwn_iff.mp hs x b hb)
  · rw [modBatch_get_ne _ _ hz] at hx
    exact membersOwn_iff.mp hs x c hx

@[simp] theorem owns_modBatch {z : ZoneId} {f : Batch → Batch} {u s : Part}
    (h : ∀ b, (f b).members.map (·.evap) = b.members.map (·.evap)) (k : Owns u s) :
    Owns u (modBatch z f s) :=
  owns_modBatch_of (fun b hb => by rw [h]; exact hb) k

/-! ### Changes of a batch that keep its roster -/

@[simp] theorem setOutcome_roster (e : EvapId) (o : MemberOutcome) (b : Batch) :
    (setOutcome e o b).members.map (·.evap) = b.members.map (·.evap) := by
  simp only [setOutcome, List.map_map]
  refine List.map_congr_left fun m _ => ?_
  by_cases h : m.evap = e <;> simp [h]

@[simp] theorem startFan_roster (e : EvapId) (b : Batch) :
    (startFan e b).members.map (·.evap) = b.members.map (·.evap) := by
  simp only [startFan, List.map_map]
  refine List.map_congr_left fun m _ => ?_
  by_cases h : m.evap = e <;> simp [h]

@[simp] theorem clearSuspension_members (b : Batch) : (clearSuspension b).members = b.members := rfl

@[simp] theorem owns_clearSuspension {z : ZoneId} {u s : Part} (k : Owns u s) : Owns u (modBatch z clearSuspension s) :=
  owns_modBatch (fun _ => rfl) k

/-! ### Combinators -/

@[simp] theorem owns_onlyIf {u s : Part} {c : Bool} {f : Part → Part} (h : ∀ t, Owns t (f t)) (k : Owns u s) :
    Owns u (onlyIf c f s) := by
  unfold onlyIf; split
  · exact k.trans (h s)
  · exact k

theorem owns_foldl {α : Type} {u : Part} {f : α → Part → Part} (h : ∀ a t, Owns t (f a t)) (l : List α) {s : Part}
    (k : Owns u s) : Owns u (l.foldl (fun s a => f a s) s) := by
  induction l generalizing s with
  | nil => exact k
  | cons a l ih => exact ih (k.trans (h a s))

@[simp] theorem owns_forList {α : Type} {u s : Part} {l : List α} {f : α → Part → Part} (h : ∀ a t, Owns t (f a t))
    (k : Owns u s) : Owns u (forList l f s) := owns_foldl h l k

@[simp] theorem owns_forEach {n : Nat} {u s : Part} {f : Fin n → Part → Part} (h : ∀ a t, Owns t (f a t))
    (k : Owns u s) : Owns u (forEach f s) := owns_foldl h _ k

@[simp] theorem owns_credits {u s : Part} {n : Nat} (k : Owns u s) : Owns u { s with credits := n } := k

theorem owns_unordered {u s : Part} {f g : Part → Part} (hf : ∀ t, Owns t (f t)) (hg : ∀ t, Owns t (g t)) (k : Owns u s) :
    Owns u (unordered f g s) := by
  have hd : Owns u { s with draws := s.draws + 1 } := k
  unfold unordered; dsimp only; split
  · exact (hd.trans (hf _)).trans (hg _)
  · exact (hd.trans (hg _)).trans (hf _)

@[simp] theorem owns_eitherOrder {u s : Part} {b : Bool} {f g : Part → Part} (hf : ∀ t, Owns t (f t)) (hg : ∀ t, Owns t (g t))
    (k : Owns u s) : Owns u (eitherOrder b f g s) := by
  unfold eitherOrder; split
  · exact owns_unordered hf hg k
  · exact (k.trans (hf _)).trans (hg _)

@[simp] theorem owns_trackDock {u s : Part} {d : DoorId} {f : Part → Part} (h : Owns u (f s)) : Owns u (trackDock d f s) := by
  unfold trackDock; exact owns_onlyIf (fun t => .of_only (bumpDock_only d t) rfl (.refl t)) h

@[simp] theorem owns_trackPortal {u s : Part} {q : PortalId} {f : Part → Part} (h : Owns u (f s)) : Owns u (trackPortal q f s) := by
  unfold trackPortal; exact owns_onlyIf (fun t => .of_only (bumpPortal_only q t) rfl (.refl t)) h

@[simp] theorem owns_withSome {α : Type} {u s : Part} {x : Option α} {f : α → Part → Part} (h : ∀ a t, Owns t (f a t)) (k : Owns u s) :
    Owns u (withSome x f s) := by
  cases x with
  | none => exact k
  | some a => exact k.trans (h a s)

/-! ### Records (Ops.lean) -/

@[simp] theorem owns_modZone {z : ZoneId} {f : Zone → Zone} {u s : Part} (k : Owns u s) : Owns u (modZone z f s) :=
  .of_only (modZone_only z f s) rfl k

@[simp] theorem owns_modProbe {t : ProbeId} {f : Probe → Probe} {u s : Part} (k : Owns u s) : Owns u (modProbe t f s) :=
  .of_only (modProbe_only t f s) rfl k

@[simp] theorem owns_modDock {d : DoorId} {f : Dock → Dock} {u s : Part} (k : Owns u s) : Owns u (modDock d f s) :=
  .of_only (modDock_only d f s) rfl k

@[simp] theorem owns_modPortal {q : PortalId} {f : Portal → Portal} {u s : Part} (k : Owns u s) : Owns u (modPortal q f s) :=
  .of_only (modPortal_only q f s) rfl k

@[simp] theorem owns_modEvap {e : EvapId} {f : Evap → Evap} {u s : Part} (k : Owns u s) : Owns u (modEvap e f s) :=
  .of_only (modEvap_only e f s) rfl k

@[simp] theorem owns_modStation {a : StationId} {f : Station → Station} {u s : Part} (k : Owns u s) : Owns u (modStation a f s) :=
  .of_only (modStation_only a f s) rfl k

@[simp] theorem owns_modLoop {f : Loop → Loop} {u s : Part} (k : Owns u s) : Owns u (modLoop f s) :=
  .of_only (modLoop_only f s) rfl k

@[simp] theorem owns_modPallet {i : Nat} {f : Pallet → Pallet} {u s : Part} (k : Owns u s) : Owns u (modPallet i f s) :=
  .of_only (modPallet_only i f s) rfl k

@[simp] theorem owns_dropPallet {i : Nat} {u s : Part} (k : Owns u s) : Owns u (dropPallet i s) :=
  .of_only (dropPallet_only i s) rfl k

@[simp] theorem owns_setMode {z : ZoneId} {m : Mode} {dl : Option Nat} {u s : Part} (k : Owns u s) : Owns u (setMode z m dl s) :=
  .of_only (setMode_only z m dl s) rfl k

@[simp] theorem owns_clearFlight {u s : Part} (k : Owns u s) : Owns u (clearFlight s) :=
  .of_only (clearFlight_only s) rfl k

@[simp] theorem owns_notify {p : Port} {b : NoticeBody} {u s : Part} (k : Owns u s) : Owns u (notify p b s) :=
  .of_only (notify_only p b s) rfl k

@[simp] theorem owns_notifyBoth {b : NoticeBody} {u s : Part} (k : Owns u s) : Owns u (notifyBoth b s) :=
  .of_only (notifyBoth_only b s) rfl k

@[simp] theorem owns_raiseAlarm {a : AlarmKind} {x : Subject} {u s : Part} (k : Owns u s) : Owns u (raiseAlarm a x s) :=
  .of_only (raiseAlarm_only a x s) rfl k

@[simp] theorem owns_endCondition {a : AlarmKind} {x : Subject} {u s : Part} (k : Owns u s) : Owns u (endCondition a x s) :=
  .of_only (endCondition_only a x s) rfl k

/-! ### Zones (ZoneOps.lean) -/

@[simp] theorem owns_warmEvaluate {z : ZoneId} {u s : Part} (k : Owns u s) : Owns u (warmEvaluate z s) :=
  .of_only (warmEvaluate_only z s) rfl k

@[simp] theorem owns_zonePastGather {z : ZoneId} {u s : Part} (k : Owns u s) : Owns u (zonePastGather z s) :=
  .of_only (zonePastGather_only z s) rfl k

@[simp] theorem owns_zoneBatchEnded {z : ZoneId} {u s : Part} (k : Owns u s) : Owns u (zoneBatchEnded z s) :=
  .of_only (zoneBatchEnded_only z s) rfl k

@[simp] theorem owns_modeNotice {z : ZoneId} {old : Mode} {c : ModeCause} {u s : Part} (k : Owns u s) : Owns u (modeNotice z old c s) :=
  .of_only (modeNotice_only z old c s) rfl k

/-! ### Doors (DoorOps.lean) -/

@[simp] theorem owns_endPendingDock {d : DoorId} {o : RequestEnd} {u s : Part} (k : Owns u s) : Owns u (endPendingDock d o s) :=
  .of_only (endPendingDock_only d o s) rfl k

@[simp] theorem owns_endPendingPortal {q : PortalId} {o : RequestEnd} {u s : Part} (k : Owns u s) : Owns u (endPendingPortal q o s) :=
  .of_only (endPendingPortal_only q o s) rfl k

@[simp] theorem owns_faultDock {d : DoorId} {u s : Part} (k : Owns u s) : Owns u (faultDock d s) :=
  .of_only (faultDock_only d s) rfl k

@[simp] theorem owns_faultPortal {q : PortalId} {u s : Part} (k : Owns u s) : Owns u (faultPortal q s) :=
  .of_only (faultPortal_only q s) rfl k

@[simp] theorem owns_lockOutDock {d : DoorId} {u s : Part} (k : Owns u s) : Owns u (lockOutDock d s) :=
  .of_only (lockOutDock_only d s) rfl k

@[simp] theorem owns_lockOutPortal {q : PortalId} {u s : Part} (k : Owns u s) : Owns u (lockOutPortal q s) :=
  .of_only (lockOutPortal_only q s) rfl k

@[simp] theorem owns_closeDock {d : DoorId} {u s : Part} (k : Owns u s) : Owns u (closeDock d s) :=
  .of_only (closeDock_only d s) rfl k

@[simp] theorem owns_endGrant {q : PortalId} {u s : Part} (k : Owns u s) : Owns u (endGrant q s) :=
  .of_only (endGrant_only q s) rfl k

@[simp] theorem owns_grantDock {d : DoorId} {u s : Part} (k : Owns u s) : Owns u (grantDock d s) :=
  .of_only (grantDock_only d s) rfl k

@[simp] theorem owns_grantPortal {q : PortalId} {u s : Part} (k : Owns u s) : Owns u (grantPortal q s) :=
  .of_only (grantPortal_only q s) rfl k

@[simp] theorem owns_withdraw {z : ZoneId} {c : CloseCause} {u s : Part} (k : Owns u s) : Owns u (withdraw z c s) :=
  .of_only (withdraw_only z c s) rfl k

@[simp] theorem owns_becomeHeld {q : PortalId} {u s : Part} (k : Owns u s) : Owns u (becomeHeld q s) :=
  .of_only (becomeHeld_only q s) rfl k

@[simp] theorem owns_portalsEnterBulk {z : ZoneId} {u s : Part} (k : Owns u s) : Owns u (portalsEnterBulk z s) :=
  .of_only (portalsEnterBulk_only z s) rfl k

@[simp] theorem owns_portalsLeaveBulk {z : ZoneId} {u s : Part} (k : Owns u s) : Owns u (portalsLeaveBulk z s) :=
  .of_only (portalsLeaveBulk_only z s) rfl k

@[simp] theorem owns_portalsBlock {z : ZoneId} {u s : Part} (k : Owns u s) : Owns u (portalsBlock z s) :=
  .of_only (portalsBlock_only z s) rfl k

@[simp] theorem owns_portalsUnblock {z : ZoneId} {u s : Part} (k : Owns u s) : Owns u (portalsUnblock z s) :=
  .of_only (portalsUnblock_only z s) rfl k

@[simp] theorem owns_drainCheck {z : ZoneId} {u s : Part} (k : Owns u s) : Owns u (drainCheck z s) :=
  .of_only (drainCheck_only z s) rfl k

/-! ### Defrost (DefrostOps.lean) -/

@[simp] theorem owns_gatherMembers {es : List EvapId} {u s : Part} (k : Owns u s) : Owns u (gatherMembers es s) :=
  .of_only (gatherMembers_only es s) rfl k

@[simp] theorem owns_batchRule {z : ZoneId} {u s : Part} (k : Owns u s) : Owns u (batchRule z s) := by
  have hes : ∀ e ∈ demanding s z, (s.cfg.evaps.get e).inService = true ∧ (s.cfg.evaps.get e).zone = some z := fun e he =>
    evapOf_own (by simpa using (Bool.and_eq_true_iff.mp (List.mem_filter.mp he).2).1)
  unfold batchRule; dsimp only; split
  · split
    · exact owns_gatherMembers (owns_putBatch_some (fun _ => rosterOwn_addMembers (ms := []) ⟨List.nodup_nil, by simp⟩ hes) k)
    · exact k
  · split
    · refine owns_gatherMembers (owns_putBatch_some (fun h => rosterOwn_addMembers ?_ hes) k)
      exact membersOwn_iff.mp h z _ ‹_›
    · exact k

@[simp] theorem owns_enterDemand {e : EvapId} {u s : Part} (k : Owns u s) : Owns u (enterDemand e s) := by simp [enterDemand, k]

@[simp] theorem owns_idleCheck {e : EvapId} {u s : Part} (k : Owns u s) : Owns u (idleCheck e s) := by
  unfold idleCheck; dsimp only; split <;> simp [k]

@[simp] theorem owns_endOverdue {e : EvapId} {u s : Part} (k : Owns u s) : Owns u (endOverdue e s) :=
  .of_only (endOverdue_only e s) rfl k

@[simp] theorem owns_dropDemand {e : EvapId} {u s : Part} (k : Owns u s) : Owns u (dropDemand e s) :=
  .of_only (dropDemand_only e s) rfl k

@[simp] theorem owns_treatMembers {ms : List Member} {c : BatchEnd} {u s : Part} (k : Owns u s) : Owns u (treatMembers ms c s) :=
  .of_only (treatMembers_only ms c s) rfl k

@[simp] theorem owns_endBatch {z : ZoneId} {c : BatchEnd} {u s : Part} (k : Owns u s) : Owns u (endBatch z c s) := by
  unfold endBatch; split <;> simp (maxDischargeDepth := 12) [k]

@[simp] theorem owns_enterPumpdown {z : ZoneId} {u s : Part} (k : Owns u s) : Owns u (enterPumpdown z s) := by
  unfold enterPumpdown; split <;> simp (maxDischargeDepth := 12) [k]

@[simp] theorem owns_closingCheck {z : ZoneId} {u s : Part} (k : Owns u s) : Owns u (closingCheck z s) := by
  unfold closingCheck; split <;> simp (maxDischargeDepth := 12) [k]

@[simp] theorem owns_suspendMembers {z : ZoneId} {u s : Part} (k : Owns u s) : Owns u (suspendMembers z s) := by
  unfold suspendMembers; split <;> simp (maxDischargeDepth := 12) [k]

@[simp] theorem owns_reevaluateDock {d : DoorId} {u s : Part} (k : Owns u s) : Owns u (reevaluateDock d s) := by
  unfold reevaluateDock; (repeat' split) <;> simp (maxDischargeDepth := 12) [k]

@[simp] theorem owns_reevaluatePortal {q : PortalId} {u s : Part} (k : Owns u s) : Owns u (reevaluatePortal q s) := by
  unfold reevaluatePortal; (repeat' split) <;> simp (maxDischargeDepth := 12) [k]

@[simp] theorem owns_doorsLeftHeat {z : ZoneId} {u s : Part} (k : Owns u s) : Owns u (doorsLeftHeat z s) := by
  unfold doorsLeftHeat; split <;> simp (maxDischargeDepth := 12) [k]

@[simp] theorem owns_zoneLeftHeat {z : ZoneId} {u s : Part} (k : Owns u s) : Owns u (zoneLeftHeat z s) :=
  .of_only (zoneLeftHeat_only z s) rfl k

@[simp] theorem owns_enterDrip {z : ZoneId} {u s : Part} (k : Owns u s) : Owns u (enterDrip z s) := by
  unfold enterDrip; split <;> simp (maxDischargeDepth := 12) [k]

@[simp] theorem owns_leaveHeatCheck {z : ZoneId} {u s : Part} (k : Owns u s) : Owns u (leaveHeatCheck z s) := by
  unfold leaveHeatCheck; dsimp only; (repeat' split) <;> simp (maxDischargeDepth := 12) [k]

@[simp] theorem owns_giveOutcome {e : EvapId} {o : MemberOutcome} {n : Nat} {u s : Part} (k : Owns u s) : Owns u (giveOutcome e o n s) := by
  simp (maxDischargeDepth := 12) [giveOutcome, k]

@[simp] theorem owns_serveWaiting {e : EvapId} {u s : Part} (k : Owns u s) : Owns u (serveWaiting e s) := by
  unfold serveWaiting; split <;> simp (maxDischargeDepth := 12) [k]

@[simp] theorem owns_arbiterRounds {n : Nat} {u s : Part} (k : Owns u s) : Owns u (arbiterRounds n s) := by
  induction n generalizing s with
  | zero => exact k
  | succ n ih =>
    unfold arbiterRounds; split
    · split
      · exact ih (owns_serveWaiting k)
      · exact k
    · exact k

@[simp] theorem owns_arbiter {u s : Part} (k : Owns u s) : Owns u (arbiter s) := by
  simp [arbiter, k]

@[simp] theorem owns_endHeat {e : EvapId} {o : MemberOutcome} {u s : Part} (k : Owns u s) : Owns u (endHeat e o s) := by
  simp (maxDischargeDepth := 12) [endHeat, k]

@[simp] theorem owns_enterHeat {z : ZoneId} {u s : Part} (k : Owns u s) : Owns u (enterHeat z s) := by
  unfold enterHeat; split <;> simp (maxDischargeDepth := 12) [k]

@[simp] theorem owns_roomWarmCut {z : ZoneId} {u s : Part} (k : Owns u s) : Owns u (roomWarmCut z s) := by
  unfold roomWarmCut; dsimp only; (repeat' split) <;> simp (maxDischargeDepth := 12) [k]

@[simp] theorem owns_suspendBatch {z : ZoneId} {u s : Part} (k : Owns u s) : Owns u (suspendBatch z s) := by
  simp [suspendBatch, k]

@[simp] theorem owns_resumeCheck {z : ZoneId} {u s : Part} (k : Owns u s) : Owns u (resumeCheck z s) := by
  unfold resumeCheck; (repeat' split) <;> simp (maxDischargeDepth := 12) [k]

@[simp] theorem owns_defrostModeOpen {z : ZoneId} {u s : Part} (k : Owns u s) : Owns u (defrostModeOpen z s) := by
  simp [defrostModeOpen, k]

@[simp] theorem owns_bulkToOpen {z : ZoneId} {rc : Option RevokeCause} {c : ModeCause} {u s : Part} (k : Owns u s) : Owns u (bulkToOpen z rc c s) := by
  unfold bulkToOpen; split <;> simp (maxDischargeDepth := 12) [k]

@[simp] theorem owns_takeBack {n : Nat} {u s : Part} (k : Owns u s) : Owns u (takeBack n s) :=
  .of_only (takeBack_only n s) rfl k

@[simp] theorem owns_setInForce {n : Nat} {u s : Part} (k : Owns u s) : Owns u (setInForce n s) := by
  unfold setInForce
  exact owns_arbiter (owns_takeBack k)

@[simp] theorem owns_divideFrost {z : ZoneId} {a : Nat} {u s : Part} (k : Owns u s) : Owns u (divideFrost z a s) := by
  unfold divideFrost; dsimp only; (repeat' split) <;> simp (maxDischargeDepth := 12) [k]

@[simp] theorem owns_settleDock {d : DoorId} {n : Nat} {u s : Part} (k : Owns u s) : Owns u (settleDock d n s) := by
  unfold settleDock; dsimp only; split <;> simp (maxDischargeDepth := 12) [k]

@[simp] theorem owns_settlePortal {q : PortalId} {n : Nat} {u s : Part} (k : Owns u s) : Owns u (settlePortal q n s) := by
  unfold settlePortal; dsimp only; split <;> simp (maxDischargeDepth := 12) [k]

@[simp] theorem owns_settleZoneDoors {z : ZoneId} {u s : Part} (k : Owns u s) : Owns u (settleZoneDoors z s) := by
  unfold settleZoneDoors; split <;> simp (maxDischargeDepth := 12) [k]

@[simp] theorem owns_approach {q : PortalId} {u s : Part} (k : Owns u s) : Owns u (approach q s) := by
  unfold approach; dsimp only; (repeat' split) <;> simp (maxDischargeDepth := 12) [k]

/-! ### Exposure Unit and Move Tracker (TrackerOps.lean) -/

@[simp] theorem owns_endMove {id : Nat} {note : Option (MoveEnd → NoticeBody)} {u s : Part} (k : Owns u s) : Owns u (endMove id note s) :=
  .of_only (endMove_only id note s) rfl k

@[simp] theorem owns_updatePallet {id : Nat} {u s : Part} (k : Owns u s) : Owns u (updatePallet id s) :=
  .of_only (updatePallet_only id s) rfl k

@[simp] theorem owns_updateAt {l : Loc} {u s : Part} (k : Owns u s) : Owns u (updateAt l s) :=
  .of_only (updateAt_only l s) rfl k

@[simp] theorem owns_updateAll {u s : Part} (k : Owns u s) : Owns u (updateAll s) :=
  .of_only (updateAll_only s) rfl k

@[simp] theorem owns_changeSlot {d : DoorId} {f : Slot → Slot} {u s : Part} (k : Owns u s) : Owns u (changeSlot d f s) :=
  .of_only (changeSlot_only d f s) rfl k

@[simp] theorem owns_emptySlotAt {d : DoorId} {u s : Part} (k : Owns u s) : Owns u (emptySlotAt d s) :=
  .of_only (emptySlotAt_only d s) rfl k

@[simp] theorem owns_faultSlot {d : DoorId} {c : LoadCause} {n : Nat} {u s : Part} (k : Owns u s) : Owns u (faultSlot d c n s) :=
  .of_only (faultSlot_only d c n s) rfl k

/-! ### Field loop (LoopOps.lean) -/

@[simp] theorem owns_recomputeTemp {z : ZoneId} {u s : Part} (k : Owns u s) : Owns u (recomputeTemp z s) :=
  .of_only (recomputeTemp_only z s) rfl k

@[simp] theorem owns_recompute {z : ZoneId} {u s : Part} (k : Owns u s) : Owns u (recompute z s) := by
  unfold recompute; dsimp only; (repeat' split) <;> simp (maxDischargeDepth := 12) [k]

@[simp] theorem owns_recomputeOpt {z : Option ZoneId} {u s : Part} (k : Owns u s) : Owns u (recomputeOpt z s) := by
  unfold recomputeOpt; split <;> simp (maxDischargeDepth := 12) [k]

@[simp] theorem owns_probeEvent {t : ProbeId} {r : Option Int} {u s : Part} (k : Owns u s) : Owns u (probeEvent t r s) := by
  unfold probeEvent; dsimp only; (repeat' split) <;> simp (maxDischargeDepth := 12) [k]

@[simp] theorem owns_accrueDock {d : DoorId} {o : Bool} {u s : Part} (k : Owns u s) : Owns u (accrueDock d o s) := by
  unfold accrueDock; split <;> simp [k]

@[simp] theorem owns_accruePortal {q : PortalId} {o : Bool} {u s : Part} (k : Owns u s) : Owns u (accruePortal q o s) := by
  unfold accruePortal; split <;> simp [k]

@[simp] theorem owns_handOn {z : ZoneId} {u s : Part} (k : Owns u s) : Owns u (handOn z s) := by
  simp (maxDischargeDepth := 12) [handOn, k]

@[simp] theorem owns_dockReportState {d : DoorId} {r : DockReport} {u s : Part} (k : Owns u s) : Owns u (dockReportState d r s) :=
  .of_only (dockReportState_only d r s) rfl k

@[simp] theorem owns_dockReportEvent {d : DoorId} {r : DockReport} {u s : Part} (k : Owns u s) : Owns u (dockReportEvent d r s) := by
  simp (maxDischargeDepth := 12) [dockReportEvent, k]

@[simp] theorem owns_buttonEvent {d : DoorId} {u s : Part} (k : Owns u s) : Owns u (buttonEvent d s) := by
  unfold buttonEvent askDock; dsimp only
  repeat' split
  all_goals simp (maxDischargeDepth := 12) [*]

@[simp] theorem owns_portalReportState {q : PortalId} {x : Position} {u s : Part} (k : Owns u s) : Owns u (portalReportState q x s) :=
  .of_only (portalReportState_only q x s) rfl k

@[simp] theorem owns_portalReportEvent {q : PortalId} {x : Position} {u s : Part} (k : Owns u s) : Owns u (portalReportEvent q x s) := by
  simp (maxDischargeDepth := 12) [portalReportEvent, k]

@[simp] theorem owns_evapFault {e : EvapId} {c : FaultCause} {u s : Part} (k : Owns u s) : Owns u (evapFault e c s) :=
  .of_only (evapFault_only e c s) rfl k

@[simp] theorem owns_refreezeCheck {z : ZoneId} {u s : Part} (k : Owns u s) : Owns u (refreezeCheck z s) := by
  unfold refreezeCheck; (repeat' split) <;> simp (maxDischargeDepth := 12) [k]

@[simp] theorem owns_loseMember {e : EvapId} {c : FaultCause} {n : Nat} {u s : Part} (k : Owns u s) : Owns u (loseMember e c n s) := by
  simp (maxDischargeDepth := 12) [loseMember, k]

@[simp] theorem owns_leaveBatch {e : EvapId} {u s : Part} (k : Owns u s) : Owns u (leaveBatch e s) := by
  unfold leaveBatch; split
  · exact k
  · refine owns_onlyIf (fun t => by simp) (owns_modBatch_of (fun b hb => rosterOwn_sublist hb ?_) k)
    exact List.filter_sublist.map _

@[simp] theorem owns_evapLost {e : EvapId} {n : Nat} {u s : Part} (k : Owns u s) : Owns u (evapLost e n s) := by
  unfold evapLost; dsimp only; (repeat' split) <;> simp (maxDischargeDepth := 12) [k]

@[simp] theorem owns_evapRestored {e : EvapId} {u s : Part} (k : Owns u s) : Owns u (evapRestored e s) := by
  unfold evapRestored; dsimp only; split <;> simp [k]

@[simp] theorem owns_noCurrentCheck {e : EvapId} {h c : Bool} {u s : Part} (k : Owns u s) : Owns u (noCurrentCheck e h c s) := by
  unfold noCurrentCheck; dsimp only; (repeat' split) <;> simp (maxDischargeDepth := 12) [k]

@[simp] theorem owns_stuckCheck {e : EvapId} {h c : Bool} {u s : Part} (k : Owns u s) : Owns u (stuckCheck e h c s) :=
  .of_only (stuckCheck_only e h c s) rfl k

@[simp] theorem owns_terminationCheck {e : EvapId} {x : Option Int} {u s : Part} (k : Owns u s) : Owns u (terminationCheck e x s) := by
  unfold terminationCheck; split <;> simp (maxDischargeDepth := 12) [k]

@[simp] theorem owns_fanCheck {e : EvapId} {x : Option Int} {u s : Part} (k : Owns u s) : Owns u (fanCheck e x s) := by
  unfold fanCheck; split <;> simp (maxDischargeDepth := 12) [k]

@[simp] theorem owns_evapReportEvent {e : EvapId} {r : EvapReport} {h : Bool} {u s : Part} (k : Owns u s) : Owns u (evapReportEvent e r h s) := by
  simp (maxDischargeDepth := 12) [evapReportEvent, k]

@[simp] theorem owns_dockLost {d : DoorId} {n : Nat} {u s : Part} (k : Owns u s) : Owns u (dockLost d n s) := by
  simp (maxDischargeDepth := 12) [dockLost, k]

@[simp] theorem owns_portalLost {q : PortalId} {n : Nat} {u s : Part} (k : Owns u s) : Owns u (portalLost q n s) := by
  simp (maxDischargeDepth := 12) [portalLost, k]

@[simp] theorem owns_stationLost {a : StationId} {u s : Part} (k : Owns u s) : Owns u (stationLost a s) := by
  simp (maxDischargeDepth := 12) [stationLost, k]

@[simp] theorem owns_stationRestored {a : StationId} {u s : Part} (k : Owns u s) : Owns u (stationRestored a s) := by simp [stationRestored, k]

@[simp] theorem owns_accountMiss {a : StationId} {u s : Part} (k : Owns u s) : Owns u (accountMiss a s) := by
  simp (maxDischargeDepth := 12) [accountMiss, k]

@[simp] theorem owns_accountGood {a : StationId} {u s : Part} (k : Owns u s) : Owns u (accountGood a s) := by
  simp (maxDischargeDepth := 12) [accountGood, k]

@[simp] theorem owns_missInFlight {u s : Part} (k : Owns u s) : Owns u (missInFlight s) := by
  unfold missInFlight; (repeat' split) <;> simp (maxDischargeDepth := 12) [k]

@[simp] theorem owns_takeSection {a : StationId} {x : EventSection} {u s : Part} (k : Owns u s) : Owns u (takeSection a x s) :=
  .of_only (takeSection_only a x s) rfl k

@[simp] theorem owns_deliverPasses {door : DoorRef} {ps : List Pass} {u s : Part} (k : Owns u s) : Owns u (deliverPasses door ps s) :=
  .of_only (deliverPasses_only door ps s) rfl k

@[simp] theorem owns_deliverDock {a : StationId} {r : DockReport} {u s : Part} (k : Owns u s) : Owns u (deliverDock a r s) := by
  simp (maxDischargeDepth := 12) [deliverDock, k]

@[simp] theorem owns_deliverPortal {a : StationId} {r : PortalReport} {u s : Part} (k : Owns u s) : Owns u (deliverPortal a r s) := by
  simp (maxDischargeDepth := 12) [deliverPortal, k]

@[simp] theorem owns_deliverEvap {a : StationId} {i : Image} {r : EvapReport} {u s : Part} (k : Owns u s) : Owns u (deliverEvap a i r s) := by
  simp [deliverEvap, k]

@[simp] theorem owns_deliverProbe {a : StationId} {r : Vector ProbeEntry 4} {u s : Part} (k : Owns u s) : Owns u (deliverProbe a r s) := by
  simp (maxDischargeDepth := 12) [deliverProbe, k]

/-! ### Ports (PortOps.lean) -/

@[simp] theorem owns_restorePort {p : Port} {u s : Part} (k : Owns u s) : Owns u (restorePort p s) := by
  unfold restorePort; split <;> simp (maxDischargeDepth := 12) [k]

@[simp] theorem owns_zonesSilent {u s : Part} (k : Owns u s) : Owns u (zonesSilent s) := by
  simp (maxDischargeDepth := 12) [zonesSilent, k]

@[simp] theorem owns_doorsSilent {u s : Part} (k : Owns u s) : Owns u (doorsSilent s) :=
  .of_only (doorsSilent_only s) rfl k

@[simp] theorem owns_warehouseSilent {u s : Part} (k : Owns u s) : Owns u (warehouseSilent s) := by
  unfold warehouseSilent; simp (maxDischargeDepth := 12) [k]

@[simp] theorem owns_becomeSilent {p : Port} {u s : Part} (k : Owns u s) : Owns u (becomeSilent p s) := by
  have h : Owns u (modPort p (fun r => { r with silent := true, supervisionDl := none }) s) := k.of_eq (by simp) (by simp)
  unfold becomeSilent; dsimp only
  split <;> simp (maxDischargeDepth := 12) [h]

@[simp] theorem owns_stationLeaves {a : StationId} {u s : Part} (k : Owns u s) : Owns u (stationLeaves a s) :=
  .of_only (stationLeaves_only a s) rfl k

@[simp] theorem owns_stationBegins {a : StationId} {u s : Part} (k : Owns u s) : Owns u (stationBegins a s) :=
  .of_only (stationBegins_only a s) rfl k

@[simp] theorem owns_stationWritten {a : StationId} {o x : StationCfg} {u s : Part} (k : Owns u s) : Owns u (stationWritten a o x s) :=
  .of_only (stationWritten_only a o x s) rfl k

@[simp] theorem owns_clearProbe {t : ProbeId} {u s : Part} (k : Owns u s) : Owns u (clearProbe t s) :=
  .of_only (clearProbe_only t s) rfl k

@[simp] theorem owns_probeWritten {t : ProbeId} {o x : ProbeCfg} {u s : Part} (k : Owns u s) : Owns u (probeWritten t o x s) := by
  simp (maxDischargeDepth := 12) [probeWritten, k]

@[simp] theorem owns_zoneWritten {z : ZoneId} {o x : ZoneCfg} {u s : Part} (k : Owns u s) : Owns u (zoneWritten z o x s) :=
  .of_only (zoneWritten_only z o x s) rfl k

@[simp] theorem owns_dockEnters {d : DoorId} {u s : Part} (k : Owns u s) : Owns u (dockEnters d s) :=
  .of_only (dockEnters_only d s) rfl k

@[simp] theorem owns_dockLeaves {d : DoorId} {u s : Part} (k : Owns u s) : Owns u (dockLeaves d s) := by
  simp (maxDischargeDepth := 12) [dockLeaves, k]

@[simp] theorem owns_dockWritten {d : DoorId} {o x : DockCfg} {u s : Part} (k : Owns u s) : Owns u (dockWritten d o x s) := by
  unfold dockWritten; (repeat' split) <;> simp (maxDischargeDepth := 12) [k]

@[simp] theorem owns_portalEnters {q : PortalId} {u s : Part} (k : Owns u s) : Owns u (portalEnters q s) :=
  .of_only (portalEnters_only q s) rfl k

@[simp] theorem owns_portalLeaves {q : PortalId} {u s : Part} (k : Owns u s) : Owns u (portalLeaves q s) := by
  simp (maxDischargeDepth := 12) [portalLeaves, k]

@[simp] theorem owns_evapWritten {e : EvapId} {o x : EvapCfg} {u s : Part} (k : Owns u s) : Owns u (evapWritten e o x s) :=
  .of_only (evapWritten_only e o x s) rfl k

@[simp] theorem owns_lockDock {d : DoorId} {u s : Part} (k : Owns u s) : Owns u (lockDock d s) := by
  simp (maxDischargeDepth := 12) [lockDock, k]

@[simp] theorem owns_lockPortal {q : PortalId} {u s : Part} (k : Owns u s) : Owns u (lockPortal q s) := by
  simp (maxDischargeDepth := 12) [lockPortal, k]

@[simp] theorem owns_lockEvap {e : EvapId} {u s : Part} (k : Owns u s) : Owns u (lockEvap e s) := by
  simp (maxDischargeDepth := 12) [lockEvap, k]

@[simp] theorem owns_lockEffect {t : LockTarget} {b : Bool} {u s : Part} (k : Owns u s) : Owns u (lockEffect t b s) := by
  unfold lockEffect; split <;> simp (maxDischargeDepth := 12) [k]

end Sys2Proof.Machine
end

section
/-! SUPPORT. What the requests and expiries do to the alarm table and the notice queues: each talks (Laws/Talks.lean), save ACK ALARM and
FETCH NOTICES. A handler's lemma speaks of the part its reply carries. -/

namespace Sys2Proof.Machine

open Sys2Proof

/-! ### Replies -/

@[simp] theorem refuse_part (st : Status) (s : Part) : (refuse st s).1 = s := rfl

@[simp] theorem reply_part (st : Status) (body : List Byte) (s : Part) : (reply st body s).1 = s := rfl

@[simp] theorem okDockRevision_part (d : DoorId) (s : Part) : (okDockRevision d s).1 = s := rfl

@[simp] theorem okPortalRevision_part (q : PortalId) (s : Part) : (okPortalRevision q s).1 = s := rfl

@[simp] theorem pulldownReply_part (z : ZoneId) (s : Part) : (pulldownReply z s).1 = s := rfl

@[simp] theorem entryReply_part (d : DoorId) (s : Part) : (entryReply d s).1 = s := rfl

@[simp] theorem loadFaults_part (d : DoorId) (c : LoadCause) (n : Nat) (s : Part) : (loadFaults d c n s).1 = faultSlot d c n s := rfl

/-- A check in front of a handler leaves the part, or hands it on: what holds of the part in both cases holds of the reply. -/
theorem withBody_part {P : Part → Prop} {α : Type} {x : Option α} {h : α → Part → Reply} {s : Part} (hs : P s)
    (hh : ∀ a, P (h a s).1) : P (withBody x h s).1 := by
  cases x with
  | none => exact hs
  | some a => exact hh a

theorem inServiceOr_part {P : Part → Prop} {b : Bool} {h : Part → Reply} {s : Part} (hs : P s) (hh : P (h s).1) :
    P (inServiceOr b h s).1 := by
  unfold inServiceOr; split
  · exact hh
  · exact hs

theorem revisionOr_part {P : Part → Prop} {a b : Nat} {h : Part → Reply} {s : Part} (hs : P s) (hh : P (h s).1) :
    P (revisionOr a b h s).1 := by
  unfold revisionOr; split
  · exact hh
  · exact hs

theorem dockOnly_part {P : Part → Prop} {x : DoorRef} {h : DoorId → Part → Reply} {s : Part} (hs : P s) (hh : ∀ d, P (h d s).1) :
    P (dockOnly x h s).1 := by
  cases x with
  | dock d => exact hh d
  | portal q => exact hs

theorem zoneRequest_part {P : Part → Prop} {body : List Byte} {h : ZoneId → Part → Reply} {s : Part} (hs : P s)
    (hh : ∀ z, P (h z s).1) : P (zoneRequest body h s).1 :=
  withBody_part hs fun z => inServiceOr_part hs (hh z)

theorem doorRequest_part {P : Part → Prop} {α : Type} {x : Option α} {door : α → DoorRef} {h : α → Part → Reply} {s : Part}
    (hs : P s) (hh : ∀ a, P (h a s).1) : P (doorRequest x door h s).1 :=
  withBody_part hs fun a => inServiceOr_part hs (hh a)

theorem manifestRequest_part {P : Part → Prop} {α : Type} {x : Option α} {door : α → DoorRef}
    {h : α → DoorId → Part → Reply} {s : Part} (hs : P s) (hh : ∀ a d, P (h a d s).1) : P (manifestRequest x door h s).1 :=
  withBody_part hs fun a => dockOnly_part hs fun d => inServiceOr_part hs (hh a d)

theorem palletRequest_part {P : Part → Prop} {body : List Byte} {h : Pallet → Part → Reply} {s : Part} (hs : P s)
    (hh : ∀ p, P (h p s).1) : P (palletRequest body h s).1 :=
  withBody_part hs fun id => by
    split
    · exact hs
    · split
      · exact hh _
      · exact hs

/-! ### What a handler tends -/

/-- Only talks, and keeps the batches' members their zones' own. -/
def Tends (s t : Part) : Prop := Talks s t ∧ Owns s t

theorem Tends.refl (s : Part) : Tends s s := ⟨.refl s, .refl s⟩

theorem Tends.quiet {u s t : Part} (k : Tends u s) (q : Quiet s t) (hb : t.batches = s.batches) (hc : t.cfg.evaps = s.cfg.evaps) :
    Tends u t := ⟨k.1.quiet q, k.2.of_eq hb hc⟩

/-! ### Handlers of requests -/

section Handlers

variable {u s : Part}

theorem Tends.of_only {gs : List Group} {u s t : Part} (h : Only gs s t)
    (c : (gs.contains .alarms || gs.contains .ports || gs.contains .time || gs.contains .supply) = false)
    (c' : (gs.contains .batches || gs.contains .cfg) = false) (k : Tends u s) : Tends u t := ⟨.of_only h c k.1, .of_only h c' k.2⟩

theorem tends_onlyIf {b : Bool} {f : Part → Part} (h : ∀ t, Tends t (f t)) (k : Tends u s) : Tends u (onlyIf b f s) :=
  ⟨talks_onlyIf (fun t => (h t).1) k.1, owns_onlyIf (fun t => (h t).2) k.2⟩

theorem quiet_pallets (s : Part) (l : List Pallet) : Quiet s { s with pallets := l } := ⟨rfl, rfl, rfl, rfl, rfl⟩

theorem quiet_heatCommanded (s : Part) (n : Nat) : Quiet s { s with heatCommanded := n } := ⟨rfl, rfl, rfl, rfl, rfl⟩

theorem quiet_store (s : Part) (x : Store) : Quiet s { s with store := x } := ⟨rfl, rfl, rfl, rfl, rfl⟩

theorem tends_zoneBulk (z : ZoneId) (k : Tends u s) : Tends u (zoneBulk z s).1 := by
  unfold zoneBulk enterBulk; (repeat' split) <;> simp (maxDischargeDepth := 12) [Tends, k.1, k.2]

theorem tends_zoneBulkRelease (z : ZoneId) (k : Tends u s) : Tends u (zoneBulkRelease z s).1 := by
  unfold zoneBulkRelease; (repeat' split) <;> simp (maxDischargeDepth := 12) [Tends, k.1, k.2]

theorem tends_zonePulldown (z : ZoneId) (k : Tends u s) : Tends u (zonePulldown z s).1 := by
  unfold zonePulldown; split <;> simp (maxDischargeDepth := 12) [enterDraining, Tends, k.1, k.2]

theorem tends_zoneRelease (z : ZoneId) (k : Tends u s) : Tends u (zoneRelease z s).1 := by
  unfold zoneRelease; split <;> simp (maxDischargeDepth := 12) [releaseZone, Tends, k.1, k.2]

theorem tends_claimDock (x : ClaimReq) (d : DoorId) (k : Tends u s) : Tends u (claimDock x d s).1 := by
  refine revisionOr_part k ?_
  split <;> simp (maxDischargeDepth := 12) [Tends, k.1, k.2]

theorem tends_unclaimDock (n : Nat) (d : DoorId) (k : Tends u s) : Tends u (unclaimDock n d s).1 := by
  refine revisionOr_part k ?_
  (repeat' split) <;> simp (maxDischargeDepth := 12) [Tends, k.1, k.2]

theorem tends_holdDock (d : DoorId) (k : Tends u s) : Tends u (holdDock d s).1 := by
  unfold holdDock; split <;> simp (maxDischargeDepth := 12) [Tends, k.1, k.2]

theorem tends_holdEnds (q : PortalId) (k : Tends u s) : Tends u (holdEnds q s) := by
  unfold holdEnds; dsimp only; (repeat' split) <;> simp (maxDischargeDepth := 12) [Tends, k.1, k.2]

theorem tends_holdPortal (q : PortalId) (k : Tends u s) : Tends u (holdPortal q s).1 := by
  unfold holdPortal; split
  · exact k
  · exact k
  · exact k
  · rw [okPortalRevision_part]
    obtain ⟨ht, ho⟩ := tends_holdEnds q (u := u) (s := modPortal q (fun k => { k with claim := .plantHold }) s)
      (by simp (maxDischargeDepth := 12) [Tends, k.1, k.2])
    exact ⟨talks_trackPortal ht, owns_trackPortal ho⟩

theorem tends_holdDoor (x : DoorRef × Nat) (k : Tends u s) : Tends u (holdDoor x s).1 := by
  unfold holdDoor; split
  · exact revisionOr_part k (tends_holdDock _ k)
  · exact revisionOr_part k (tends_holdPortal _ k)

theorem tends_unholdDoor (x : DoorRef × Nat) (k : Tends u s) : Tends u (unholdDoor x s).1 := by
  unfold unholdDoor; split
  · exact revisionOr_part k (by unfold unholdDock; split <;> simp (maxDischargeDepth := 12) [Tends, k.1, k.2])
  · exact revisionOr_part k (by unfold unholdPortal; split <;> simp (maxDischargeDepth := 12) [unholdBulk, Tends, k.1, k.2])

theorem tends_inflate (st : DockState) (d : DoorId) (k : Tends u s) : Tends u (inflate st d s).1 := by
  unfold inflate; dsimp only; (repeat' split) <;> simp (maxDischargeDepth := 12) [Tends, k.1, k.2]

theorem tends_releaseDock (b : Bool) (d : DoorId) (k : Tends u s) : Tends u (releaseDock b d s).1 := by
  unfold releaseDock; dsimp only; (repeat' split) <;> simp (maxDischargeDepth := 12) [Tends, k.1, k.2]

theorem tends_askDock (d : DoorId) (o : Origin) (k : Tends u s) : Tends u (askDock d o s).2 := by
  unfold askDock; dsimp only; split <;> simp (maxDischargeDepth := 12) [Tends, k.1, k.2]

theorem tends_openDock (d : DoorId) (k : Tends u s) : Tends u (openDock d s).1 := by
  unfold openDock; dsimp only; split
  · exact k
  · split <;> exact tends_askDock d _ k

theorem tends_closeDoor (x : DoorRef) (k : Tends u s) : Tends u (closeDoor x s).1 := by
  unfold closeDoor; dsimp only; (repeat' split) <;> simp (maxDischargeDepth := 12) [Tends, k.1, k.2]

theorem tends_beginManifest (n r : Nat) (d : DoorId) (k : Tends u s) : Tends u (beginManifest n r d s).1 := by
  unfold beginManifest; dsimp only; (repeat' split) <;> simp (maxDischargeDepth := 12) [Tends, k.1, k.2]

theorem tends_takeEntry (e : Entry) (d : DoorId) (k : Tends u s) : Tends u (takeEntry e d s).1 := by
  unfold takeEntry; dsimp only; (repeat' split) <;> simp (maxDischargeDepth := 12) [Tends, k.1, k.2]

theorem tends_commitManifest (d : DoorId) (k : Tends u s) : Tends u (commitManifest d s).1 := by
  unfold commitManifest; dsimp only; split
  · exact k
  · exact ⟨talks_faultSlot k.1, owns_faultSlot k.2⟩
  · exact k
  · exact k
  · split
    · exact ⟨talks_faultSlot k.1, owns_faultSlot k.2⟩
    · split
      · exact k
      · exact ⟨talks_changeSlot (k.1.quiet (quiet_pallets _ _)), owns_changeSlot k.2⟩

theorem tends_clearManifest (d : DoorId) (k : Tends u s) : Tends u (clearManifest d s).1 := by
  unfold clearManifest; split <;> simp (maxDischargeDepth := 12) [Tends, k.1, k.2]

theorem tends_moveRequest (id : Nat) (e : Dest) (k : Tends u s) : Tends u (moveRequest id e s).1 := by
  unfold moveRequest; split
  · exact k
  · split
    · exact k
    · split
      · exact k
      · split
        · exact k
        · exact ⟨talks_credits (talks_modPallet k.1), owns_credits (owns_modPallet k.2)⟩

theorem tends_cancelMove (p : Pallet) (k : Tends u s) : Tends u (cancelMove p s).1 := by
  unfold cancelMove; dsimp only; split <;> simp (maxDischargeDepth := 12) [Tends, k.1, k.2]

theorem tends_removeRecord (p : Pallet) (k : Tends u s) : Tends u (removeRecord p s).1 := by
  unfold removeRecord; dsimp only; split
  · exact k
  · rw [reply_part]
    split <;> simp (maxDischargeDepth := 12) [Tends, k.1, k.2]

theorem tends_requestDefrost (x : Part × Nat) (e : EvapId) (k : Tends u x.1) : Tends u (requestDefrost x e).1 := by
  unfold requestDefrost; split
  · exact ⟨talks_enterDemand k.1, owns_enterDemand k.2⟩
  · exact k

theorem tends_defrostRequest (es : List EvapId) (k : Tends u s) : Tends u (defrostRequest es s).1 := by
  have fold (x : Part × Nat) (hx : Tends u x.1) : Tends u (es.foldl requestDefrost x).1 := by
    induction es generalizing x with
    | nil => exact hx
    | cons e es ih => exact ih _ (tends_requestDefrost x e hx)
  exact fold (s, 0) k

theorem eligible_own {z : ZoneId} {e : EvapId} (h : e ∈ eligible s z) :
    (s.cfg.evaps.get e).inService = true ∧ (s.cfg.evaps.get e).zone = some z :=
  evapOf_own (Bool.and_eq_true_iff.mp (List.mem_filter.mp h).2).1

theorem tends_formForced (z : ZoneId) (k : Tends u s) : Tends u (formForced z s) := by
  unfold formForced; dsimp only; split
  · exact ⟨talks_forList (by simp) (talks_putBatch k.1), owns_forList (by simp)
      (owns_putBatch_some (fun _ => rosterOwn_addMembers (ms := []) ⟨List.nodup_nil, by simp⟩ fun _ => eligible_own) k.2)⟩
  · exact ⟨talks_forList (by simp) (talks_modBatch k.1), owns_forList (by simp)
      (owns_modBatch_of (fun _ h => rosterOwn_addMembers h fun _ => eligible_own) k.2)⟩

theorem tends_enterForceWait (z : ZoneId) (k : Tends u s) : Tends u (enterForceWait z s) := by
  simp (maxDischargeDepth := 12) [enterForceWait, Tends, k.1, k.2]

theorem tends_forceDefrost (z : ZoneId) (k : Tends u s) : Tends u (forceDefrost z s).1 := by
  unfold forceDefrost; dsimp only; split
  · exact k
  · split
    · exact k
    · split
      · exact k
      · split
        · exact tends_enterForceWait z (tends_formForced z ⟨talks_bulkToOpen k.1, owns_bulkToOpen k.2⟩)
        · exact tends_enterForceWait z (tends_formForced z k)

theorem tends_cancelDefrost (z : ZoneId) (k : Tends u s) : Tends u (cancelDefrost z s).1 := by
  unfold cancelDefrost; (repeat' split) <;> simp (maxDischargeDepth := 12) [Tends, k.1, k.2]

theorem tends_setHeatSlots (n : Nat) (k : Tends u s) : Tends u (setHeatSlots n s).1 := by
  have h := k.quiet (quiet_heatCommanded s (min n 8)) rfl rfl
  unfold setHeatSlots; dsimp only [reply_part]; split
  · exact h
  · exact ⟨talks_setInForce h.1, owns_setInForce h.2⟩

/-! ### A written record and the members -/

theorem failing_eq_none {b : Bool} {st : Status} : failing b st = none ↔ b = false := by
  cases b <;> simp [failing]

theorem firstSome_cons_eq_none {α : Type} {x : Option α} {l : List (Option α)} :
    firstSome (x :: l) = none ↔ x = none ∧ firstSome l = none := by
  cases x <;> simp [firstSome]

theorem batchOf_ne_none {z : ZoneId} {b : Batch} {m : Member} (h : s.batches.get z = some b) (hm : m ∈ b.members) :
    batchOf s m.evap ≠ none := by
  intro hn
  have hz := List.findSome?_eq_none_iff.mp hn z (List.mem_finRange z)
  have mem : isMember b m.evap = true := List.any_eq_true.mpr ⟨m, hm, by simp⟩
  simp [h, mem] at hz

/-- A record of anything but an evaporator keeps the members; one of an evaporator does where a member keeps its service and its zone. -/
theorem owns_putCfg {r : Record} (h : ∀ e x, r = .evap e x → batchOf s e ≠ none →
    (s.cfg.evaps.get e).inService = true → x.inService = true ∧ x.zone = (s.cfg.evaps.get e).zone) : Owns s (putCfg r s) := by
  intro hs z b hb
  obtain ⟨distinct, own⟩ := hs z b hb
  refine ⟨distinct, fun m hm => ?_⟩
  obtain ⟨ins, zone⟩ := own m hm
  by_cases hr : ∃ x, r = .evap m.evap x
  · obtain ⟨x, rfl⟩ := hr
    obtain ⟨ins', zone'⟩ := h m.evap x rfl (batchOf_ne_none hb hm) ins
    simp [putCfg, writeCfg, ins', zone', zone]
  · have kept : ((writeCfg r s.cfg).evaps.get m.evap) = s.cfg.evaps.get m.evap := by
      cases r with
      | evap e x => exact upd_get_ne _ _ fun he => hr ⟨x, by rw [he]⟩
      | port p n => cases p <;> rfl
      | _ => rfl
    simp only [putCfg, kept]
    exact ⟨ins, zone⟩

theorem owns_portalWritten (q : PortalId) (o x : PortalCfg) : Owns s (portalWritten q o x s) := by
  have put {t : Part} (y : PortalCfg) (k : Owns s t) : Owns s (putCfg (.portal q y) t) := k.of_eq rfl rfl
  unfold portalWritten; split
  · exact owns_portalEnters (put x (.refl s))
  · split
    · exact put x (owns_portalLeaves (put _ (.refl s)))
    · exact put x (.refl s)

theorem owns_applyRecord {r : Record} (h : ∀ e x, r = .evap e x → batchOf s e ≠ none →
    (s.cfg.evaps.get e).inService = true → x.inService = true ∧ x.zone = (s.cfg.evaps.get e).zone) : Owns s (applyRecord r s) := by
  have put := owns_putCfg h
  unfold applyRecord; dsimp only; split
  · exact owns_stationWritten put
  · exact owns_zoneWritten put
  · exact owns_probeWritten put
  · exact owns_dockWritten put
  · exact owns_portalWritten _ _ _
  · exact owns_evapWritten put
  all_goals exact put

theorem owns_acceptWrite {op : WriteOp} (k : Owns u s) : Owns u (acceptWrite op s) := .of_only (acceptWrite_only op s) rfl k

/-- An accepted record of a member keeps its service and its zone (R8). -/
theorem evap_record_kept {e : EvapId} {x : EvapCfg} (h : topologyCheck s (.evap e x) = none) (member : batchOf s e ≠ none)
    (ins : (s.cfg.evaps.get e).inService = true) : x.inService = true ∧ x.zone = (s.cfg.evaps.get e).zone := by
  simp only [topologyCheck, rebindCheck, firstSome_cons_eq_none, failing_eq_none] at h
  obtain ⟨rebind, -, leave, -⟩ := h
  have stays : x.inService = true := by
    by_contra hx
    rw [Bool.not_eq_true] at hx
    have may : evapMayLeave s e = true := by simpa [ins, hx] using leave
    simp only [evapMayLeave, Bool.and_eq_true, Option.isNone_iff_eq_none] at may
    exact member may.2
  have bound : (s.cfg.evaps.get e).zone = x.zone := by
    simp only [ins, stays, Bool.and_true, Bool.or_eq_false_iff, bne_eq_false_iff_eq] at rebind
    exact rebind.1
  exact ⟨stays, bound.symm⟩

/-- Clamping a record of an evaporator leaves what it says of service and zone. -/
theorem clampRecord_evap {r : Record} {e : EvapId} {x : EvapCfg} (h : clampRecord r = .evap e x) :
    ∃ y, r = .evap e y ∧ y.zone = x.zone ∧ y.inService = x.inService := by
  cases r with
  | evap f y => cases h; exact ⟨y, rfl, rfl, rfl⟩
  | _ => cases h

theorem tends_takeWrite (p : Port) (tag : Byte) (w : Written) : Tends s (takeWrite p tag w s).1 := by
  refine ⟨?_, ?_⟩
  · unfold takeWrite acceptRecord; split
    · exact .refl s
    · exact talks_acceptWrite (talks_applyRecord (.refl s))
  · unfold takeWrite acceptRecord; split
    · exact .refl s
    · next accepted =>
      refine owns_acceptWrite (owns_applyRecord fun e x hx member ins => ?_)
      simp only [writeRefused, firstSome_cons_eq_none] at accepted
      obtain ⟨-, -, -, checked, -⟩ := accepted
      obtain ⟨y, hy, hz, hi⟩ := clampRecord_evap hx
      rw [hy] at checked
      rw [← hz, ← hi]
      exact evap_record_kept checked member ins

theorem tends_takeLockout (p : Port) (tag : Byte) (t : LockTarget) (b : Bool) : Tends s (takeLockout p tag t b s).1 := by
  unfold takeLockout; dsimp only; split
  · exact .refl s
  · refine ⟨talks_acceptWrite (talks_onlyIf (fun _ => by simp) (talks_putCfg (.refl s))), owns_acceptWrite (owns_onlyIf (fun _ => by simp)
      (owns_putCfg fun e x hx _ ins => ?_))⟩
    cases t with
    | evap e' => cases hx; exact ⟨ins, rfl⟩
    | station _ | probe _ | dock _ | portal _ => cases hx

/-! ### Expiries and the end of a bank write -/

theorem tends_completeOp (op : WriteOp) (st : Status) (k : Tends u s) : Tends u (completeOp op st s) := by
  unfold completeOp; split
  · exact k
  · exact ⟨talks_respond (k.1.quiet (quiet_modPort _ _ s fun _ => rfl)),
      k.2.of_eq (by simp [respond, superviseFromNow, send]) (by simp [respond, superviseFromNow, send])⟩

theorem tends_startWaiting (k : Tends u s) : Tends u (startWaiting s) := .of_only (startWaiting_only s) rfl rfl k

theorem tends_bankWriteEnds (m : Bool) (k : Tends u s) : Tends u (bankWriteEnds m s) := by
  unfold bankWriteEnds
  repeat' split
  · exact k
  · exact k
  · exact tends_startWaiting (tends_completeOp _ _ (k.quiet (quiet_store s _) rfl rfl))
  · exact tends_startWaiting (tends_completeOp _ _ (k.quiet ⟨rfl, rfl, rfl, rfl, rfl⟩ rfl rfl))
  · exact k.quiet (quiet_store s _) rfl rfl

theorem tends_feedPort (p : Port) (l : List (Nat × Byte)) (k : Tends u s) : Tends u (feedPort p l s) :=
  k.quiet (quiet_modPort p _ s fun _ => rfl) (by simp [feedPort]) (by simp [feedPort])

theorem tends_sealTimeout (d : DoorId) (k : Tends u s) : Tends u (sealTimeout d s) := by
  simp (maxDischargeDepth := 12) [sealTimeout, Tends, k.1, k.2]

theorem tends_openTimeout (d : DoorId) (k : Tends u s) : Tends u (openTimeout d s) := by
  unfold openTimeout; dsimp only; split <;> simp (maxDischargeDepth := 12) [Tends, k.1, k.2]

theorem tends_heatTimeout (e : EvapId) (k : Tends u s) : Tends u (heatTimeout e s) := by
  simp (maxDischargeDepth := 12) [heatTimeout, Tends, k.1, k.2]

theorem tends_enterRefreeze (z : ZoneId) (k : Tends u s) : Tends u (enterRefreeze z s) := by
  unfold enterRefreeze; split <;> simp (maxDischargeDepth := 12) [Tends, k.1, k.2]

theorem tends_refreezeTimeout (z : ZoneId) (k : Tends u s) : Tends u (refreezeTimeout z s) := by
  unfold refreezeTimeout; split <;> simp (maxDischargeDepth := 12) [Tends, k.1, k.2]

theorem tends_goodReport {α : Type} (kind : StationKind) (a : StationId) (r : Option α) {f : Image → α → Part → Part}
    (h : ∀ i x t, Tends t (f i x t)) (k : Tends u s) : Tends u (goodReport kind a r f s) := by
  have missed : Tends u (missInFlight s) := ⟨talks_missInFlight k.1, owns_missInFlight k.2⟩
  unfold goodReport; dsimp only; split
  · exact k
  · split
    · exact ⟨talks_clearFlight k.1, owns_clearFlight k.2⟩
    · split
      · split
        · exact tends_onlyIf (h _ _) ⟨talks_accountGood (talks_clearFlight k.1), owns_accountGood (owns_clearFlight k.2)⟩
        · exact missed
      · exact missed

theorem tends_takeDockReport (a : StationId) (body : List Byte) (k : Tends u s) : Tends u (takeDockReport a body s) :=
  tends_goodReport _ _ _ (fun _ _ _ => by simp [Tends]) k

theorem tends_takePortalReport (a : StationId) (body : List Byte) (k : Tends u s) : Tends u (takePortalReport a body s) :=
  tends_goodReport _ _ _ (fun _ _ _ => by simp [Tends]) k

theorem tends_takeEvapReport (a : StationId) (body : List Byte) (k : Tends u s) : Tends u (takeEvapReport a body s) :=
  tends_goodReport _ _ _ (fun _ _ _ => by simp [Tends]) k

theorem tends_takeProbeReport (a : StationId) (body : List Byte) (k : Tends u s) : Tends u (takeProbeReport a body s) :=
  tends_goodReport _ _ _ (fun _ _ _ => by simp [Tends]) k

theorem tends_takeReport (f : ReportFrame) (k : Tends u s) : Tends u (takeReport f s) := by
  obtain ⟨a, kind, body⟩ := f
  cases kind with
  | none => exact ⟨talks_missInFlight k.1, owns_missInFlight k.2⟩
  | dock => exact tends_takeDockReport a body k
  | portal => exact tends_takePortalReport a body k
  | evap => exact tends_takeEvapReport a body k
  | probe => exact tends_takeProbeReport a body k

end Handlers

end Sys2Proof.Machine
end

section
/-! The relay and the supply monitor (O53: R13, R14, R182) and the members of the batches (O56: R8, R154): what each command upholds. -/

namespace Sys2Proof.Machine

open Sys2Proof

/-! ### The relay under notices, raises and condition ends -/

/-- The relay stands as R182 asks of a part that operates. -/
def relaySet (s : Part) : Prop := s.alarms.relay = relayWanted s.alarms.records

/-- The relay and the supply monitor are right. -/
def relaySound (s : Part) : Prop := relayRight s ∧ supplyRight s

theorem relayRight_iff_relaySet {s : Part} (h : s.running = true) : relayRight s ↔ relaySet s := by
  simp [relayRight, relaySet, h]

@[simp] theorem setRelay_relay (t : AlarmTable) : (setRelay t).relay = relayWanted (setRelay t).records := rfl

theorem relaySet_createAlarm (k : AlarmKind) (x : Subject) (s : Part) : relaySet (createAlarm k x s) := by
  simp [relaySet, createAlarm]

theorem relaySet_repeatAlarm (a : Alarm) (s : Part) : relaySet (repeatAlarm a s) := by
  simp [relaySet, repeatAlarm]

theorem relaySet_removeAlarm (a : Alarm) (c : ClearCause) (s : Part) : relaySet (removeAlarm a c s) := by
  simp [relaySet, removeAlarm]

theorem relaySet_setAlarmState (b : NoticeBody) (a : Alarm) (st : AlarmState) (s : Part) :
    relaySet (notifyBoth b (modAlarms (setAlarmState a st) s)) := by
  simp [relaySet, setAlarmState]

/-- A raise sets the relay anew, or finds no room and leaves relay and records alone (R180). -/
theorem relaySet_raiseAlarm {k : AlarmKind} {x : Subject} {s : Part} (h : relaySet s) : relaySet (raiseAlarm k x s) := by
  obtain ⟨a, -, e⟩ | ⟨-, -, e⟩ | ⟨a, -, -, -, e⟩ | ⟨-, -, -, e⟩ := raiseAlarm_cases k x s <;> rw [e]
  · exact relaySet_repeatAlarm _ _
  · exact relaySet_createAlarm _ _ _
  · exact relaySet_createAlarm _ _ _
  · exact h

theorem relaySet_endCondition {k : AlarmKind} {x : Subject} {s : Part} (h : relaySet s) : relaySet (endCondition k x s) := by
  obtain e | ⟨a, -, -, -, e⟩ | ⟨a, -, -, -, e⟩ := endCondition_cases k x s <;> rw [e]
  · exact h
  · exact relaySet_setAlarmState (.alarmCleared a.number a.kind a.subject (some .clearedUnack) .conditionEnded) a .clearedUnack s
  · exact relaySet_removeAlarm _ _ _

theorem Talks.supply {s t : Part} (h : Talks s t) : t.supply = s.supply :=
  h.keeps (I := fun t => t.supply = s.supply) (fun _ _ q k => q.supply.trans k) (fun _ _ _ k => by simpa [Machine.notify] using k)
    (fun a x t k => ((raiseAlarm_only a x t).within .supply (by decide)).trans k)
    (fun a x t k => ((endCondition_only a x t).within .supply (by decide)).trans k) rfl

theorem Talks.relaySet {s t : Part} (h : Talks s t) (hs : relaySet s) : Machine.relaySet t :=
  h.keeps (I := Machine.relaySet) (fun _ _ q k => by rw [Machine.relaySet, q.alarms]; exact k)
    (fun _ _ _ k => by simpa [Machine.relaySet] using k)
    (fun _ _ _ k => relaySet_raiseAlarm k) (fun _ _ _ k => relaySet_endCondition k) hs

/-! ### What a command upholds -/

/-- The relay and the supply monitor stay right, and the members their zones' own. -/
structure Upholds (s t : Part) : Prop where
  relay : relaySound s → relaySound t
  members : Owns s t

theorem Upholds.refl (s : Part) : Upholds s s := ⟨id, .refl s⟩

/-- A change that keeps the supply monitor and a set relay keeps both right while the part operates. -/
theorem relaySound_of_running {s t : Part} (hr : s.running = true) (h : relaySet s → t.supply = s.supply ∧ relaySet t)
    (hs : relaySound s) : relaySound t := by
  obtain ⟨hsup, hrel⟩ := h ((relayRight_iff_relaySet hr).mp hs.1)
  have hr' : t.running = true := by rw [Part.running, hsup]; exact hr
  exact ⟨(relayRight_iff_relaySet hr').mpr hrel, by rw [supplyRight, Part.running, hsup]; exact hs.2⟩

/-- What a running part's handler keeps: the supply monitor, a relay that is set, and the members. -/
structure Steady (s t : Part) : Prop where
  relay : relaySet s → t.supply = s.supply ∧ relaySet t
  members : Owns s t

theorem Steady.refl (s : Part) : Steady s s := ⟨fun h => ⟨rfl, h⟩, .refl s⟩

theorem Steady.trans {s t u : Part} (h : Steady s t) (h' : Steady t u) : Steady s u :=
  ⟨fun k => ⟨(h'.relay (h.relay k).2).1.trans (h.relay k).1, (h'.relay (h.relay k).2).2⟩, h.members.trans h'.members⟩

theorem Tends.steady {s t : Part} (h : Tends s t) : Steady s t := ⟨fun k => ⟨h.1.supply, h.1.relaySet k⟩, h.2⟩

theorem Steady.upholds {s t : Part} (hr : s.running = true) (h : Steady s t) : Upholds s t :=
  ⟨relaySound_of_running hr h.relay, h.members⟩

theorem upholds_whileRunning {f : Part → Part} {s : Part} (h : ∀ t, Tends t (f t)) : Upholds s (whileRunning f s) := by
  unfold whileRunning; split
  · exact (h s).steady.upholds ‹_›
  · exact .refl s

theorem tends_renew (p : Port) (s : Part) : Tends s (renew p s) := by
  refine ⟨talks_renew (.refl s), ?_⟩
  unfold renew; dsimp only
  exact owns_onlyIf (fun t => owns_restorePort (.refl t)) (.of_eq (by simp) (by simp) (.refl s))

theorem tends_respond (p : Port) (code : Nat) (tag : Byte) (st : Status) (body : List Byte) (s : Part) :
    Tends s (respond p code tag st body s) :=
  ⟨talks_respond (.refl s), .of_eq (by simp [respond, superviseFromNow, send]) (by simp [respond, superviseFromNow, send]) (.refl s)⟩

theorem tends_answer (p : Port) (code : Nat) (tag : Byte) (r : Reply) : Tends r.1 (answer p code tag r) :=
  ⟨talks_answer (.refl r.1), by
    unfold answer; split
    · exact (tends_respond ..).2
    · exact .of_eq (by simp) (by simp) (.refl r.1)⟩

/-- A request upholds what its handler keeps steady: renewal and response only talk. -/
theorem upholds_serve {code : Nat} {role : Option Port} {p : Port} {tag : Byte} {h : Part → Reply} {s : Part}
    (hh : ∀ t, Steady t (h t).1) : Upholds s (serve code role p tag h s) := by
  by_cases hr : s.running = true
  · refine Steady.upholds hr ((tends_renew p s).steady.trans ?_)
    unfold serve; rw [if_pos hr]; dsimp only
    split
    · exact (tends_respond ..).steady
    · split
      · exact (tends_respond ..).steady
      · exact (hh _).trans (tends_answer ..).steady
  · rw [serve_stopped (by simpa using hr)]; exact .refl s

/-! ### The two requests that do not only talk -/

/-- A change of the alarm table and the notice queues alone is steady where the relay is set after it. -/
theorem steady_of_alarms {gs : List Group} {s t : Part} (h : Only gs s t)
    (c : (gs.contains .batches || gs.contains .cfg) = false) (c' : gs.contains .supply = false) (hr : relaySet s → relaySet t) :
    Steady s t :=
  ⟨fun k => ⟨h.within .supply (by simpa using c'), hr k⟩, .of_only h c (.refl s)⟩

theorem steady_ackAlarm (p : Port) (a : Alarm) (s : Part) : Steady s (ackAlarm p a s) := by
  unfold ackAlarm; split
  · exact steady_of_alarms (gs := [.alarms, .ports]) (by simp [covers]) rfl rfl fun _ => relaySet_setAlarmState _ _ _ _
  · exact steady_of_alarms (removeAlarm_only _ _ _) rfl rfl fun _ => relaySet_removeAlarm _ _ _
  · exact .refl s

theorem steady_countChange (s : Part) : Steady s (countChange s) := ⟨fun h => ⟨rfl, h⟩, .of_eq rfl rfl (.refl s)⟩

theorem steady_forList {α : Type} {f : α → Part → Part} (h : ∀ a t, Steady t (f a t)) (l : List α) (s : Part) :
    Steady s (forList l f s) := by
  induction l generalizing s with
  | nil => exact .refl s
  | cons a l ih => exact (h a s).trans (ih _)

theorem steady_onlyIf {b : Bool} {f : Part → Part} {s : Part} (h : ∀ t, Steady t (f t)) : Steady s (onlyIf b f s) := by
  unfold onlyIf; split
  · exact h s
  · exact .refl s

theorem steady_ackAll (p : Port) (s : Part) : Steady s (ackAll p s).1 := by
  unfold ackAll; dsimp only [reply_part]
  exact (steady_forList (steady_ackAlarm p) _ s).trans (steady_onlyIf steady_countChange)

theorem steady_ackOne (p : Port) (n r l : Nat) (s : Part) : Steady s (ackOne p n r l s).1 := by
  unfold ackOne
  repeat' split
  · exact .refl s
  · exact .refl s
  · exact .refl s
  · exact steady_onlyIf fun t => (steady_ackAlarm p _ t).trans (steady_countChange _)

theorem steady_fetchNotices (p : Port) (n : Nat) (s : Part) : Steady s (fetchNotices p n s).1 := by
  unfold fetchNotices; split
  · exact ⟨fun h => ⟨by simp, by simpa [relaySet] using h⟩, .of_eq (by simp) (by simp) (.refl s)⟩
  · exact .refl s

/-! ### Every command that is no supply event -/

theorem upholds_request {c : Instr} {s : State} {code : Nat} {role : Option Port} {p : Port} {tag : Byte} {h : Part → Reply}
    (e : exec c s = command (serve code role p tag h) s) (hh : ∀ t, Tends t (h t).1) :
    ∃ t, exec c s = .next t ∧ Upholds (cleared s) t.part := ⟨_, e, upholds_serve fun t => (hh t).steady⟩

theorem upholds_event {c : Instr} {s : State} {f : Part → Part} (e : exec c s = command (whileRunning f) s)
    (h : ∀ t, Tends t (f t)) : ∃ t, exec c s = .next t ∧ Upholds (cleared s) t.part := ⟨_, e, upholds_whileRunning h⟩

theorem tends_ite {c : Prop} [Decidable c] {s t : Part} (h : Tends s t) : Tends s (if c then t else s) := by
  split
  · exact h
  · exact .refl s

/-- Every request, report, poll and expiry upholds the relay and the members. -/
theorem exec_upholds (c : Instr) (hc : isSupplyEvent c = false) (s : State) : ∃ t, exec c s = .next t ∧ Upholds (cleared s) t.part := by
  cases c with
  | supplyFall | supplyRise | dipFilterExpiry | rideThroughLimit | warmRestart | coldStart | resetAssert | resetRelease
  | deviceTimeTick => cases hc
  | ackAlarm p tag body =>
    refine ⟨_, rfl, upholds_serve fun t => withBody_part (.refl t) fun x => ?_⟩
    cases x with
    | one n r l => exact steady_ackOne p n r l t
    | all => exact steady_ackAll p t
  | fetchNotices p tag body =>
    exact ⟨_, rfl, upholds_serve fun t => withBody_part (.refl t) fun n => steady_fetchNotices p n t⟩
  | unknownRequestCode p code tag body => exact upholds_request rfl fun t => .refl t
  | ping p tag body | readSettings p tag body | readStation p tag body | readStaging p tag body | readAlarms p tag body =>
    exact upholds_request rfl fun t => withBody_part (.refl t) fun _ => .refl t
  | readZone p tag body | readDefrost p tag body =>
    exact upholds_request rfl fun t => zoneRequest_part (.refl t) fun _ => .refl t
  | readDoor p tag body =>
    exact upholds_request rfl fun t => doorRequest_part (.refl t) fun _ => .refl t
  | readManifest p tag body =>
    exact upholds_request rfl fun t => manifestRequest_part (.refl t) fun _ _ => .refl t
  | readPallet p tag body =>
    exact upholds_request rfl fun t => palletRequest_part (.refl t) fun _ => .refl t
  | findPallets p tag body | readEvaporator p tag body =>
    exact upholds_request rfl fun t => withBody_part (.refl t) fun _ => inServiceOr_part (.refl t) (.refl t)
  | writeSettings p tag body =>
    exact upholds_request rfl fun t => withBody_part (.refl t) fun w => tends_takeWrite p tag w
  | lockout p tag body =>
    exact upholds_request rfl fun t => withBody_part (.refl t) fun x => tends_takeLockout p tag x.1 x.2
  | zoneBulk p tag body =>
    exact upholds_request rfl fun t => zoneRequest_part (.refl t) fun z => tends_zoneBulk z (.refl t)
  | zoneBulkRelease p tag body =>
    exact upholds_request rfl fun t => zoneRequest_part (.refl t) fun z => tends_zoneBulkRelease z (.refl t)
  | zonePulldown p tag body =>
    exact upholds_request rfl fun t => zoneRequest_part (.refl t) fun z => tends_zonePulldown z (.refl t)
  | zoneRelease p tag body =>
    exact upholds_request rfl fun t => zoneRequest_part (.refl t) fun z => tends_zoneRelease z (.refl t)
  | forceDefrost p tag body =>
    exact upholds_request rfl fun t => zoneRequest_part (.refl t) fun z => tends_forceDefrost z (.refl t)
  | cancelDefrost p tag body =>
    exact upholds_request rfl fun t => zoneRequest_part (.refl t) fun z => tends_cancelDefrost z (.refl t)
  | claimDoor p tag body =>
    exact upholds_request rfl fun t => doorRequest_part (.refl t) fun x =>
      dockOnly_part (.refl t) fun d => tends_claimDock x d (.refl t)
  | unclaimDoor p tag body =>
    exact upholds_request rfl fun t => doorRequest_part (.refl t) fun x =>
      dockOnly_part (.refl t) fun d => tends_unclaimDock x.2 d (.refl t)
  | holdDoor p tag body =>
    exact upholds_request rfl fun t => doorRequest_part (.refl t) fun x => tends_holdDoor x (.refl t)
  | unholdDoor p tag body =>
    exact upholds_request rfl fun t => doorRequest_part (.refl t) fun x => tends_unholdDoor x (.refl t)
  | sealDoor p tag body | reseal p tag body =>
    exact upholds_request rfl fun t => doorRequest_part (.refl t) fun _ =>
      dockOnly_part (.refl t) fun d => tends_inflate _ d (.refl t)
  | releaseDoor p tag body =>
    exact upholds_request rfl fun t => doorRequest_part (.refl t) fun x =>
      dockOnly_part (.refl t) fun d => tends_releaseDock x.2 d (.refl t)
  | openDoor p tag body =>
    exact upholds_request rfl fun t => doorRequest_part (.refl t) fun _ =>
      dockOnly_part (.refl t) fun d => tends_openDock d (.refl t)
  | closeDoor p tag body =>
    exact upholds_request rfl fun t => doorRequest_part (.refl t) fun x => tends_closeDoor x (.refl t)
  | manifestBegin p tag body =>
    exact upholds_request rfl fun t => manifestRequest_part (.refl t) fun x d =>
      tends_beginManifest x.2.1 x.2.2 d (.refl t)
  | manifestEntry p tag body =>
    exact upholds_request rfl fun t => manifestRequest_part (.refl t) fun x d => by
      split
      · exact tends_takeEntry _ d (.refl t)
      · exact .refl t
  | manifestCommit p tag body =>
    exact upholds_request rfl fun t => manifestRequest_part (.refl t) fun _ d => tends_commitManifest d (.refl t)
  | manifestClear p tag body =>
    exact upholds_request rfl fun t => manifestRequest_part (.refl t) fun _ d => tends_clearManifest d (.refl t)
  | move p tag body =>
    exact upholds_request rfl fun t => withBody_part (.refl t) fun x => tends_moveRequest x.1 x.2 (.refl t)
  | cancelMove p tag body =>
    exact upholds_request rfl fun t => palletRequest_part (.refl t) fun x => tends_cancelMove x (.refl t)
  | removePallet p tag body =>
    exact upholds_request rfl fun t => palletRequest_part (.refl t) fun x => tends_removeRecord x (.refl t)
  | defrostRequest p tag body =>
    exact upholds_request rfl fun t => withBody_part (.refl t) fun es => tends_defrostRequest es (.refl t)
  | setHeatSlots p tag body =>
    exact upholds_request rfl fun t => withBody_part (.refl t) fun n => tends_setHeatSlots n (.refl t)
  | bankWriteComplete m => exact upholds_event rfl fun t => tends_bankWriteEnds m (.refl t)
  | frameDiscarded p arrived => exact upholds_event rfl fun t => tends_feedPort p arrived (.refl t)
  | reportWindowExpiry => exact upholds_event rfl fun t => ⟨talks_missInFlight (.refl t), owns_missInFlight (.refl t)⟩
  | receiverGapTimeout p arrived ms =>
    exact upholds_event rfl fun t =>
      (tends_feedPort p arrived (.refl t)).quiet (quiet_modPort p _ _ fun _ => rfl) (by simp) (by simp)
  | badReport bytes =>
    refine upholds_event rfl fun t => ?_
    cases readReport bytes with
    | some f => exact tends_takeReport f (.refl t)
    | none => exact ⟨talks_missInFlight (.refl t), owns_missInFlight (.refl t)⟩
  | poll =>
    refine upholds_event rfl fun t => ?_
    split
    · exact ⟨talks_send (talks_modLoop (.refl t)), .of_eq rfl rfl (.refl t)⟩
    · exact .refl t
  | dockReport a body => exact upholds_event rfl fun t => tends_takeDockReport a body (.refl t)
  | portalReport a body => exact upholds_event rfl fun t => tends_takePortalReport a body (.refl t)
  | evapReport a body => exact upholds_event rfl fun t => tends_takeEvapReport a body (.refl t)
  | probeReport a body => exact upholds_event rfl fun t => tends_takeProbeReport a body (.refl t)
  | supervisionDeadline x | roundStart x | freshnessExpiry x | staleHoldOffExpiry x | warmDeadlineExpiry x
  | recoveryDeadlineExpiry x | zoneExposureIntervalExpiry x | bulkDeadlineExpiry x | travelDeadlineExpiry x
  | portalTravelDeadlineExpiry x | grantDeadlineExpiry x | doorExposureIntervalExpiry x | entryDeadlineExpiry x | moveExpiry x
  | backstopDeadlineExpiry x | overdueDeadlineExpiry x | gatherWindowExpiry x | pumpdownDeadlineExpiry x
  | suspensionDeadlineExpiry x =>
    exact upholds_event rfl fun t => tends_ite (by simp (maxDischargeDepth := 6) [Tends])
  | sealDeadlineExpiry d =>
    exact upholds_event rfl fun t => tends_ite (tends_sealTimeout d (.refl t))
  | openDeadlineExpiry d =>
    exact upholds_event rfl fun t => tends_ite (tends_openTimeout d (.refl t))
  | heatDeadlineExpiry e =>
    exact upholds_event rfl fun t => tends_ite (tends_heatTimeout e (.refl t))
  | dripDeadlineExpiry z =>
    exact upholds_event rfl fun t => tends_ite (tends_enterRefreeze z (.refl t))
  | refreezeMaximumExpiry z =>
    exact upholds_event rfl fun t => tends_ite (tends_refreezeTimeout z (.refl t))

/-! ### The supply events -/

theorem relaySound_stopped {s : Part} (hs : s.supply.service = .stopped) (hr : s.alarms.relay = false) : relaySound s := by
  simp [relaySound, relayRight, supplyRight, Part.running, hs, hr]

theorem membersOwn_none {s : Part} (h : s.batches = table 7 fun _ => none) : membersOwn s := by
  intro z b hb
  rw [h, table_get] at hb
  cases hb

theorem upholds_lostPart (s : Part) (u : Supply) (b1 b2 : Bank) : Upholds s (lostPart u b1 b2) :=
  ⟨fun _ => relaySound_stopped rfl rfl, fun _ => membersOwn_none rfl⟩

theorem upholds_coldStart (c : Cause) (s u : Part) (h : u.supply.resetAsserted = false) : Upholds s (coldStart c u) :=
  ⟨fun _ => ⟨rfl, fun _ => h, fun _ => .inl rfl⟩, fun _ => membersOwn_none rfl⟩

theorem upholds_modSupply {s : Part} {f : Supply → Supply} (hs : (f s.supply).service = s.supply.service)
    (hr : s.supply.resetAsserted = false → (f s.supply).resetAsserted = false)
    (hn : s.running = true → s.supply.state = .normal ∨ s.supply.state = .dipPending →
      (f s.supply).state = .normal ∨ (f s.supply).state = .dipPending) :
    Upholds s (modSupply f s) := by
  have run : (modSupply f s).running = s.running := by simp [modSupply, Part.running, hs]
  refine ⟨fun ⟨relay, reset, state⟩ => ⟨?_, fun k => hr (reset ?_), fun k => hn (run ▸ k) (state (run ▸ k))⟩,
    .of_eq rfl rfl (.refl s)⟩
  · rw [relayRight, run]; exact relay
  · rwa [← hs]

theorem upholds_suspendService (s : Part) {u : Part} (h : u.supply.resetAsserted = s.supply.resetAsserted)
    (hv : s.supply.service ≠ .stopped) (k : Owns s u) : Upholds s (suspendService u) :=
  ⟨fun ⟨_, reset, _⟩ => ⟨by simp [relayRight, suspendService, Part.running], fun _ => h.trans (reset hv),
    fun k => by simp [suspendService, Part.running] at k⟩, .of_eq rfl rfl k⟩

/-- The part of a warm restart before the heat slots in force, the relay and the pallets are taken up (R15, R17, R35). -/
def resumed (dip : Nat) (s : Part) : Part :=
  let c := warmCause s.cause s.time dip
  { s with
    supply := { s.supply with state := .normal, dipStart := none, service := .running }
    cause := c
    portPlant := warmPort s.time s.cfg.portPlant c s.portPlant
    portWarehouse := warmPort s.time s.cfg.portWarehouse c s.portWarehouse
    store := warmStore s.cfg s.store
    loop := warmLoop s.loop
    evaps := s.evaps.map (backToWait s.supply.suspendedAt) }

/-- The heat slots a warm restart takes into force (R35). -/
def resumedSlots (s : Part) : Nat := if s.portPlant.silent then s.cfg.defrost.fallbackSlots else s.heatCommanded

theorem warmRestart_eq (dip : Nat) (s : Part) :
    warmRestart dip s = updateAll (modAlarms setRelay (setInForce (resumedSlots (resumed dip s)) (resumed dip s))) := rfl

theorem resumed_supply (dip : Nat) (s : Part) :
    (resumed dip s).supply = { s.supply with state := .normal, dipStart := none, service := .running } := rfl

/-- A warm restart sets the relay from the records kept; the settlements after it only talk. -/
theorem upholds_warmRestart (dip : Nat) {s : Part} (h : s.supply.service = .suspended) : Upholds s (warmRestart dip s) := by
  rw [warmRestart_eq]
  set u := modAlarms setRelay (setInForce (resumedSlots (resumed dip s)) (resumed dip s)) with hu
  have supply : (updateAll u).supply = (resumed dip s).supply :=
    (talks_updateAll (.refl u)).supply.trans (talks_setInForce (.refl (resumed dip s))).supply
  have relay : relaySet (updateAll u) := (talks_updateAll (.refl u)).relaySet rfl
  have run : (updateAll u).running = true := by rw [Part.running, supply, resumed_supply]; rfl
  refine ⟨fun ⟨_, reset, _⟩ => ⟨(relayRight_iff_relaySet run).mpr relay, fun _ => ?_, fun _ => ?_⟩, owns_updateAll ?_⟩
  · rw [supply]; exact reset (by simp [h])
  · rw [supply]; exact .inl rfl
  · have kept : Owns s (setInForce (resumedSlots (resumed dip s)) (resumed dip s)) :=
      owns_setInForce (.of_eq rfl rfl (.refl s))
    exact .of_eq rfl rfl kept

theorem upholds_command {f : Part → Part} (h : ∀ t, Upholds t (f t)) (s : State) :
    ∃ t, command f s = .next t ∧ Upholds (cleared s) t.part := ⟨_, rfl, h _⟩

/-- Every supply event upholds the relay and the members; a cold start finds the reset input not asserted, or leaves it so. -/
theorem supplyEvent_upholds (c : Instr) (hc : isSupplyEvent c = true) (s : State) :
    ∃ t, exec c s = .next t ∧ Upholds (cleared s) t.part := by
  cases c with
  | supplyFall ms =>
    unfold exec execSupplyFall
    refine upholds_command (fun t => upholds_modSupply ?_ ?_ ?_) s <;> split <;> simp_all
  | supplyRise ms =>
    unfold exec execSupplyRise
    refine upholds_command (fun t => upholds_modSupply ?_ ?_ ?_) s <;> split <;> simp_all
  | dipFilterExpiry ms =>
    unfold exec execDipFilterExpiry
    refine upholds_command (fun t => ?_) s
    split
    · dsimp only; split
      · exact upholds_suspendService t rfl (by simp_all [Part.running]) (.of_eq rfl rfl (.refl t))
      · exact upholds_modSupply rfl id fun k => absurd k ‹_›
    · exact .refl t
  | rideThroughLimit ms =>
    unfold exec execRideThroughLimit
    refine upholds_command (fun t => ?_) s
    split
    · exact upholds_lostPart ..
    · exact .refl t
  | warmRestart ms =>
    unfold exec execWarmRestart
    refine upholds_command (fun t => ?_) s
    split
    · split
      · exact upholds_warmRestart _ ‹_›
      · exact upholds_modSupply rfl id fun _ _ => .inl rfl
    · exact .refl t
  | coldStart ms =>
    unfold exec execColdStart
    refine upholds_command (fun t => ?_) s
    dsimp only; split
    · exact .refl t
    · have clear : t.supply.resetAsserted = false := by simpa using ‹¬ t.supply.resetAsserted = true›
      repeat' split
      · exact upholds_coldStart _ _ _ clear
      · exact upholds_coldStart _ _ _ clear
      · exact .refl t
  | resetAssert =>
    unfold exec execResetAssert
    exact upholds_command (fun t => upholds_lostPart ..) s
  | resetRelease ms =>
    unfold exec execResetRelease
    refine upholds_command (fun t => ?_) s
    split
    · dsimp only; split
      · exact upholds_coldStart _ _ _ rfl
      all_goals exact upholds_modSupply (f := fun u => _) rfl (fun _ => rfl) fun _ => id
    · exact .refl t
  | deviceTimeTick =>
    unfold exec execDeviceTimeTick
    refine upholds_command (fun t => ?_) s
    split
    · exact .refl t
    · exact ⟨id, .of_eq rfl rfl (.refl t)⟩
  | _ => cases hc

/-! ### Every step -/

theorem step_upholds {s t : State} (h : step s = .next t) : Upholds s.part t.part := by
  unfold step at h; split at h
  · cases h; exact .refl _
  · next c rest _ =>
    obtain ⟨t', ht', up⟩ : ∃ t, exec c { s with pending := rest } = .next t ∧ Upholds (cleared s) t.part := by
      by_cases hc : isSupplyEvent c = true
      · exact supplyEvent_upholds c hc { s with pending := rest }
      · exact exec_upholds c (by simpa using hc) { s with pending := rest }
    rw [ht'] at h
    cases h
    exact ⟨up.relay, up.members⟩

/-- Settles O53: every command upholds the relay and the supply monitor. -/
theorem relayFollowsTheAlarms : Obligations.RelayFollowsTheAlarms :=
  fun _ _ hr hs h => (step_upholds h).relay ⟨hr, hs⟩

/-- Settles O56: every command upholds the members of the batches. -/
theorem batchMembersBelongToTheirZone : Obligations.BatchMembersBelongToTheirZone :=
  fun _ _ hm h => (step_upholds h).members hm

end Sys2Proof.Machine
end

section
/-! The first cold start (O14) and the clamping of a written record (O16: R4, R6). -/

namespace Sys2Proof.Machine

open Sys2Proof

/-! ### The part right after the first cold start -/

theorem reset_zone (z : ZoneId) : State.reset.part.zones.get z = coldZone blankSettings z := table_get _ z

theorem reset_dock (d : DoorId) : State.reset.part.docks.get d = coldDock blankSettings d := table_get _ d

theorem reset_evap (e : EvapId) : State.reset.part.evaps.get e = freshEvap (blankSettings.evaps.get e) 0 := table_get _ e

/-- Settles O14: each value of the reset state is the first value of its record on the blank configuration. -/
theorem resetIsTheFirstColdStart : Obligations.ResetIsTheFirstColdStart := by
  refine ⟨rfl, rfl, rfl, rfl, rfl, rfl, rfl, rfl, rfl, rfl, rfl, fun p => ?port, fun z => ?zone, fun d => ?dock, fun e => ?evap,
    fun a => ?station⟩
  case port => cases p <;> exact ⟨rfl, rfl, rfl, rfl⟩
  case zone =>
    have out : (blankSettings.zones.get z).inService = false := congrArg ZoneCfg.inService (table_get blankZone z)
    rw [reset_zone]
    unfold coldZone
    simp only [out]
    exact ⟨rfl, rfl, rfl, table_get _ z⟩
  case dock =>
    rw [reset_dock]
    exact ⟨rfl, rfl, rfl, congrArg Slot.state (table_get (fun _ => emptySlot) d)⟩
  case evap =>
    have blank : blankSettings.evaps.get e = blankEvap := table_get _ e
    rw [reset_evap, blank]
    exact ⟨rfl, by decide, by simp [freshEvap, backstopSeconds, blankEvap, addTime, maxTime]⟩
  case station => exact congrArg Station.link (table_get (fun _ => coldStation) a)

/-! ### Clamping -/

theorem heldNat_clampNat {lo hi x : Nat} (h : lo ≤ hi) : heldNat lo hi x (clampNat lo hi x) := by
  unfold heldNat clampNat; omega

theorem heldInt_clampInt {lo hi x : Int} (h : lo ≤ hi) : heldInt lo hi x (clampInt lo hi x) := by
  unfold heldInt clampInt; omega

theorem clampNat_clampNat {lo hi x : Nat} (h : lo ≤ hi) : clampNat lo hi (clampNat lo hi x) = clampNat lo hi x := by
  unfold clampNat; omega

theorem clampInt_clampInt {lo hi x : Int} (h : lo ≤ hi) : clampInt lo hi (clampInt lo hi x) = clampInt lo hi x := by
  unfold clampInt; omega

theorem clampZone_clampZone (c : ZoneCfg) : clampZone (clampZone c) = clampZone c := by
  simp only [clampZone, clampNat, clampInt, ZoneCfg.mk.injEq]
  refine ⟨trivial, ?_, ?_, ?_, ?_, ?_, ?_⟩ <;> omega

theorem clampHandling_clampHandling (c : HandlingCfg) : clampHandling (clampHandling c) = clampHandling c := by
  simp only [clampHandling, clampNat, clampInt, HandlingCfg.mk.injEq]
  refine ⟨?_, ?_, ?_⟩ <;> omega

theorem clampDefrost_clampDefrost (c : DefrostCfg) : clampDefrost (clampDefrost c) = clampDefrost c := by
  simp (disch := decide) only [clampDefrost, clampNat_clampNat, clampInt_clampInt]

theorem clampStaging_clampStaging (c : StagingCfg) : clampStaging (clampStaging c) = clampStaging c := by
  simp (disch := omega) only [clampStaging, clampNat_clampNat]

theorem clampClass_clampClass (c : ClassCfg) : clampClass (clampClass c) = clampClass c := by
  simp (disch := decide) only [clampClass, clampNat_clampNat, clampInt_clampInt]

theorem clampRecord_clampRecord (w : Record) : clampRecord (clampRecord w) = clampRecord w := by
  cases w with
  | zone z c => exact congrArg (Record.zone z) (clampZone_clampZone c)
  | handling d c => exact congrArg (Record.handling d) (clampHandling_clampHandling c)
  | defrost c => exact congrArg Record.defrost (clampDefrost_clampDefrost c)
  | staging c => exact congrArg Record.staging (clampStaging_clampStaging c)
  | cls k c => exact congrArg (Record.cls k) (clampClass_clampClass c)
  | station a c | probe t c => rfl
  | dock d c | portal q c | evap e c | rule k c | port p n => simp (disch := decide) only [clampRecord, clampNat_clampNat]

/-- The clamped values of a zone: the allowance is held in its range, then raised to the high offset (R6). -/
theorem clampZone_allowance (c : ZoneCfg) :
    ∃ m, heldInt 10 250 c.allowance m ∧ (m < (clampZone c).highOffset → (clampZone c).allowance = (clampZone c).highOffset)
      ∧ ((clampZone c).highOffset ≤ m → (clampZone c).allowance = m) :=
  ⟨_, heldInt_clampInt (by decide), fun h => max_eq_left h.le, fun h => max_eq_right h⟩

/-- Settles O16: field by field, each clamped value is held in the range of its field. -/
theorem clampingHoldsEveryFieldInRange : Obligations.ClampingHoldsEveryFieldInRange := by
  have nat {lo hi x : Nat} (h : lo ≤ hi := by decide) : heldNat lo hi x (clampNat lo hi x) := heldNat_clampNat h
  have int {lo hi x : Int} (h : lo ≤ hi := by decide) : heldInt lo hi x (clampInt lo hi x) := heldInt_clampInt h
  intro w
  refine ⟨clampRecord_clampRecord w, ?station, ?zone, ?probe, ?dock, ?handling, ?portal, ?evap, ?defrost, ?staging, ?cls, ?rule, ?port⟩
  case station | probe => rintro a c rfl; rfl
  case zone =>
    rintro z c rfl
    obtain ⟨m, held, below, above⟩ := clampZone_allowance c
    exact ⟨_, m, rfl, rfl, int, int, held, below, above, nat, nat, nat⟩
  case dock => rintro d c rfl; exact ⟨_, rfl, rfl, rfl, rfl, nat, nat⟩
  case handling => rintro d c rfl; exact ⟨_, rfl, nat, int, int⟩
  case portal => rintro q c rfl; exact ⟨_, rfl, rfl, rfl, rfl, rfl, nat, nat⟩
  case evap => rintro e c rfl; exact ⟨_, rfl, rfl, rfl, rfl, rfl, nat, nat⟩
  case defrost => rintro c rfl; exact ⟨_, rfl, nat, nat, nat, int, int, nat, nat, nat, nat, nat, nat⟩
  case staging =>
    rintro c rfl
    exact ⟨_, rfl, nat, nat (Nat.zero_le _), nat (Nat.zero_le _), nat, nat, nat, nat, rfl, nat, rfl⟩
  case cls => rintro k c rfl; exact ⟨_, rfl, nat, int, nat, nat⟩
  case rule => rintro k c rfl; exact ⟨_, rfl, rfl, rfl, rfl, rfl, nat⟩
  case port => rintro p i rfl; exact ⟨_, rfl, nat⟩

end Sys2Proof.Machine
end

section
/-! The end of a bank write (O18: R11) and the supply events of a dip (O11: R13, R16). -/

namespace Sys2Proof.Machine

open Sys2Proof

/-! ### The bank write -/

theorem Within.mono {gs hs : List Group} {s t : Part} (h : Within gs s t) (sub : gs ⊆ hs) : Within hs s t := fun g hg =>
  h g fun hm => hg (sub hm)

theorem Within.trans {gs : List Group} {s t u : Part} (h : Within gs s t) (h' : Within gs t u) : Within gs s u := fun g hg =>
  Group.same_trans (h g hg) (h' g hg)

theorem modPort_within (p : Port) (f : PortRec → PortRec) (s : Part) : Within [.ports] s (modPort p f s) := by
  intro g hg; cases g <;> simp_all [Group.same]

theorem store_within (s : Part) (x : Store) : Within [.store] s { s with store := x } := by
  intro g hg; cases g <;> simp_all [Group.same]

theorem startWaiting_within (s : Part) : Within [.store] s (startWaiting s) := (startWaiting_only s).within

/-- The frame that ends an operation: the response of its requester, where one waits (R11, R187). -/
def opResponse (op : WriteOp) (st : Status) : List Output :=
  match op.requester with
  | some q => [.response q.port ⟨q.code, q.tag, st, op.body⟩]
  | none => []

theorem respond_out (p : Port) (code : Nat) (tag : Byte) (st : Status) (body : List Byte) (s : Part) :
    (respond p code tag st body s).out = s.out ++ [.response p ⟨code, tag, st, body⟩] := by
  simp [respond, superviseFromNow]

theorem respond_within (p : Port) (code : Nat) (tag : Byte) (st : Status) (body : List Byte) (s : Part) :
    Within [.ports] s (respond p code tag st body s) := by
  refine Within.trans ?_ (modPort_within _ _ _)
  exact (send_within _ _).mono (by simp)

theorem completeOp_within (op : WriteOp) (st : Status) (s : Part) : Within [.ports] s (completeOp op st s) := by
  unfold completeOp; split
  · exact fun g _ => by cases g <;> simp [Group.same]
  · exact Within.trans (modPort_within _ _ _) (respond_within _ _ _ _ _ _)

theorem completeOp_out (op : WriteOp) (st : Status) (s : Part) : (completeOp op st s).out = s.out ++ opResponse op st := by
  unfold completeOp opResponse
  cases op.requester with
  | none => simp
  | some q => simp [respond_out]

theorem completeOp_freed {op : WriteOp} {q : Requester} (h : op.requester = some q) (st : Status) (s : Part) :
    ((completeOp op st s).port q.port).inService = none := by
  have sent (o : Output) (u : Part) (p : Port) : (send o u).port p = u.port p := by cases p <;> rfl
  simp only [completeOp, h, respond, superviseFromNow, modPort_port, sent]
  split <;> rfl

/-! ### The operation that waited -/

theorem startWaiting_idle {s : Part} (h : s.store.waiting = []) : startWaiting s = s := by
  simp [startWaiting, h]

theorem startWaiting_begins {s : Part} {op : WriteOp} {l : List WriteOp} (h : s.store.waiting = op :: l) :
    startWaiting s = { s with store := beginBankWrite s.cfg op { s.store with waiting := l } } := by
  simp [startWaiting, h]

/-- The bank that a write leaves alone, and what the writes after it go by. -/
theorem beginBankWrite_kept (cfg : Settings) (op : WriteOp) (st : Store) :
    (beginBankWrite cfg op st).lastBank = st.lastBank ∧ (beginBankWrite cfg op st).lastSeq = st.lastSeq
      ∧ (beginBankWrite cfg op st).waiting = st.waiting ∧ bankOf (beginBankWrite cfg op st) st.lastBank = bankOf st st.lastBank := by
  cases h : st.lastBank <;> simp [beginBankWrite, otherBank, setBank, bankOf, h]

/-- What every end of an operation does: its response, its port freed, and the operation that waited begun. -/
structure OpEnded (op : WriteOp) (st : Status) (s t : Part) : Prop where
  out : t.out = s.out ++ opResponse op st
  freed : ∀ q, op.requester = some q → (t.port q.port).inService = none
  lastBank : t.store.lastBank = s.store.lastBank
  lastSeq : t.store.lastSeq = s.store.lastSeq
  bank : bankOf t.store s.store.lastBank = bankOf s.store s.store.lastBank
  idle : s.store.waiting = [] → t.store.current = none ∧ t.store.waiting = []
  next : ∀ op' l, s.store.waiting = op' :: l → t.store.waiting = l ∧ t.store.current
    = some ⟨op', otherBank t.store.lastBank, succSeq t.store.lastSeq, s.cfg, false, false⟩
  within : Within [.store, .ports] s t

theorem opEnded (op : WriteOp) (st : Status) {s : Part} (hc : s.store.current = none) :
    OpEnded op st s (startWaiting (completeOp op st s)) := by
  have store : (completeOp op st s).store = s.store := completeOp_within op st s .store (by decide)
  have cfg : (completeOp op st s).cfg = s.cfg := completeOp_within op st s .cfg (by decide)
  have port (p : Port) : (startWaiting (completeOp op st s)).port p = (completeOp op st s).port p := by
    have kept := startWaiting_within (completeOp op st s) .ports (by decide)
    cases p
    · exact kept.1
    · exact kept.2
  have out : (startWaiting (completeOp op st s)).out = s.out ++ opResponse op st :=
    (startWaiting_only _).out.trans (completeOp_out op st s)
  have freed (q : Requester) (h : op.requester = some q) : ((startWaiting (completeOp op st s)).port q.port).inService = none := by
    rw [port]; exact completeOp_freed h st s
  have within : Within [.store, .ports] s (startWaiting (completeOp op st s)) :=
    Within.trans ((completeOp_within op st s).mono (by simp)) ((startWaiting_within _).mono (by simp))
  cases hw : s.store.waiting with
  | nil =>
    have same : (startWaiting (completeOp op st s)).store = s.store := by
      rw [startWaiting_idle (store ▸ hw : (completeOp op st s).store.waiting = []), store]
    exact ⟨out, freed, by rw [same], by rw [same], by rw [same], fun _ => by rw [same]; exact ⟨hc, hw⟩,
      fun op' l h => by simp [h] at hw, within⟩
  | cons op' l =>
    have begun : (startWaiting (completeOp op st s)).store = beginBankWrite s.cfg op' { s.store with waiting := l } := by
      rw [startWaiting_begins (store ▸ hw : (completeOp op st s).store.waiting = op' :: l), store, cfg]
    obtain ⟨bank, seq, waiting, kept⟩ := beginBankWrite_kept s.cfg op' { s.store with waiting := l }
    refine ⟨out, freed, by rw [begun]; exact bank, by rw [begun]; exact seq, by rw [begun]; exact kept, fun h => by simp [h] at hw,
      fun op'' l' h => ?_, within⟩
    obtain ⟨rfl, rfl⟩ := List.cons.inj (hw.symm.trans h)
    rw [begun, bank, seq]
    exact ⟨waiting, rfl⟩

/-! ### How a bank write ends -/

/-- The store with the bank written and checked. -/
def writtenStore (st : Store) (w : BankWrite) : Store :=
  { setBank st w.bank ⟨true, w.seq, w.copy⟩ with lastBank := w.bank, lastSeq := w.seq, current := none }

theorem writtenStore_bank (st : Store) (w : BankWrite) : bankOf (writtenStore st w) w.bank = ⟨true, w.seq, w.copy⟩ := by
  obtain ⟨_, b, _⟩ := w
  cases b <;> rfl

theorem writtenStore_waiting (st : Store) (w : BankWrite) : (writtenStore st w).waiting = st.waiting := by
  obtain ⟨_, b, _⟩ := w
  cases b <;> rfl

theorem bankWriteEnds_matched {s : Part} {w : BankWrite} (hw : s.store.current = some w) (hs : w.stopped = false) :
    bankWriteEnds true s = startWaiting (completeOp w.op w.op.status { s with store := writtenStore s.store w }) := by
  simp [bankWriteEnds, hw, hs, writtenStore]

theorem bankWriteEnds_first {s : Part} {w : BankWrite} (hw : s.store.current = some w) (hs : w.stopped = false)
    (h : w.second = false) :
    bankWriteEnds false s = { s with store := { s.store with current := some { w with second := true, copy := s.cfg } } } := by
  simp [bankWriteEnds, hw, hs, h]

theorem bankWriteEnds_second {s : Part} {w : BankWrite} (hw : s.store.current = some w) (hs : w.stopped = false)
    (h : w.second = true) :
    bankWriteEnds false s = startWaiting (completeOp w.op .storeFault
      { s with store := { s.store with current := none }, cause := { s.cause with status := .storeFault } }) := by
  simp [bankWriteEnds, hw, hs, h]

theorem exec_bankWriteComplete {s : State} (hr : s.part.running = true) (m : Bool) :
    exec (.bankWriteComplete m) s = .next { s with part := bankWriteEnds m (cleared s) } := by
  have run : (cleared s).running = true := hr
  show Host.Outcome.next { s with part := whileRunning (bankWriteEnds m) (cleared s) } = _
  rw [whileRunning, if_pos run]

theorem cleared_within (s : State) : Within [] s.part (cleared s) := fun g _ => by cases g <;> simp [Group.same, cleared]

/-- Settles O18: each case of the check ends, or repeats, the operation in progress. -/
theorem bankWriteEndsByItsCheck : Obligations.BankWriteEndsByItsCheck := by
  intro s w hr hw hs
  have hw' : (cleared s).store.current = some w := hw
  have from_cleared {gs : List Group} {t : Part} (h : Within gs (cleared s) t) : Within gs s.part t :=
    Within.trans ((cleared_within s).mono (by simp)) h
  refine ⟨?matched, fun first => ?first, fun second => ?second⟩
  case matched =>
    rw [exec_bankWriteComplete hr, bankWriteEnds_matched hw' hs]
    have ended := opEnded w.op w.op.status (s := { cleared s with store := writtenStore s.part.store w }) rfl
    have waits := writtenStore_waiting s.part.store w
    refine ⟨_, rfl, rfl, ended.out, ended.freed, ended.lastBank, ended.lastSeq, ended.bank.trans (writtenStore_bank ..),
      ⟨fun h => ended.idle (waits.trans h), fun op l h => ended.next op l (waits.trans h)⟩, ended.within .cause (by decide), ?_⟩
    exact from_cleared (Within.trans ((store_within _ _).mono (by simp)) ended.within)
  case first =>
    rw [exec_bankWriteComplete hr, bankWriteEnds_first hw' hs first]
    exact ⟨_, rfl, rfl, rfl, rfl, from_cleared (store_within _ _)⟩
  case second =>
    rw [exec_bankWriteComplete hr, bankWriteEnds_second hw' hs second]
    have ended := opEnded w.op .storeFault (s := { cleared s with
      store := { s.part.store with current := none }, cause := { s.part.cause with status := .storeFault } }) rfl
    refine ⟨_, rfl, rfl, ended.out, ended.within .cause (by decide), ended.lastBank, ended.lastSeq, ⟨ended.idle, ended.next⟩, ?_⟩
    refine from_cleared (Within.trans (t := { cleared s with
      store := { s.part.store with current := none }, cause := { s.part.cause with status := .storeFault } }) ?_
      (ended.within.mono (by simp)))
    intro g hg; cases g <;> simp_all [Group.same]

end Sys2Proof.Machine
end

section
/-! What the supply events do to a part that runs (O11: R13, R16). -/

namespace Sys2Proof.Machine

open Sys2Proof

/-! ### Changes of the supply monitor and the time alone -/

theorem modSupply_within (f : Supply → Supply) (s : Part) : Within [.supply] s (modSupply f s) := by
  intro g hg; cases g <;> simp_all [Group.same, modSupply]

theorem suspendService_within (s : Part) : Within [.supply, .store, .loop, .alarms, .ports] s (suspendService s) := by
  intro g hg; cases g <;> simp_all [Group.same, suspendService]

theorem suspendService_port (s : Part) (p : Port) : (suspendService s).port p = suspendPort (s.port p) := by cases p <;> rfl

/-- A bank write that a dip stops has lost its requester (R13). -/
theorem suspendStore_current {st : Store} {w : BankWrite} (h : (suspendStore st).current = some w) :
    w.stopped = true ∧ w.op.requester = none := by
  obtain ⟨w', -, rfl⟩ := Option.map_eq_some_iff.mp h
  exact ⟨rfl, rfl⟩

theorem dipLasted_eq {u : Supply} {d : Nat} (h : u.dipStart = some d) (n ms : Nat) : dipLasted u n ms = decide (d + n ≤ ms) := by
  simp [dipLasted, h]

/-! ### The commands, by their guards -/

theorem exec_tick_counts {s : State} (h : s.part.supply.service ≠ .stopped) :
    exec .deviceTimeTick s = .next { s with part := { cleared s with time := satInc maxTime s.part.time } } := by
  unfold exec execDeviceTimeTick command; dsimp only
  rw [if_neg h]; rfl

theorem exec_tick_lost {s : State} (h : s.part.supply.service = .stopped) :
    exec .deviceTimeTick s = .next { s with part := cleared s } := by
  unfold exec execDeviceTimeTick command; dsimp only
  rw [if_pos h]; rfl

theorem exec_dipFilter_lasted {s : State} {ms : Nat} (h : s.part.supply.state = .dipPending)
    (lasted : dipLasted s.part.supply dipFilterMs ms = true) (hr : s.part.running = true) :
    exec (.dipFilterExpiry ms) s = .next { s with
      part := suspendService (modSupply (fun u => { u with state := .rideThrough }) (cleared s)) } := by
  unfold exec execDipFilterExpiry command; dsimp only
  rw [if_pos ⟨h, lasted⟩]
  exact congrArg (fun x => Host.Outcome.next { s with part := x }) (if_pos hr)

theorem exec_dipFilter_short {s : State} {ms : Nat} (short : dipLasted s.part.supply dipFilterMs ms = false) :
    exec (.dipFilterExpiry ms) s = .next { s with part := cleared s } := by
  unfold exec execDipFilterExpiry command; dsimp only
  rw [if_neg fun guard => Bool.false_ne_true (short.symm.trans guard.2)]; rfl

/-- Settles O11: each supply event of a dip, by its guard. -/
theorem supplyDipSuspendsService : Obligations.SupplyDipSuspendsService := by
  intro ms s
  refine ⟨fun counts => ?tick, fun stopped => ?lost, ?fall, ?rise, fun d pending start lasted running => ?dip,
    fun d pending start short => ?short⟩
  case tick =>
    refine ⟨_, exec_tick_counts counts, rfl, rfl, rfl, fun g hg => ?_⟩
    cases g <;> simp_all [Group.same]
  case lost => exact ⟨_, exec_tick_lost stopped, rfl⟩
  case fall =>
    refine ⟨_, rfl, rfl, rfl, modSupply_within _ _, ?_, ?_, fun normal => ?_, fun other => ?_⟩ <;> simp only [modSupply]
    · split <;> rfl
    · split <;> rfl
    · rw [if_pos normal]; exact ⟨rfl, rfl⟩
    · rw [if_neg other]; exact ⟨rfl, rfl⟩
  case rise =>
    refine ⟨_, rfl, rfl, rfl, modSupply_within _ _, ?_, ?_, fun dip => ?_, fun other => ?_⟩ <;> simp only [modSupply]
    · split <;> rfl
    · split <;> rfl
    · rw [if_pos dip]
    · rw [if_neg other]; exact ⟨rfl, rfl⟩
  case dip =>
    have filtered : dipLasted s.part.supply dipFilterMs ms = true := by rw [dipLasted_eq start]; exact decide_eq_true lasted
    refine ⟨_, exec_dipFilter_lasted pending filtered running, rfl, rfl, rfl, rfl, rfl, fun p => ?port, rfl, rfl, rfl,
      fun w hw => suspendStore_current hw, rfl, rfl, rfl, ?within⟩
    case port =>
      rw [suspendService_port]
      cases p <;> exact ⟨rfl, rfl, rfl, rfl⟩
    case within =>
      refine Within.trans ((cleared_within s).mono (by simp)) ?_
      exact Within.trans ((modSupply_within _ _).mono (by simp)) (suspendService_within _)
  case short =>
    have filtered : dipLasted s.part.supply dipFilterMs ms = false := by
      rw [dipLasted_eq start]; exact decide_eq_false (Nat.not_le.mpr short)
    exact ⟨_, exec_dipFilter_short filtered, rfl⟩

end Sys2Proof.Machine
end

section
/-! What ends a run and begins it again (O12: R12, R13, R14, R18, R37, R59, R91, R147, R174). -/

namespace Sys2Proof.Machine

open Sys2Proof

/-! ### The banks of a cold start -/

section Banks

variable {b1 b2 : Bank}

theorem loadBanks_two (h1 : b1.valid = true) (h2 : b2.valid = true) (h : b2.seq = succSeq b1.seq) :
    loadBanks b1 b2 = ⟨b2.data, .good, .two, b2.seq, false⟩ := by simp only [loadBanks, h1, h2, Bool.and_self, if_true, h]

theorem loadBanks_one (h1 : b1.valid = true) (h2 : b2.valid = true) (h : b1.seq = succSeq b2.seq) (h' : b2.seq ≠ succSeq b1.seq) :
    loadBanks b1 b2 = ⟨b1.data, .good, .one, b1.seq, false⟩ := by
  simp only [loadBanks, h1, h2, Bool.and_self, if_true]
  rw [if_neg h', if_pos h]

/-- Bank 1 is taken where it is the only valid one, and of two valid banks that are not one apart. -/
theorem loadBanks_apart (h1 : b1.valid = true) (h : b2.valid = true → b2.seq ≠ succSeq b1.seq ∧ b1.seq ≠ succSeq b2.seq) :
    loadBanks b1 b2 = ⟨b1.data, .oneBank, .one, b1.seq, true⟩ := by
  unfold loadBanks
  cases h2 : b2.valid with
  | false => simp [h1]
  | true => simp [h1, h h2]

theorem loadBanks_other (h1 : b1.valid = false) (h2 : b2.valid = true) :
    loadBanks b1 b2 = ⟨b2.data, .oneBank, .two, b2.seq, true⟩ := by simp [loadBanks, h1, h2]

theorem loadBanks_none (h1 : b1.valid = false) (h2 : b2.valid = false) :
    loadBanks b1 b2 = ⟨blankSettings, .storeFault, .two, maxTime, true⟩ := by simp [loadBanks, h1, h2]

end Banks

theorem succSeq_lt {n : Nat} (h : n < 4294967295) : succSeq n = n + 1 := if_neg (Nat.ne_of_lt h)

/-! ### The part of a cold start -/

section Cold

variable (u : Supply) (b1 b2 : Bank) (c : Cause)

theorem coldPart_repair (h : (loadBanks b1 b2).repair = true) :
    (coldPart u b1 b2 c).store.current.map (fun w => (w.op.requester, w.copy)) = some (none, (loadBanks b1 b2).cfg) := by
  simp [coldPart, h, beginBankWrite, repairOp]

theorem coldPart_noRepair (h : (loadBanks b1 b2).repair = false) : (coldPart u b1 b2 c).store.current = none := by
  simp [coldPart, h]

end Cold

/-! ### The events that end a run and begin it again, by their guards -/

section Events

variable {s : State} {ms : Nat}

theorem qualified_eq {u : Supply} {q : Nat} (h : u.risen = some q) (least n ms : Nat) :
    qualified u least n ms = decide (max q least + n ≤ ms) := by
  simp [qualified, h]

theorem exec_rideThroughLimit (h : s.part.supply.state = .rideThrough) (lasted : dipLasted s.part.supply rideThroughMs ms = true) :
    exec (.rideThroughLimit ms) s = .next { s with
      part := lostPart { s.part.supply with state := .down, dipStart := none, resetWait := false } s.part.store.bank1
        s.part.store.bank2 } := by
  unfold exec execRideThroughLimit command; dsimp only
  rw [if_pos ⟨h, lasted⟩]

theorem exec_resetRelease_idle (h : s.part.supply.resetAsserted = false) :
    exec (.resetRelease ms) s = .next { s with part := cleared s } := by
  unfold exec execResetRelease command; dsimp only
  rw [if_neg (by simp [h])]; rfl

theorem exec_resetRelease_normal (h : s.part.supply.resetAsserted = true) (hn : s.part.supply.state = .normal) :
    exec (.resetRelease ms) s = .next { s with
      part := coldStart .coldReset (modSupply (fun u => { u with resetAsserted := false }) (cleared s)) } := by
  unfold exec execResetRelease command; dsimp only
  rw [if_pos h, hn]; rfl

theorem exec_resetRelease_dip (h : s.part.supply.resetAsserted = true)
    (hd : s.part.supply.state = .dipPending ∨ s.part.supply.state = .rideThrough) :
    exec (.resetRelease ms) s = .next { s with
      part := modSupply (fun u => { u with resetAsserted := false, resetWait := true }) (cleared s) } := by
  unfold exec execResetRelease command; dsimp only
  rw [if_pos h]
  obtain hd | hd := hd <;> rw [hd] <;> rfl

theorem exec_resetRelease_down (h : s.part.supply.resetAsserted = true) (hd : s.part.supply.state = .down) :
    exec (.resetRelease ms) s = .next { s with
      part := modSupply (fun u => { u with resetAsserted := false, released := ms }) (cleared s) } := by
  unfold exec execResetRelease command; dsimp only
  rw [if_pos h, hd]; rfl

theorem exec_coldStart_power (h : s.part.supply.resetAsserted = false) (hd : s.part.supply.state = .down)
    (hq : qualified s.part.supply s.part.supply.released coldQualifyMs ms = true) :
    exec (.coldStart ms) s = .next { s with part := coldStart .coldPower (cleared s) } := by
  unfold exec execColdStart command; dsimp only
  rw [if_neg (by simp [h]), if_pos ⟨hd, hq⟩]; rfl

theorem exec_coldStart_reset (h : s.part.supply.resetAsserted = false) (wait : s.part.supply.resetWait = true)
    (hd : s.part.supply.state = .rideThrough ∨ s.part.supply.state = .normal)
    (hq : qualified s.part.supply 0 qualifyMs ms = true) :
    exec (.coldStart ms) s = .next { s with part := coldStart .coldReset (cleared s) } := by
  have notDown : ¬ (s.part.supply.state = .down ∧ qualified s.part.supply s.part.supply.released coldQualifyMs ms = true) := by
    rintro ⟨down, -⟩
    obtain hd | hd := hd <;> simp [hd] at down
  unfold exec execColdStart command; dsimp only
  rw [if_neg (by simp [h]), if_neg notDown, if_pos ⟨wait, hd, hq⟩]; rfl

end Events

/-- Settles O12: the cases of the two banks, then each supply event by its guard. -/
theorem coldStartClearsEveryRecord : Obligations.ColdStartClearsEveryRecord := by
  constructor
  · intro b1 b2
    refine ⟨fun h1 h2 h => ?_, fun h1 h2 h h' => ?_, fun h1 h => ?_, fun h1 h2 => ?_, fun h1 h2 => ?_, rfl, fun n => succSeq_lt⟩
    · rw [loadBanks_two h1 h2 h]; exact ⟨rfl, rfl, rfl, rfl, rfl⟩
    · rw [loadBanks_one h1 h2 h h']; exact ⟨rfl, rfl, rfl, rfl, rfl⟩
    · rw [loadBanks_apart h1 h]; exact ⟨rfl, rfl, rfl, rfl, rfl⟩
    · rw [loadBanks_other h1 h2]; exact ⟨rfl, rfl, rfl, rfl, rfl⟩
    · rw [loadBanks_none h1 h2]; exact ⟨rfl, rfl, rfl, rfl, rfl⟩
  · intro ms s u x interval blocks cold lost
    have start (c : Cause) (v : Supply) (hv : v.state = .normal) :
        cold c { s with part := coldPart v s.part.store.bank1 s.part.store.bank2 c } := by
      refine ⟨rfl, hv, rfl, rfl, rfl, rfl, rfl, rfl, rfl, rfl, rfl, ⟨fun z => ?zone, fun y => ?probe, fun d => ?dock, fun q => ?portal,
        fun e => ?evap, fun a => ?station⟩, fun p => ?port, coldPart_repair _ _ _ _, coldPart_noRepair _ _ _ _⟩
      case zone =>
        have zone : (coldPart v s.part.store.bank1 s.part.store.bank2 c).zones.get z = coldZone x.cfg z := table_get _ z
        refine ⟨table_get _ z, fun h => ?_, fun h => ?_⟩ <;> rw [zone, coldZone] <;> simp only [h] <;> rfl
      case probe => exact table_get _ y
      case dock => exact ⟨table_get _ d, table_get _ d⟩
      case portal => exact table_get _ q
      case evap => exact table_get _ e
      case station => exact table_get _ a
      case port => cases p <;> exact ⟨rfl, rfl, rfl, rfl⟩
    refine ⟨fun d ride fell lasted => ?limit, ?assert, fun h hn => ?normal, fun h hd => ?dip, fun h hd => ?down, fun h => ?idle,
      fun q h hd rose held => ?power, fun q h wait hd rose held => ?reset⟩
    case limit =>
      have long : dipLasted s.part.supply rideThroughMs ms = true := by rw [dipLasted_eq fell]; exact decide_eq_true lasted
      exact ⟨_, exec_rideThroughLimit ride long, ⟨rfl, rfl, rfl, rfl, rfl, rfl⟩, rfl⟩
    case assert => exact ⟨_, rfl, ⟨rfl, rfl, rfl, rfl, rfl, rfl⟩, rfl, rfl⟩
    case normal => exact ⟨_, exec_resetRelease_normal h hn, start .coldReset _ rfl⟩
    case dip => exact ⟨_, exec_resetRelease_dip h hd, rfl, rfl, modSupply_within _ _⟩
    case down => exact ⟨_, exec_resetRelease_down h hd, rfl, rfl, modSupply_within _ _⟩
    case idle => exact ⟨_, exec_resetRelease_idle h, rfl⟩
    case power =>
      have full : qualified s.part.supply s.part.supply.released coldQualifyMs ms = true := by
        rw [qualified_eq rose]; exact decide_eq_true held
      exact ⟨_, exec_coldStart_power h hd full, start .coldPower _ rfl⟩
    case reset =>
      have full : qualified s.part.supply 0 qualifyMs ms = true := by
        rw [qualified_eq rose, Nat.max_zero]; exact decide_eq_true held
      exact ⟨_, exec_coldStart_reset h wait hd full, start .coldReset _ rfl⟩

end Sys2Proof.Machine
end

section
/-! What every request meets before its own checks (O3: R13, R14, R186; O4: R185, R200, R2). -/

namespace Sys2Proof.Machine

open Sys2Proof

/-! ### The forms of a request's handler -/

/-- The handler of a request reads the body first, and then, by what the body names, checks the zone, the door, or the dock door. -/
inductive Handles (c : Instr) (code : Nat) : (Part → Reply) → Prop
  | plain {α : Type} {x : Option α} {h : α → Part → Reply} (reads : bodyReads c = x.isSome) (door : namedDoor c = none)
      (zone : namedZone c = none) : Handles c code (withBody x h)
  | zone {body : List Byte} {h : ZoneId → Part → Reply} (reads : bodyReads c = (readZone body).isSome) (door : namedDoor c = none)
      (zone : namedZone c = readZone body) : Handles c code (zoneRequest body h)
  | door {α : Type} {x : Option α} {f : α → DoorRef} {h : α → Part → Reply} (reads : bodyReads c = x.isSome)
      (door : namedDoor c = x.map f) (zone : namedZone c = none) (other : code ∉ manifestCodes)
      (dock : code ∈ dockCodes → ∀ a q s, f a = .portal q → h a s = refuse .badRequest s) : Handles c code (doorRequest x f h)
  | manifest {α : Type} {x : Option α} {f : α → DoorRef} {h : α → DoorId → Part → Reply} (reads : bodyReads c = x.isSome)
      (door : namedDoor c = x.map f) (zone : namedZone c = none) (own : code ∈ manifestCodes) :
      Handles c code (manifestRequest x f h)

theorem dockOnly_portal {x : DoorRef} {q : PortalId} (hx : x = .portal q) (h : DoorId → Part → Reply) (s : Part) :
    dockOnly x h s = refuse .badRequest s := by subst hx; rfl

/-- Every request is served with its code, and its handler has one of the forms. -/
theorem exec_request {c : Instr} {p : Port} {code : Nat} {tag : Byte} (h : asRequest c = some (p, code, tag)) :
    ∃ role g, (∀ s, exec c s = command (serve code role p tag g) s) ∧ Handles c code g
      ∧ (role = roleOf code ∨ role = none ∧ ∃ b body, c = .unknownRequestCode p b tag body) := by
  cases c with
  | unknownRequestCode p b tag body =>
    cases h
    exact ⟨none, withBody (none : Option Unit) fun _ => refuse .badRequest, fun _ => rfl, .plain rfl rfl rfl, .inr ⟨rfl, b, body, rfl⟩⟩
  | ping | readSettings | writeSettings | lockout | readStation | move | cancelMove | removePallet | readPallet | findPallets
  | readStaging | defrostRequest | setHeatSlots | readEvaporator | ackAlarm | readAlarms | fetchNotices =>
    cases h
    exact ⟨_, _, fun _ => rfl, .plain rfl rfl rfl, .inl rfl⟩
  | readZone | zoneBulk | zoneBulkRelease | zonePulldown | zoneRelease | forceDefrost | cancelDefrost | readDefrost =>
    cases h
    exact ⟨_, _, fun _ => rfl, .zone rfl rfl rfl, .inl rfl⟩
  | claimDoor | unclaimDoor | releaseDoor =>
    cases h
    exact ⟨_, _, fun _ => rfl, .door rfl rfl rfl (by decide) fun _ _ _ s hq => dockOnly_portal hq _ s, .inl rfl⟩
  | sealDoor | reseal | openDoor =>
    cases h
    exact ⟨_, _, fun _ => rfl, .door rfl Option.map_id'.symm rfl (by decide) fun _ _ _ s hq => dockOnly_portal hq _ s, .inl rfl⟩
  | holdDoor | unholdDoor =>
    cases h
    exact ⟨_, _, fun _ => rfl, .door rfl rfl rfl (by decide) fun hc => absurd hc (by decide), .inl rfl⟩
  | readDoor | closeDoor =>
    cases h
    exact ⟨_, _, fun _ => rfl, .door rfl Option.map_id'.symm rfl (by decide) fun hc => absurd hc (by decide), .inl rfl⟩
  | manifestBegin | manifestEntry =>
    cases h
    exact ⟨_, _, fun _ => rfl, .manifest rfl rfl rfl (by decide), .inl rfl⟩
  | manifestCommit | manifestClear | readManifest =>
    cases h
    exact ⟨_, _, fun _ => rfl, .manifest rfl Option.map_id'.symm rfl (by decide), .inl rfl⟩
  | _ => cases h

/-- Every other command that is no supply event runs while the part operates. -/
theorem exec_event {c : Instr} (hc : isSupplyEvent c = false) (h : asRequest c = none) :
    ∃ f, ∀ s, exec c s = command (whileRunning f) s := by
  cases c with
  | bankWriteComplete | receiverGapTimeout | frameDiscarded | supervisionDeadline | roundStart | poll | reportWindowExpiry | badReport
  | dockReport | portalReport | evapReport | probeReport | freshnessExpiry | staleHoldOffExpiry | warmDeadlineExpiry
  | recoveryDeadlineExpiry | zoneExposureIntervalExpiry | bulkDeadlineExpiry | sealDeadlineExpiry | travelDeadlineExpiry
  | portalTravelDeadlineExpiry | openDeadlineExpiry | grantDeadlineExpiry | doorExposureIntervalExpiry | entryDeadlineExpiry
  | moveExpiry | backstopDeadlineExpiry | overdueDeadlineExpiry | gatherWindowExpiry | pumpdownDeadlineExpiry
  | heatDeadlineExpiry | dripDeadlineExpiry | refreezeMaximumExpiry | suspensionDeadlineExpiry => exact ⟨_, fun _ => rfl⟩
  | supplyFall | supplyRise | dipFilterExpiry | rideThroughLimit | warmRestart | coldStart | resetAssert | resetRelease
  | deviceTimeTick => cases hc
  | _ => cases h

/-! ### Refusals -/

section Refusals

variable {c : Instr} {s : State} {p : Port} {code : Nat} {tag : Byte} {role : Option Port} {g : Part → Reply} {st : Status}

/-- A request that ends with one frame on the renewed part reads that frame out. -/
theorem readsOut_of_send (e : ∀ s, exec c s = command (serve code role p tag g) s)
    (h : serve code role p tag g (cleared s) = send (.response p ⟨code, tag, st, []⟩) (renewed p s)) :
    readsOut c p code tag st [] s := by
  refine ⟨{ s with part := send (.response p ⟨code, tag, st, []⟩) (renewed p s) }, ?_, rfl, ?_, send_within _ _⟩
  · rw [← h]; exact e s
  · simp [answered, renewed, cleared]

theorem readsOut_refuse (e : ∀ s, exec c s = command (serve code role p tag g) s) (ht : takes p s) (hp : role ≠ some p.other)
    (h : g (renewed p s) = refuse st (renewed p s)) : readsOut c p code tag st [] s := by
  obtain ⟨running, free⟩ := ht
  have free' : ((cleared s).port p).inService = none := by cases p <;> exact free
  exact readsOut_of_send e (serve_refuse running free' hp h)

end Refusals

/-- Settles O3: what is no request runs only while the part operates; a request ends as `serve` says of a stopped part and a busy port. -/
theorem stoppedOrBusyTakesNothing : Obligations.StoppedOrBusyTakesNothing := by
  refine ⟨fun c s stopped hc => ?stopped, fun c s p code tag hc running busy => ?busy⟩
  case stopped =>
    have stopped' : (cleared s).running = false := stopped
    cases hr : asRequest c with
    | none =>
      obtain ⟨f, e⟩ := exec_event hc hr
      refine ⟨{ s with part := whileRunning f (cleared s) }, e s, rfl, ?_⟩
      simp [whileRunning, stopped']
    | some x =>
      obtain ⟨p, code, tag⟩ := x
      obtain ⟨role, g, e, -⟩ := exec_request hr
      exact ⟨{ s with part := serve code role p tag g (cleared s) }, e s, rfl, serve_stopped stopped'⟩
  case busy =>
    obtain ⟨role, g, e, -⟩ := exec_request hc
    have busy' : ((cleared s).port p).inService ≠ none := by cases p <;> exact busy
    exact readsOut_of_send e (serve_busy running busy')

/-! ### What a handler refuses by what the body names -/

section Named

variable {c : Instr} {code : Nat} {g : Part → Reply} {s : Part}

theorem inServiceOr_out {h : Part → Reply} {b : Bool} (hb : b = false) : inServiceOr b h s = refuse .unknownId s := by
  simp [inServiceOr, hb]

theorem inServiceOr_in {h : Part → Reply} {b : Bool} (hb : b = true) : inServiceOr b h s = h s := by simp [inServiceOr, hb]

theorem Handles.unread (k : Handles c code g) (h : bodyReads c = false) : g s = refuse .badRequest s := by
  have none_of {α : Type} {x : Option α} (reads : bodyReads c = x.isSome) : x = none := by
    rw [h] at reads; exact Option.isSome_eq_false_iff.mp reads.symm |> Option.isNone_iff_eq_none.mp
  cases k with
  | plain reads | door reads | manifest reads => rw [none_of reads]; rfl
  | zone reads => rw [zoneRequest, none_of reads]; rfl

theorem Handles.zone_out (k : Handles c code g) {z : ZoneId} (h : namedZone c = some z) (out : zoneInService s z = false) :
    g s = refuse .unknownId s := by
  cases k with
  | plain _ _ zone | door _ _ zone | manifest _ _ zone => rw [zone] at h; cases h
  | zone _ _ zone => rw [zoneRequest, ← zone, h]; exact inServiceOr_out out

theorem Handles.door_out (k : Handles c code g) {x : DoorRef} (h : namedDoor c = some x) (out : doorInService s x = false)
    (hc : code ∉ manifestCodes) : g s = refuse .unknownId s := by
  cases k with
  | plain _ door | zone _ door => rw [door] at h; cases h
  | door _ door =>
    obtain ⟨a, rfl, rfl⟩ := Option.map_eq_some_iff.mp (door.symm.trans h)
    exact inServiceOr_out out
  | manifest _ _ _ own => exact absurd own hc

theorem Handles.dock_out (k : Handles c code g) {d : DoorId} (h : namedDoor c = some (.dock d)) (out : dockInService s d = false) :
    g s = refuse .unknownId s := by
  cases k with
  | plain _ door | zone _ door => rw [door] at h; cases h
  | door _ door =>
    obtain ⟨a, rfl, hd⟩ := Option.map_eq_some_iff.mp (door.symm.trans h)
    exact inServiceOr_out (by rw [hd]; exact out)
  | manifest _ door =>
    obtain ⟨a, rfl, hd⟩ := Option.map_eq_some_iff.mp (door.symm.trans h)
    simp only [manifestRequest, withBody, hd, dockOnly]
    exact inServiceOr_out out

/-- A request of dock doors only does not take a portal (R71, Section 5.1). -/
theorem Handles.portal (k : Handles c code g) {q : PortalId} (h : namedDoor c = some (.portal q))
    (hc : code ∈ manifestCodes ∨ code ∈ dockCodes ∧ portalInService s q = true) : g s = refuse .badRequest s := by
  cases k with
  | plain _ door | zone _ door => rw [door] at h; cases h
  | door _ door _ other dock =>
    obtain ⟨a, rfl, hd⟩ := Option.map_eq_some_iff.mp (door.symm.trans h)
    obtain ⟨own, ins⟩ := hc.resolve_left other
    exact (inServiceOr_in (by rw [hd]; exact ins)).trans (dock own a q s hd)
  | manifest _ door =>
    obtain ⟨a, rfl, hd⟩ := Option.map_eq_some_iff.mp (door.symm.trans h)
    exact dockOnly_portal hd _ s

end Named

/-- A code that names no request belongs to no port (R198). -/
theorem roleOf_unknown {b : Byte} (h : codeUnknown b = true) : roleOf b.toNat = none := by
  simp only [codeUnknown, Bool.or_eq_true, decide_eq_true_eq] at h
  have not_mem {l : List Nat} (hl : ∀ n ∈ l, 1 ≤ n ∧ n ≤ 40) : b.toNat ∉ l := fun hm => by
    have := hl _ hm; omega
  rw [roleOf, if_neg (not_mem (by decide)), if_neg (not_mem (by decide))]

/-- Settles O4: the role check of `serve`, then the handler's checks of the body and of what it names. -/
theorem refusedRequestsChangeNothing : Obligations.RefusedRequestsChangeNothing := by
  intro c s p code tag hc ht
  obtain ⟨role, g, e, k, hrole⟩ := exec_request hc
  have cfg : (renewed p s).cfg = s.part.cfg := by simp [renewed, cleared]
  have dock (d : DoorId) : dockInService (renewed p s) d = dockInService s.part d := by rw [dockInService, cfg]; rfl
  have portal (q : PortalId) : portalInService (renewed p s) q = portalInService s.part q := by rw [portalInService, cfg]; rfl
  have zone (z : ZoneId) : zoneInService (renewed p s) z = zoneInService s.part z := by rw [zoneInService, cfg]; rfl
  have door (x : DoorRef) : doorInService (renewed p s) x = doorInService s.part x := by
    cases x
    · exact dock _
    · exact portal _
  have own (h : roleOf code ≠ some p.other) : role ≠ some p.other := by
    obtain rfl | ⟨rfl, -⟩ := hrole
    · exact h
    · simp
  refine ⟨fun wf other => ?other, fun h unread => ?unread, fun b body hb wf => ?unknown, fun h => ⟨fun x hx out hm => ?door,
    fun d hd out => ?outDock, fun q hq hm => ?aPortal, fun z hz out => ?zone⟩⟩
  case other =>
    have other' : role = some p.other := by
      obtain rfl | ⟨-, b, body, rfl⟩ := hrole
      · exact other
      · cases hc
        rw [roleOf_unknown (Bool.and_eq_true_iff.mp wf).1] at other
        cases other
    have free : ((cleared s).port p).inService = none := by cases p <;> exact ht.2
    exact readsOut_of_send e (serve_wrongRole ht.1 free other')
  case unread => exact readsOut_refuse e ht (own h) (k.unread unread)
  case unknown =>
    subst hb
    cases hc
    exact readsOut_refuse e ht (own (by rw [roleOf_unknown (Bool.and_eq_true_iff.mp wf).1]; simp)) (k.unread rfl)
  case door => exact readsOut_refuse e ht (own h) (k.door_out hx ((door x).trans out) hm)
  case outDock => exact readsOut_refuse e ht (own h) (k.dock_out hd ((dock d).trans out))
  case aPortal => exact readsOut_refuse e ht (own h) (k.portal hq (hm.imp_right fun m => ⟨m.1, (portal q).trans m.2⟩))
  case zone => exact readsOut_refuse e ht (own h) (k.zone_out hz ((zone z).trans out))

end Sys2Proof.Machine
end

section
/-! WRITE SETTINGS through its checks (O15: R5, R11, R1). -/

namespace Sys2Proof.Machine

open Sys2Proof

/-! ### The bindings (R1) -/

theorem mem_any_finRange {n : Nat} {f : Fin n → Bool} : (List.finRange n).any f = true ↔ ∃ i, f i = true := by
  simp [List.any_eq_true, List.mem_finRange]

theorem boundElse_iff {c : Settings} {a : StationId} {e : Elem} : boundElse c a e = true ↔ ∃ e', e' ≠ e ∧ e'.station c = some a := by
  simp only [boundElse, Bool.or_eq_true, mem_any_finRange, Bool.and_eq_true, bne_iff_ne, beq_iff_eq]
  constructor
  · rintro (((⟨d, h⟩ | ⟨q, h⟩) | ⟨v, h⟩) | ⟨t, h⟩)
    · exact ⟨.dock d, h.1.symm, h.2⟩
    · exact ⟨.portal q, h.1.symm, h.2⟩
    · exact ⟨.evap v, h.1.symm, h.2⟩
    · exact ⟨.probe t, h.1.symm, h.2⟩
  · rintro ⟨e', ne, h⟩
    cases e' with
    | dock d => exact .inl (.inl (.inl ⟨d, ne.symm, h⟩))
    | portal q => exact .inl (.inl (.inr ⟨q, ne.symm, h⟩))
    | evap v => exact .inl (.inr ⟨v, ne.symm, h⟩)
    | probe t => exact .inr ⟨t, ne.symm, h⟩

theorem stationTaken_iff {c : Settings} {a : StationId} {e : Elem} :
    stationTaken c a e = true
      ↔ (c.stations.get a).kind ∈ [StationKind.dock, .portal, .evap] ∧ ∃ e', e' ≠ e ∧ e'.station c = some a := by
  rw [stationTaken, Bool.and_eq_true, boundElse_iff]
  refine and_congr_left fun _ => ?_
  cases (c.stations.get a).kind <;> simp [servesOne]

theorem channelTaken_iff {c : Settings} {a : StationId} {ch : Fin 4} {t : ProbeId} :
    channelTaken c a ch t = true ↔ ∃ u, u ≠ t ∧ (c.probes.get u).station = some a ∧ (c.probes.get u).channel = ch := by
  simp only [channelTaken, mem_any_finRange, Bool.and_eq_true, bne_iff_ne, beq_iff_eq, and_assoc]

theorem bindingCheck_taken {c : Settings} {kind : StationKind} {e : Elem} {a : StationId} (h : stationTaken c a e = true) :
    bindingCheck c kind e (some a) = some .duplicate := by simp [bindingCheck, h]

theorem bindingCheck_kind {c : Settings} {kind : StationKind} {e : Elem} {a : StationId} (h : stationTaken c a e = false)
    (hk : (c.stations.get a).kind ≠ kind) : bindingCheck c kind e (some a) = some .badRequest := by simp [bindingCheck, h, hk]

/-- A binding another element holds: the station's, or for a probe the channel's (R1). -/
def bindingTaken (c : Settings) (w : Record) (e : Elem) (a : StationId) : Prop :=
  stationTaken c a e = true ∨ ∃ y x, w = .probe y x ∧ channelTaken c a x.channel y = true

theorem bindingTaken_iff {c : Settings} {w : Record} {e : Elem} {a : StationId} :
    bindingTaken c w e a ↔
      ((c.stations.get a).kind ∈ [StationKind.dock, .portal, .evap] ∧ ∃ e', e' ≠ e ∧ e'.station c = some a)
        ∨ ∃ y x, w = .probe y x ∧ ∃ y', y' ≠ y ∧ (c.probes.get y').station = some a ∧ (c.probes.get y').channel = x.channel := by
  simp only [bindingTaken, stationTaken_iff, channelTaken_iff]

/-- The status of a binding that breaks: one another element holds, then a station of another kind. -/
theorem structureCheck_binding {c : Settings} {w : Record} {e : Elem} {kind : StationKind} {a : StationId}
    (h : bindingOf w = some (e, kind, a)) :
    (bindingTaken c w e a → structureCheck c (keepLockout c w) = some .duplicate)
      ∧ (¬ bindingTaken c w e a → (c.stations.get a).kind ≠ kind → structureCheck c (keepLockout c w) = some .badRequest) := by
  have own (hp : ∀ y x, w ≠ .probe y x) : bindingTaken c w e a ↔ stationTaken c a e = true :=
    ⟨fun k => k.elim id fun ⟨y, x, hw, _⟩ => absurd hw (hp y x), .inl⟩
  cases w with
  | station | zone | handling | defrost | staging | cls | rule | port => cases h
  | dock d x | portal q x =>
    obtain ⟨b, hb, heq⟩ := Option.map_eq_some_iff.mp h
    cases heq
    rw [own fun _ _ => nofun]
    simp only [structureCheck, keepLockout, hb]
    exact ⟨bindingCheck_taken, fun free => bindingCheck_kind (Bool.eq_false_iff.mpr free)⟩
  | evap v x =>
    obtain ⟨b, hb, heq⟩ := Option.map_eq_some_iff.mp h
    cases heq
    rw [own fun _ _ => nofun]
    simp only [structureCheck, keepLockout, hb]
    exact ⟨fun taken => by rw [bindingCheck_taken taken],
      fun free other => by rw [bindingCheck_kind (Bool.eq_false_iff.mpr free) other]⟩
  | probe y x =>
    obtain ⟨b, hb, heq⟩ := Option.map_eq_some_iff.mp h
    cases heq
    have taken_iff : bindingTaken c (.probe y x) (.probe y) a
        ↔ (channelTaken c a x.channel y || stationTaken c a (.probe y)) = true := by
      unfold bindingTaken
      rw [Bool.or_eq_true, or_comm]
      refine or_congr_left ⟨fun ⟨y', x', hw, k⟩ => ?_, fun k => ⟨y, x, rfl, k⟩⟩
      cases hw
      exact k
    rw [taken_iff]
    simp only [structureCheck, keepLockout, probeBinding, hb]
    exact ⟨fun taken => if_pos taken, fun free other => by rw [if_neg free, if_pos other]⟩

/-! ### The checks in order (R5) -/

section Checks

variable {p : Port} {w : Written} {s : Part}

theorem writeRefused_role (h : writableFrom p w.record = false) : writeRefused p w s = some .notPermitted := by
  simp [writeRefused, firstSome, failing, h]

theorem writeRefused_unnamed (h : writableFrom p w.record = true) (hi : w.identified = false) :
    writeRefused p w s = some .badRequest := by
  simp [writeRefused, firstSome, failing, h, hi]

theorem writeRefused_checks (h : writableFrom p w.record = true) (hi : w.identified = true) :
    writeRefused p w s = firstSome [structureCheck s.cfg (keepLockout s.cfg w.record), topologyCheck s (keepLockout s.cfg w.record)] := by
  simp [writeRefused, firstSome, failing, h, hi]

theorem takeWrite_refused {tag : Byte} {st : Status} (h : writeRefused p w s = some st) : takeWrite p tag w s = refuse st s := by
  simp [takeWrite, h]

theorem takeWrite_accepted {tag : Byte} (h : writeRefused p w s = none) :
    takeWrite p tag w s = (acceptRecord p tag (keepLockout s.cfg w.record) s, none) := by
  simp [takeWrite, h]

end Checks

/-! ### What an accepted record changes -/

theorem upd_upd_const {α : Type} {n : Nat} (v : Vector α n) (i : Fin n) (x y : α) :
    upd (upd v i fun _ => y) i (fun _ => x) = upd v i fun _ => x := by
  simp [upd]

/-- The settings after a record is applied: the record, and nothing else (R5). A portal that leaves service is settled in its old zone
first, and its record written after. -/
theorem applyRecord_cfg (r : Record) (s : Part) : (applyRecord r s).cfg = writeCfg r s.cfg := by
  unfold applyRecord; dsimp only; split
  · exact (stationWritten_only _ _ _ _).within .cfg (by decide)
  · exact (zoneWritten_only _ _ _ _).within .cfg (by decide)
  · exact (probeWritten_only _ _ _ _).within .cfg (by decide)
  · exact (dockWritten_only _ _ _ _).within .cfg (by decide)
  · next q x =>
    unfold portalWritten; split
    · exact (portalEnters_only _ _).within .cfg (by decide)
    · split
      · have left := (portalLeaves_only q (putCfg (.portal q { x with zone := (s.cfg.portals.get q).zone }) s)).within .cfg (by decide)
        show writeCfg (.portal q x) _ = _
        rw [left]
        exact congrArg (fun v => { s.cfg with portals := v }) (upd_upd_const ..)
      · rfl
  · exact (evapWritten_only _ _ _ _).within .cfg (by decide)
  all_goals rfl

/-! ### The write operation (R11) -/

theorem acceptWrite_begins {op : WriteOp} {s : Part} (h : s.store.current = none) :
    acceptWrite op s = { s with store := beginBankWrite s.cfg op s.store } := by simp [acceptWrite, h]

theorem acceptWrite_waits {op : WriteOp} {s : Part} (h : s.store.current ≠ none) :
    acceptWrite op s = { s with store := { s.store with waiting := s.store.waiting ++ [op] } } := by
  unfold acceptWrite; split
  · exact absurd ‹_› h
  · rfl

theorem acceptWrite_cfg (op : WriteOp) (s : Part) : (acceptWrite op s).cfg = s.cfg := (acceptWrite_only op s).within .cfg (by decide)

/-- What an accepted record does: the settings replaced, and a write operation of them begun or queued. -/
structure Stores (op : WriteOp) (cfg : Settings) (s t : Part) : Prop where
  cfg : t.cfg = cfg
  out : t.out = s.out
  begun : s.store.current = none → t.store.current
    = some ⟨op, otherBank s.store.lastBank, succSeq s.store.lastSeq, t.cfg, false, false⟩ ∧ t.store.waiting = s.store.waiting
      ∧ bankOf t.store s.store.lastBank = bankOf s.store s.store.lastBank
  queued : s.store.current ≠ none → t.store = { s.store with waiting := s.store.waiting ++ [op] }

/-- The write operation of a part whose store stands as it stood. -/
theorem stores_acceptWrite {op : WriteOp} {s u : Part} (hs : u.store = s.store) (ho : u.out = s.out) :
    Stores op u.cfg s (acceptWrite op u) := by
  refine ⟨acceptWrite_cfg op u, (acceptWrite_only op u).out.trans ho, fun idle => ?_, fun busy => ?_⟩
  · obtain ⟨-, -, waiting, bank⟩ := beginBankWrite_kept u.cfg op s.store
    rw [acceptWrite_begins (by rw [hs]; exact idle), hs]
    exact ⟨rfl, waiting, bank⟩
  · rw [acceptWrite_waits (by rw [hs]; exact busy), hs]

/-- The write operation of an accepted record (R11): its response waits, with the record as stored. -/
def recordOp (p : Port) (tag : Byte) (k : Record) : WriteOp :=
  ⟨some ⟨p, tag, 3⟩, if clampRecord k = k then .ok else .okClamped, putRecord (clampRecord k)⟩

theorem acceptRecord_eq (p : Port) (tag : Byte) (k : Record) (s : Part) :
    acceptRecord p tag k s = acceptWrite (recordOp p tag k) (applyRecord (clampRecord k) s) := rfl

theorem stores_acceptRecord (p : Port) (tag : Byte) (k : Record) (s : Part) :
    Stores (recordOp p tag k) (writeCfg (clampRecord k) s.cfg) s (acceptRecord p tag k s) := by
  have applied := applyRecord_only (clampRecord k) s
  rw [acceptRecord_eq, ← applyRecord_cfg]
  exact stores_acceptWrite (applied.within .store (by decide)) applied.out

theorem acceptRecord_within (p : Port) (tag : Byte) (k : Record) (s : Part) :
    Within ([.cfg, .store, .loop, .probes, .slots] ++ defrostGroups) s (acceptRecord p tag k s) :=
  Within.trans (Within.mono (applyRecord_only (clampRecord k) s).within (by decide))
    (Within.mono (acceptWrite_only _ _).within (by decide))

theorem renewed_cfg (p : Port) (s : State) : (renewed p s).cfg = s.part.cfg := renew_cfg p _

theorem renewed_store (p : Port) (s : State) : (renewed p s).store = s.part.store := renew_store p _

theorem renewed_out (p : Port) (s : State) : (renewed p s).out = [] := renew_out p _

/-- A request whose response waits holds its port with its tag (R186). -/
theorem exec_wait {c : Instr} {s : State} {p : Port} {code : Nat} {tag : Byte} {role : Option Port} {g : Part → Reply} {t : Part}
    (e : ∀ s, exec c s = command (serve code role p tag g) s) (ht : takes p s) (hp : role ≠ some p.other)
    (hg : g (renewed p s) = (t, none)) :
    exec c s = .next { s with part := modPort p (fun x => { x with inService := some tag }) t } := by
  obtain ⟨running, free⟩ := ht
  have free' : ((cleared s).port p).inService = none := by cases p <;> exact free
  have served := serve_wait (s := cleared s) (tag := tag) (code := code) running free' hp hg
  rw [e]
  show Host.Outcome.next { s with part := serve code role p tag g (cleared s) } = _
  rw [served]

/-- Settles O15: the checks in order, then the record applied and its write operation begun or queued. -/
theorem writeSettingsReplacesTheRecord : Obligations.WriteSettingsReplacesTheRecord := by
  intro s p tag body w ht hw r k may verdict refuses
  have e (s : State) : exec (.writeSettings p tag body) s = command (serve 3 none p tag (withBody (some w) (takeWrite p tag))) s := by
    rw [← hw]; rfl
  have refused {st : Status} (h : writeRefused p w r = some st) : refuses st :=
    readsOut_refuse e ht (by simp) (takeWrite_refused h)
  have checks (h : may) : writeRefused p w r = verdict := writeRefused_checks h.1 h.2
  refine ⟨fun h => refused (writeRefused_role h), fun h hi => refused (writeRefused_unnamed h hi),
    fun st hm hv => refused ((checks hm).trans hv), fun e kind a hm hb => ?binding, fun hm hv => ?accepted⟩
  case binding =>
    intro full channel
    obtain ⟨taken, other⟩ := structureCheck_binding (c := r.cfg) hb
    have verdict_of {st : Status} (h : structureCheck r.cfg k = some st) : refuses st :=
      refused ((checks hm).trans (by simp only [verdict, h, firstSome]))
    refine ⟨fun h => verdict_of (taken (bindingTaken_iff.mpr h)), fun hf hc hk => verdict_of (other (fun h => ?_) hk)⟩
    exact (bindingTaken_iff.mp h).elim hf hc
  case accepted =>
    intro op
    have stores := stores_acceptRecord p tag k r
    have store : r.store = s.part.store := renewed_store p s
    refine ⟨_, exec_wait e ht (by simp) (takeWrite_accepted ((checks hm).trans hv)), rfl, ?out, ?cfg, by simp, fun idle => ?begun,
      fun busy => ?queued, ?within⟩
    case out => rw [modPort_out, stores.out]; exact renewed_out p s
    case cfg => rw [modPort_cfg, stores.cfg, ← renewed_cfg p s]
    case begun =>
      rw [modPort_store, modPort_cfg, ← store]
      exact stores.begun (by rw [store]; exact idle)
    case queued =>
      rw [modPort_store, ← store]
      exact stores.queued (by rw [store]; exact busy)
    case within =>
      exact Within.trans (acceptRecord_within p tag k r)
        (Within.mono (modPort_within _ _ _) (by decide : [.ports] ⊆ [.cfg, .store, .loop, .probes, .slots] ++ defrostGroups))

end Sys2Proof.Machine
end

section
/-! A warm restart (O13: R15, R17, R35, R196): the queues headed by START, and every pallet settled up to the restart. -/

namespace Sys2Proof.Machine

open Sys2Proof

/-! ### The head of a notice queue stays -/

/-- The first notice of both queues. -/
def headed (n : Notice) (s : Part) : Prop := ∀ p, (s.port p).queue.head? = some n

theorem headed_of_queues {n : Notice} {s t : Part} (h : ∀ p, (t.port p).queue = (s.port p).queue) (k : headed n s) : headed n t :=
  fun p => by rw [h]; exact k p

theorem offer_head {time : Nat} {b : NoticeBody} {r : PortRec} {n : Notice} (h : r.queue.head? = some n) :
    (offer time b r).queue.head? = some n := by
  unfold offer; split
  · simp [List.head?_append, h]
  · exact h

theorem headed_notify {n : Notice} {s : Part} (p : Port) (b : NoticeBody) (k : headed n s) : headed n (notify p b s) := by
  intro q
  by_cases hq : q = p
  · subst hq
    rw [notify_port]; exact offer_head (k q)
  · obtain rfl : q = p.other := by cases p <;> cases q <;> simp_all [Port.other]
    rw [notify_port_other]; exact k _

theorem headed_notifyBoth {n : Notice} {s : Part} (b : NoticeBody) (k : headed n s) : headed n (notifyBoth b s) :=
  headed_notify .warehouse b (headed_notify .plant b k)

theorem headed_modAlarms {n : Notice} {s : Part} (f : AlarmTable → AlarmTable) (k : headed n s) : headed n (modAlarms f s) :=
  headed_of_queues (fun p => by cases p <;> rfl) k

theorem headed_createAlarm {n : Notice} {s : Part} (a : AlarmKind) (x : Subject) (k : headed n s) : headed n (createAlarm a x s) :=
  headed_notifyBoth _ (headed_modAlarms _ k)

theorem headed_raiseAlarm {n : Notice} {s : Part} (a : AlarmKind) (x : Subject) (k : headed n s) : headed n (raiseAlarm a x s) := by
  obtain ⟨b, -, e⟩ | ⟨-, -, e⟩ | ⟨b, -, -, -, e⟩ | ⟨-, -, -, e⟩ := raiseAlarm_cases a x s <;> rw [e]
  · exact headed_notifyBoth _ (headed_modAlarms _ k)
  · exact headed_createAlarm _ _ k
  · exact headed_createAlarm _ _ (headed_notifyBoth _ (headed_modAlarms _ k))
  · exact headed_notifyBoth _ (headed_modAlarms _ k)

theorem headed_endCondition {n : Notice} {s : Part} (a : AlarmKind) (x : Subject) (k : headed n s) : headed n (endCondition a x s) := by
  obtain e | ⟨b, -, -, -, e⟩ | ⟨b, -, -, -, e⟩ := endCondition_cases a x s <;> rw [e]
  · exact k
  · exact headed_notifyBoth _ (headed_modAlarms _ k)
  · exact headed_notifyBoth _ (headed_modAlarms _ k)

/-- What only talks appends to a queue, or finds it full. -/
theorem Talks.headed {n : Notice} {s t : Part} (h : Talks s t) (k : headed n s) : Machine.headed n t :=
  h.keeps (I := Machine.headed n)
    (fun _ _ q => headed_of_queues fun p => by cases p; exacts [congrArg (·.1) q.plant, congrArg (·.1) q.warehouse])
    (fun p b _ => headed_notify p b) (fun a x _ => headed_raiseAlarm a x) (fun a x _ => headed_endCondition a x) k

/-! ### The stamps of the pallets -/

/-- Each pallet's identifier and the time it was updated last. -/
def stamps (s : Part) : List (Nat × Nat) := s.pallets.map fun p => (p.id, p.updated)

theorem stamps_of_eq {s t : Part} (h : t.pallets = s.pallets) : stamps t = stamps s := by rw [stamps, h, stamps]

theorem stamps_of_only {gs : List Group} {s t : Part} (h : Only gs s t) (c : gs.contains .pallets = false) : stamps t = stamps s :=
  stamps_of_eq (h.within .pallets (by simpa using c))

theorem stamps_modPallet {id : Nat} {f : Pallet → Pallet} (h : ∀ p, (f p).id = p.id ∧ (f p).updated = p.updated) (s : Part) :
    stamps (modPallet id f s) = stamps s := by
  simp only [stamps, modPallet, List.map_map]
  refine List.map_congr_left fun p _ => ?_
  by_cases hp : p.id = id <;> simp [hp, h p]

theorem stamps_warnCheck (id : Nat) (s : Part) : stamps (warnCheck id s) = stamps s := by
  unfold warnCheck; split
  · rfl
  · dsimp only; split
    · rw [stamps_of_only (raiseAlarm_only ..) rfl, stamps_of_only (notify_only ..) rfl]
      refine stamps_modPallet ?_ s; exact fun _ => ⟨rfl, rfl⟩
    · rfl

theorem stamps_dwellCheck (id : Nat) (s : Part) : stamps (dwellCheck id s) = stamps s := by
  unfold dwellCheck; split
  · rfl
  · split
    · rw [stamps_of_only (raiseAlarm_only ..) rfl]
      refine stamps_modPallet ?_ s; exact fun _ => ⟨rfl, rfl⟩
    · rfl

theorem stamps_endMove (id : Nat) (note : Option (MoveEnd → NoticeBody)) (s : Part) : stamps (endMove id note s) = stamps s := by
  unfold endMove; split
  · rfl
  · split
    · rfl
    · next p _ m _ =>
      have ended (t : Part) (ht : t.pallets = s.pallets) :
          stamps (modPallet id (fun p => { p with move := none, status := restingStatus s p.loc }) t) = stamps s := by
        rw [stamps_modPallet, stamps_of_eq ht]
        exact fun _ => ⟨rfl, rfl⟩
      have moved := ended (if m.reserved then { s with credits := s.credits - 1 } else s) (by split <;> rfl)
      dsimp only; split
      · refine Eq.trans (stamps_of_only (gs := [.zones, .portals, .ports]) ?_ rfl) moved
        simp [covers]
      · refine Eq.trans (stamps_of_only (gs := [.zones, .portals, .ports]) ?_ rfl) moved
        simp (maxDischargeDepth := 6) [covers]

theorem stamps_holdCheck (id : Nat) (s : Part) : stamps (holdCheck id s) = stamps s := by
  unfold holdCheck; split
  · rfl
  · dsimp only; split
    · have held (t : Part) (ht : stamps t = stamps s) (b : Bool) (note : Option (MoveEnd → NoticeBody)) :
          stamps (onlyIf b (endMove id note) t) = stamps s := by
        unfold onlyIf; split
        · rw [stamps_endMove, ht]
        · exact ht
      refine held _ ?_ _ _
      rw [stamps_of_only (raiseAlarm_only ..) rfl, stamps_of_only (notify_only ..) rfl]
      refine stamps_modPallet ?_ s; exact fun _ => ⟨rfl, rfl⟩
    · rfl

/-! ### An update of every pallet (R135) -/

/-- What an update asks for: distinct identifiers, and no stamp after the device time. -/
structure Stampable (s : Part) : Prop where
  distinct : ((stamps s).map (·.1)).Nodup
  past : ∀ x ∈ stamps s, x.2 ≤ s.time

/-- The stamp of one pallet, when the pallets of a list are updated. -/
def restamp (l : List Nat) (now : Nat) (x : Nat × Nat) : Nat × Nat := if x.1 ∈ l then (x.1, now) else x

theorem findPallet_none {s : Part} {id : Nat} (h : findPallet s id = none) : ∀ x ∈ stamps s, x.1 ≠ id := by
  intro x hx hid
  obtain ⟨p, hp, rfl⟩ := List.mem_map.mp hx
  exact absurd (List.find?_eq_none.mp h p hp) (by simpa using hid)

/-- An update gives the pallet it names the device time, or finds it updated already. -/
theorem stamps_updatePallet (id : Nat) {s : Part} (h : Stampable s) :
    stamps (updatePallet id s) = (stamps s).map (restamp [id] s.time) := by
  have kept (k : ∀ x ∈ stamps s, x.1 = id → x.2 = s.time) : stamps s = (stamps s).map (restamp [id] s.time) := by
    refine (List.map_id _).symm.trans (List.map_congr_left fun x hx => ?_)
    by_cases hid : x.1 = id
    · simp [restamp, hid, ← k x hx hid]; exact Prod.ext hid rfl
    · simp [restamp, hid]
  unfold updatePallet; split
  · exact kept fun x hx hid => absurd hid (findPallet_none ‹_› x hx)
  · next p hp =>
    obtain ⟨mem, rfl⟩ := findPallet_id hp
    split
    · refine kept fun x hx hid => ?_
      have same : x = (p.id, p.updated) := List.inj_on_of_nodup_map h.distinct hx (List.mem_map_of_mem mem) hid
      have past := h.past x hx
      subst same
      dsimp only at past ⊢
      omega
    · rw [stamps_dwellCheck, stamps_holdCheck, stamps_warnCheck]
      simp only [stamps, modPallet, List.map_map]
      refine List.map_congr_left fun x _ => ?_
      by_cases hx : x.id = p.id <;> simp [restamp, hx, updatedPallet]

theorem updatePallet_time (id : Nat) (s : Part) : (updatePallet id s).time = s.time :=
  (updatePallet_only id s).within .time (by decide)

theorem restamp_fst (l : List Nat) (now : Nat) (x : Nat × Nat) : (restamp l now x).1 = x.1 := by
  unfold restamp; split <;> rfl

theorem Stampable.update {id : Nat} {s : Part} (h : Stampable s) : Stampable (updatePallet id s) := by
  refine ⟨?_, fun x hx => ?_⟩
  · rw [stamps_updatePallet id h, List.map_map]
    simpa only [Function.comp_def, restamp_fst] using h.distinct
  · rw [stamps_updatePallet id h] at hx
    obtain ⟨y, hy, rfl⟩ := List.mem_map.mp hx
    rw [updatePallet_time]
    unfold restamp; split
    · exact le_rfl
    · exact h.past y hy

theorem restamp_cons (id : Nat) (l : List Nat) (now : Nat) (x : Nat × Nat) :
    restamp l now (restamp [id] now x) = restamp (id :: l) now x := by
  by_cases hid : x.1 = id <;> by_cases hl : x.1 ∈ l <;> simp_all [restamp]

theorem stamps_updateList (l : List Nat) {s : Part} (h : Stampable s) :
    stamps (forList l updatePallet s) = (stamps s).map (restamp l s.time) := by
  induction l generalizing s with
  | nil => exact ((List.map_congr_left fun x _ => by simp [restamp]).trans (List.map_id _)).symm
  | cons id l ih =>
    show stamps (forList l updatePallet (updatePallet id s)) = _
    rw [ih h.update, stamps_updatePallet id h, updatePallet_time, List.map_map]
    exact List.map_congr_left fun x _ => restamp_cons id l s.time x

/-- After an update of all, every pallet stands at the device time. -/
theorem stamps_updateAll {s : Part} (h : Stampable s) : stamps (updateAll s) = (stamps s).map fun x => (x.1, s.time) := by
  rw [updateAll, stamps_updateList _ h]
  refine List.map_congr_left fun x hx => ?_
  obtain ⟨p, hp, rfl⟩ := List.mem_map.mp hx
  exact if_pos (List.mem_map_of_mem hp)

/-! ### The restart as a whole -/

/-- The part of a warm restart before every pallet is updated: heat slots in force and relay taken up (R35, R182). -/
def takenUp (dip : Nat) (s : Part) : Part := modAlarms setRelay (setInForce (resumedSlots (resumed dip s)) (resumed dip s))

theorem warmRestart_takenUp (dip : Nat) (s : Part) : warmRestart dip s = updateAll (takenUp dip s) := rfl

theorem resumed_within (dip : Nat) (s : Part) :
    Within [.supply, .cause, .store, .loop, .evaps, .ports] s (resumed dip s) := by
  intro g hg; cases g <;> simp_all [Group.same, resumed]

theorem takenUp_only (dip : Nat) (s : Part) :
    Only (.heatSlots :: defrostGroups) (resumed dip s) (takenUp dip s) :=
  (Only.mono (setInForce_only _ _) rfl).trans (Only.mono (modAlarms_only _ _) rfl)

theorem warmRestart_only (dip : Nat) (s : Part) :
    Only ([.heatSlots, .pallets, .credits] ++ defrostGroups) (resumed dip s) (warmRestart dip s) :=
  (Only.mono (takenUp_only dip s) rfl).trans (Only.mono (updateAll_only _) rfl)

theorem warmRestart_headed (dip : Nat) (s : Part) : headed (startNotice (warmCause s.cause s.time dip)) (warmRestart dip s) := by
  have start : headed (startNotice (warmCause s.cause s.time dip)) (resumed dip s) := fun p => by cases p <;> rfl
  exact (talks_updateAll (.refl _)).headed (headed_modAlarms setRelay ((talks_setInForce (.refl _)).headed start))

theorem setInForce_heatInForce (n : Nat) (s : Part) : (setInForce n s).heatInForce = n :=
  ((arbiter_only _).within .heatSlots (by decide)).2.trans ((takeBack_only 16 { s with heatInForce := n }).within .heatSlots (by decide)).2

theorem warmRestart_heatInForce (dip : Nat) (s : Part) : (warmRestart dip s).heatInForce = resumedSlots (resumed dip s) := by
  have kept := ((updateAll_only (takenUp dip s)).within .heatSlots (by decide)).2
  exact kept.trans (setInForce_heatInForce _ _)

theorem stamps_takenUp (dip : Nat) (s : Part) : stamps (takenUp dip s) = stamps s := by
  have only := takenUp_only dip s
  exact (stamps_of_only only rfl).trans (stamps_of_eq rfl)

theorem takenUp_time (dip : Nat) (s : Part) : (takenUp dip s).time = s.time := (takenUp_only dip s).within .time (by decide)

/-- A warm restart updates every pallet to the time it restarts at. -/
theorem stamps_warmRestart (dip : Nat) {s : Part} (h : Stampable s) : stamps (warmRestart dip s) = (stamps s).map fun x => (x.1, s.time) := by
  have ready : Stampable (takenUp dip s) :=
    ⟨by rw [stamps_takenUp]; exact h.distinct, by rw [stamps_takenUp, takenUp_time]; exact h.past⟩
  rw [warmRestart_takenUp, stamps_updateAll ready, stamps_takenUp, takenUp_time]

theorem stampable_of_unique {s : Part} (h : palletsUnique s) (past : ∀ x ∈ s.pallets, x.updated ≤ s.time) : Stampable s := by
  refine ⟨?_, fun x hx => ?_⟩
  · rw [stamps, List.map_map]
    exact h.imp Nat.ne_of_lt
  · obtain ⟨p, hp, rfl⟩ := List.mem_map.mp hx
    exact past p hp

theorem exec_warmRestart {s : State} {ms q d : Nat} (ride : s.part.supply.state = .rideThrough)
    (susp : s.part.supply.service = .suspended) (fell : s.part.supply.dipStart = some d) (rose : s.part.supply.risen = some q)
    (held : q + 10 ≤ ms) (short : q + 10 - d ≤ 500) :
    exec (.warmRestart ms) s = .next { s with part := warmRestart (q + 10 - d) (cleared s) } := by
  have full : qualified s.part.supply 0 qualifyMs ms = true := by
    rw [qualified_eq rose, Nat.max_zero]; exact decide_eq_true held
  have dip : dipLength s.part.supply = q + 10 - d := by simp [dipLength, fell, rose, qualifyMs]
  unfold exec execWarmRestart command; dsimp only
  rw [if_pos ⟨ride, full, by rw [dip]; exact short⟩, if_pos susp, dip]
  rfl

/-- Settles O13: the restart is `resumed`, then what only talks, then the update of every pallet. -/
theorem warmRestartResumesWithRecordsKept : Obligations.WarmRestartResumesWithRecordsKept := by
  intro ms q d s ride susp fell rose held short unique past
  have only := warmRestart_only (q + 10 - d) (cleared s)
  have stamped := stamps_warmRestart (q + 10 - d) (stampable_of_unique (s := cleared s) unique past)
  have supply := only.within .supply (by decide)
  have loop := only.within .loop (by decide)
  have store := only.within .store (by decide)
  refine ⟨_, exec_warmRestart ride susp fell rose held short, rfl, only.out, ?state, ?running,
    only.within .cause (by decide), ?within,
    fun p => ⟨warmRestart_headed (q + 10 - d) (cleared s) p, ?port⟩, fun a => ?station, ?round, ?inFlight, ?bank1,
    ?bank2, ?waiting, ?current, warmRestart_heatInForce (q + 10 - d) (cleared s), ?ids, fun x hx => ?updated⟩
  case within =>
    refine Within.trans (Within.mono (cleared_within s) (by simp)) ?_
    show Within ([.supply, .cause, .store, .loop, .heatSlots, .pallets, .credits] ++ defrostGroups) _ _
    exact Within.trans (Within.mono (resumed_within _ _) (by decide)) (Within.mono only.within (by decide))
  case port =>
    have core := only.core p
    simp only [PortRec.core, Prod.mk.injEq] at core
    obtain ⟨silent, deadline, service, -, receiver⟩ := core
    rw [silent, deadline, service, receiver]
    cases p <;> exact ⟨rfl, rfl, rfl, rfl⟩
  case state => rw [supply]; rfl
  case running => rw [Part.running, supply]; rfl
  case station => rw [loop]; simp [resumed, warmLoop, cleared]
  case round | inFlight => rw [loop]; rfl
  case bank1 | bank2 | waiting | current => rw [store]; rfl
  case ids =>
    have ids := congrArg (List.map (·.1)) stamped
    simpa [stamps, Function.comp_def, cleared] using ids
  case updated =>
    have listed : (x.id, x.updated) ∈ stamps (warmRestart (q + 10 - d) (cleared s)) := List.mem_map_of_mem hx
    rw [stamped] at listed
    obtain ⟨y, -, hy⟩ := List.mem_map.mp listed
    exact (congrArg (·.2) hy).symm

end Sys2Proof.Machine
end

section
/-! LOCKOUT (O17: R10): the lockout stored, its two refusals, and how it takes hold of its element. -/

namespace Sys2Proof.Machine

open Sys2Proof

/-! ### Doors at rest

A door that is locked out has no pending request, so the heat arbiter and the batches, which answer pending requests and move portals
between zone modes, leave it as it is. -/

/-- A dock door without a pending request is left as it is, and so is a portal that is locked out without one. -/
structure Rests (s t : Part) : Prop where
  docks : ∀ d, (s.docks.get d).pending = none → t.docks.get d = s.docks.get d
  portals : ∀ q, (s.portals.get q).state = .lockedOut → (s.portals.get q).pending = none → t.portals.get q = s.portals.get q

theorem Rests.refl (s : Part) : Rests s s := ⟨fun _ _ => rfl, fun _ _ _ => rfl⟩

theorem Rests.trans {s t u : Part} (h : Rests s t) (h' : Rests t u) : Rests s u :=
  ⟨fun d k => (h'.docks d (by rw [h.docks d k]; exact k)).trans (h.docks d k),
    fun q l k => (h'.portals q (by rw [h.portals q l k]; exact l) (by rw [h.portals q l k]; exact k)).trans (h.portals q l k)⟩

theorem Rests.of_eq {s t : Part} (hd : t.docks = s.docks) (hp : t.portals = s.portals) : Rests s t :=
  ⟨fun _ _ => by rw [hd], fun _ _ _ => by rw [hp]⟩

theorem Rests.of_only {gs : List Group} {s t : Part} (h : Only gs s t) (c : (gs.contains .docks || gs.contains .portals) = false) :
    Rests s t := by
  simp only [Bool.or_eq_false_iff, List.contains_eq_mem, decide_eq_false_iff_not] at c
  exact .of_eq (h.within .docks c.1) (h.within .portals c.2)

theorem rests_onlyIf {s : Part} {b : Bool} {f : Part → Part} (h : b = true → Rests s (f s)) : Rests s (onlyIf b f s) := by
  unfold onlyIf; split
  · exact h ‹_›
  · exact .refl s

theorem rests_forEach {n : Nat} {f : Fin n → Part → Part} (h : ∀ i t, Rests t (f i t)) (s : Part) : Rests s (forEach f s) := by
  have fold (l : List (Fin n)) (t : Part) : Rests t (l.foldl (fun s i => f i s) t) := by
    induction l generalizing t with
    | nil => exact .refl t
    | cons i l ih => exact (h i t).trans (ih _)
  exact fold _ s

theorem rests_eitherOrder {b : Bool} {f g : Part → Part} (hf : ∀ t, Rests t (f t)) (hg : ∀ t, Rests t (g t)) (s : Part) :
    Rests s (eitherOrder b f g s) := by
  have drawn : Rests s { s with draws := s.draws + 1 } := .of_eq rfl rfl
  unfold eitherOrder; split
  · unfold unordered; dsimp only; split
    · exact (drawn.trans (hf _)).trans (hg _)
    · exact (drawn.trans (hg _)).trans (hf _)
  · exact (hf _).trans (hg _)

/-! ### Changes of one door -/

/-- Of the doors, no other one than the dock door changes. -/
structure OneDock (d : DoorId) (s t : Part) : Prop where
  docks : ∀ x, x ≠ d → t.docks.get x = s.docks.get x
  portals : t.portals = s.portals

/-- Of the doors, no other one than the portal changes. -/
structure OnePortal (q : PortalId) (s t : Part) : Prop where
  portals : ∀ x, x ≠ q → t.portals.get x = s.portals.get x
  docks : t.docks = s.docks

section OneDoor

variable {d : DoorId} {q : PortalId} {s t u : Part}

theorem OneDock.refl (d : DoorId) (s : Part) : OneDock d s s := ⟨fun _ _ => rfl, rfl⟩

theorem OnePortal.refl (q : PortalId) (s : Part) : OnePortal q s s := ⟨fun _ _ => rfl, rfl⟩

theorem OneDock.trans (h : OneDock d s t) (h' : OneDock d t u) : OneDock d s u :=
  ⟨fun x hx => (h'.docks x hx).trans (h.docks x hx), h'.portals.trans h.portals⟩

theorem OnePortal.trans (h : OnePortal q s t) (h' : OnePortal q t u) : OnePortal q s u :=
  ⟨fun x hx => (h'.portals x hx).trans (h.portals x hx), h'.docks.trans h.docks⟩

theorem oneDock_modDock (f : Dock → Dock) (s : Part) : OneDock d s (modDock d f s) := ⟨fun _ hx => modDock_get_ne f s hx, rfl⟩

theorem onePortal_modPortal (f : Portal → Portal) (s : Part) : OnePortal q s (modPortal q f s) :=
  ⟨fun _ hx => modPortal_get_ne f s hx, rfl⟩

theorem OneDock.of_only {gs : List Group} (h : Only gs s t) (c : (gs.contains .docks || gs.contains .portals) = false) :
    OneDock d s t := by
  simp only [Bool.or_eq_false_iff, List.contains_eq_mem, decide_eq_false_iff_not] at c
  exact ⟨fun x _ => by rw [h.within .docks c.1], h.within .portals c.2⟩

theorem OnePortal.of_only {gs : List Group} (h : Only gs s t) (c : (gs.contains .docks || gs.contains .portals) = false) :
    OnePortal q s t := by
  simp only [Bool.or_eq_false_iff, List.contains_eq_mem, decide_eq_false_iff_not] at c
  exact ⟨fun x _ => by rw [h.within .portals c.2], h.within .docks c.1⟩

theorem oneDock_trackDock {f : Part → Part} (h : OneDock d s (f s)) : OneDock d s (trackDock d f s) := by
  unfold trackDock onlyIf; dsimp only; split
  · exact h.trans (oneDock_modDock _ _)
  · exact h

theorem onePortal_trackPortal {f : Part → Part} (h : OnePortal q s (f s)) : OnePortal q s (trackPortal q f s) := by
  unfold trackPortal onlyIf; dsimp only; split
  · exact h.trans (onePortal_modPortal _ _)
  · exact h

theorem oneDock_endPendingDock (o : RequestEnd) (s : Part) : OneDock d s (endPendingDock d o s) := by
  unfold endPendingDock; split
  · exact .refl d s
  · exact (oneDock_modDock _ _).trans (.of_only (notify_only ..) rfl)

theorem onePortal_endPendingPortal (o : RequestEnd) (s : Part) : OnePortal q s (endPendingPortal q o s) := by
  unfold endPendingPortal; split
  · exact .refl q s
  · exact (onePortal_modPortal _ _).trans (.of_only (notify_only ..) rfl)

theorem oneDock_grantDock (s : Part) : OneDock d s (grantDock d s) := by
  unfold grantDock
  exact (oneDock_modDock _ s).trans (.of_only (onlyIf_only (notify_only ..)) rfl)

theorem onePortal_holdOpen (s : Part) : OnePortal q s (holdOpen q s) :=
  onePortal_trackPortal ((onePortal_modPortal _ _).trans (onePortal_endPendingPortal _ _))

theorem onePortal_takePortal (s : Part) : OnePortal q s (takePortal q s) :=
  (onePortal_modPortal _ s).trans (onePortal_modPortal _ _)

theorem OneDock.rests (h : OneDock d s t) (k : (s.docks.get d).pending ≠ none) : Rests s t :=
  ⟨fun x hx => h.docks x fun e => k (e ▸ hx), fun _ _ _ => by rw [h.portals]⟩

theorem OnePortal.rests (h : OnePortal q s t) (k : (s.portals.get q).state = .lockedOut → (s.portals.get q).pending ≠ none) :
    Rests s t :=
  ⟨fun _ _ => by rw [h.docks], fun x hl hx => h.portals x fun e => k (e ▸ hl) (e ▸ hx)⟩

end OneDoor

/-! ### The arbiter leaves doors at rest -/

theorem rests_reevaluateDock (d : DoorId) (s : Part) : Rests s (reevaluateDock d s) := by
  unfold reevaluateDock
  split
  · exact .refl s
  · next r hr =>
    refine OneDock.rests (d := d) ?_ (by simp [hr])
    split
    · exact .refl d s
    · exact oneDock_trackDock (oneDock_endPendingDock _ s)
    · refine OneDock.trans ?_ (.of_only (notify_only ..) rfl)
      refine OneDock.trans ?_ (oneDock_trackDock (oneDock_grantDock _))
      exact .of_only (onlyIf_only (suspendMembers_only 0 s)) rfl

theorem rests_reevaluatePortal (q : PortalId) (s : Part) : Rests s (reevaluatePortal q s) := by
  unfold reevaluatePortal
  split
  · exact .refl s
  · next r hr =>
    refine OnePortal.rests (q := q) ?_ fun _ => by simp [hr]
    split
    · exact .refl q s
    · exact onePortal_trackPortal ((onePortal_modPortal _ s).trans (onePortal_endPendingPortal _ _))
    · refine OnePortal.trans ?_ (.of_only (notify_only ..) rfl)
      refine OnePortal.trans ?_ (onePortal_trackPortal (onePortal_modPortal _ _))
      exact .of_only (onlyIf_only (suspendMembers_only _ s)) rfl

theorem rests_doorsLeftHeat (z : ZoneId) (s : Part) : Rests s (doorsLeftHeat z s) := by
  unfold doorsLeftHeat; split
  · exact rests_forEach (fun d t => rests_onlyIf fun _ => rests_reevaluateDock d t) s
  · exact rests_forEach (fun q t => rests_onlyIf fun _ => rests_reevaluatePortal q t) s

theorem rests_portalsEnterBulk (z : ZoneId) (s : Part) : Rests s (portalsEnterBulk z s) := by
  refine rests_forEach (fun q t => rests_onlyIf fun h => (onePortal_holdOpen t).rests fun locked => ?_) s
  simp [bulkHolds, locked] at h

theorem rests_portalsUnblock (z : ZoneId) (s : Part) : Rests s (portalsUnblock z s) := by
  refine rests_forEach (fun q t => rests_onlyIf fun h => (onePortal_takePortal t).rests fun locked => ?_) s
  simp [locked] at h

theorem rests_zoneLeftHeat (z : ZoneId) (s : Part) : Rests s (zoneLeftHeat z s) := by
  unfold zoneLeftHeat; split
  · refine Rests.trans ?_ (.of_only (modeNotice_only ..) rfl)
    exact Rests.trans (.of_only (setMode_only ..) rfl) (rests_portalsEnterBulk z _)
  · exact .refl s

theorem rests_endBatch (z : ZoneId) (c : BatchEnd) (s : Part) : Rests s (endBatch z c s) := by
  unfold endBatch; split
  · exact .refl s
  · next b _ =>
    dsimp only
    refine Rests.trans ?_ (.of_only (batchRule_only ..) rfl)
    refine Rests.trans ?_ (rests_onlyIf fun _ => rests_portalsUnblock z _)
    refine Rests.trans ?_ (rests_onlyIf fun _ => .of_only (zoneBatchEnded_only ..) rfl)
    refine Rests.trans ?_ (.of_only (putBatch_only ..) rfl)
    exact Rests.trans (.of_only (treatMembers_only ..) rfl) (.of_only (notify_only ..) rfl)

theorem rests_leaveHeatCheck (z : ZoneId) (s : Part) : Rests s (leaveHeatCheck z s) := by
  unfold leaveHeatCheck; split
  · exact .refl s
  · split
    · dsimp only
      refine Rests.trans ?_ (rests_eitherOrder (rests_zoneLeftHeat z) (rests_doorsLeftHeat z) _)
      split
      · exact Rests.trans (.of_only (modBatch_only ..) rfl) (rests_endBatch z _ _)
      · exact .of_only (enterDrip_only z s) rfl
    · exact .refl s

theorem rests_serveWaiting (e : EvapId) (s : Part) : Rests s (serveWaiting e s) := by
  unfold serveWaiting; split
  · refine Rests.trans ?_ (rests_leaveHeatCheck _ _)
    exact Rests.trans (.of_only (giveOutcome_only ..) rfl) (.of_only (raiseAlarm_only ..) rfl)
  · exact .of_only (modEvap_only ..) rfl

theorem rests_arbiterRounds (n : Nat) (s : Part) : Rests s (arbiterRounds n s) := by
  induction n generalizing s with
  | zero => exact .refl s
  | succ n ih =>
    unfold arbiterRounds; split
    · split
      · exact (rests_serveWaiting _ s).trans (ih _)
      · exact .refl s
    · exact .refl s

theorem rests_resumeCheck (z : ZoneId) (s : Part) : Rests s (resumeCheck z s) := by
  unfold resumeCheck; split
  · exact .refl s
  · split
    · exact Rests.trans (.of_only (modBatch_only ..) rfl) (rests_arbiterRounds 16 _)
    · exact .refl s

/-! ### How a lockout takes hold of a dock door and of a portal -/

/-- A dock door locked out (R69, R10). -/
def DockLocked (k : Dock) : Prop := k.state = .lockedOut ∧ k.pending = none ∧ k.sealOut = .deflate ∧ k.travelDl = none

/-- A portal locked out (R69, R10). -/
def PortalLocked (k : Portal) : Prop := k.state = .lockedOut ∧ k.pending = none ∧ k.openCommand = false ∧ k.travelDl = none

section Doors

variable {d : DoorId} {q : PortalId} {s : Part}

/-- Tracking adds at most a new revision. -/
theorem trackDock_get (f : Part → Part) :
    ∃ n, (trackDock d f s).docks.get d = { (f s).docks.get d with revision := n } := by
  unfold trackDock onlyIf; dsimp only; split
  · exact ⟨_, modDock_get d _ _⟩
  · exact ⟨_, rfl⟩

theorem trackPortal_get (f : Part → Part) :
    ∃ n, (trackPortal q f s).portals.get q = { (f s).portals.get q with revision := n } := by
  unfold trackPortal onlyIf; dsimp only; split
  · exact ⟨_, modPortal_get q _ _⟩
  · exact ⟨_, rfl⟩

theorem endPendingDock_get (o : RequestEnd) :
    ∃ m, (endPendingDock d o s).docks.get d = { s.docks.get d with pending := none, refusal := m } := by
  unfold endPendingDock; split
  · next h => exact ⟨_, by rw [← h]⟩
  · dsimp only
    rw [(notify_only ..).within .docks (by decide), modDock_get]
    exact ⟨_, rfl⟩

theorem endPendingPortal_get (o : RequestEnd) :
    (endPendingPortal q o s).portals.get q = { s.portals.get q with pending := none } := by
  unfold endPendingPortal; split
  · next h => rw [← h]
  · rw [(notify_only ..).within .portals (by decide), modPortal_get]

theorem lockOutDock_locked (d : DoorId) (s : Part) : DockLocked ((lockOutDock d s).docks.get d) := by
  obtain ⟨m, pend⟩ := endPendingDock_get (d := d) (s := modDock d enterLockedOut s) .cancelled
  obtain ⟨n, track⟩ := trackDock_get (d := d) (s := s) fun s => endPendingDock d .cancelled (modDock d enterLockedOut s)
  unfold lockOutDock
  rw [(onlyIf_only (endCondition_only ..)).within .docks (by decide), track, pend, modDock_get]
  exact ⟨rfl, rfl, rfl, rfl⟩

theorem lockOutPortal_locked (q : PortalId) (s : Part) : PortalLocked ((lockOutPortal q s).portals.get q) := by
  obtain ⟨n, track⟩ := trackPortal_get (q := q) (s := s) fun s => endPendingPortal q .cancelled (modPortal q portalLockedOut s)
  unfold lockOutPortal
  rw [(onlyIf_only (endCondition_only ..)).within .portals (by decide), track, endPendingPortal_get, modPortal_get]
  exact ⟨rfl, rfl, rfl, rfl⟩

theorem lockDock_locked (d : DoorId) (s : Part) : DockLocked ((lockDock d s).docks.get d) := by
  have locked := lockOutDock_locked d s
  rw [lockDock, (rests_resumeCheck 0 _).docks d locked.2.1]
  exact locked

theorem lockPortal_locked (q : PortalId) (s : Part) : PortalLocked ((lockPortal q s).portals.get q) := by
  have locked := lockOutPortal_locked q s
  rw [lockPortal, (rests_resumeCheck _ _).portals q locked.1 locked.2.1]
  exact locked

end Doors

/-! ### How a lockout takes hold of an evaporator -/

section Evaps

variable {e : EvapId} {s : Part}

theorem gatherMembers_get (es : List EvapId) (h : e ∉ es) (s : Part) : (gatherMembers es s).evaps.get e = s.evaps.get e := by
  unfold gatherMembers forList
  induction es generalizing s with
  | nil => rfl
  | cons x es ih =>
    have ne : e ≠ x := fun he => h (he ▸ List.mem_cons_self)
    exact (ih (fun hm => h (List.mem_cons_of_mem x hm)) _).trans (modEvap_get_ne _ _ ne)

/-- The batch rule gathers the zone's evaporators in demand, or no evaporator (R153). -/
theorem batchRule_cases (z : ZoneId) (s : Part) : (batchRule z s).evaps = s.evaps
    ∨ ∃ t : Part, t.evaps = s.evaps ∧ batchRule z s = gatherMembers (demanding s z) t := by
  unfold batchRule; dsimp only; split
  · split
    · exact .inr ⟨putBatch z (some (openedBatch s .normal .gather (demanding s z) _)) s, rfl, rfl⟩
    · exact .inl rfl
  · split
    · exact .inr ⟨putBatch z _ s, rfl, rfl⟩
    · exact .inl rfl

theorem batchRule_get (z : ZoneId) (h : (s.evaps.get e).sub ≠ .demand) : (batchRule z s).evaps.get e = s.evaps.get e := by
  have out : e ∉ demanding s z := fun hm => h (by simpa using (Bool.and_eq_true_iff.mp (List.mem_filter.mp hm).2).2)
  obtain same | ⟨t, same, gathers⟩ := batchRule_cases z s
  · rw [same]
  · rw [gathers, gatherMembers_get _ out, same]

theorem endBatch_emptied_get (z : ZoneId) (h : (s.evaps.get e).sub ≠ .demand) :
    (endBatch z .emptied s).evaps.get e = s.evaps.get e := by
  unfold endBatch; split
  · rfl
  · next b _ =>
    dsimp only [treatMembers]
    set t := onlyIf _ (portalsUnblock z) _ with ht
    have only : Only [.zones, .portals, .batches, .alarms, .ports] s t := by rw [ht]; simp [covers]
    have kept : t.evaps = s.evaps := only.within .evaps (by decide)
    rw [batchRule_get z (by rw [kept]; exact h), kept]

theorem leaveBatch_get (h : (s.evaps.get e).sub ≠ .demand) : (leaveBatch e s).evaps.get e = s.evaps.get e := by
  unfold leaveBatch; split
  · rfl
  · unfold onlyIf; dsimp only; split
    · exact endBatch_emptied_get (s := modBatch _ _ s) _ h
    · rfl

theorem dropDemand_get (e : EvapId) (s : Part) :
    (dropDemand e s).evaps.get e = { s.evaps.get e with demandTime := none, overdueDl := none } := by
  rw [dropDemand, endOverdue, (endCondition_only ..).within .evaps (by decide), modEvap_get, modEvap_get]

theorem lockEvap_idle (e : EvapId) (s : Part) : ((lockEvap e s).evaps.get e).sub = .idle
    ∧ ((lockEvap e s).evaps.get e).demandTime = none ∧ ((lockEvap e s).evaps.get e).overdueDl = none := by
  unfold lockEvap; dsimp only
  rw [leaveBatch_get (by rw [dropDemand_get, modEvap_get]; simp), dropDemand_get, modEvap_get]
  exact ⟨rfl, rfl, rfl⟩

/-- The frost index and the time of the last end, which an evaporator keeps when its lockout ends. -/
def frostRecord (k : Evap) : Nat × Nat := (k.frost, k.lastEnd)

theorem modEvap_frost {x : EvapId} {f : Evap → Evap} (h : ∀ k, frostRecord (f k) = frostRecord k) (s : Part) :
    frostRecord ((modEvap x f s).evaps.get e) = frostRecord (s.evaps.get e) := by
  by_cases hx : e = x
  · subst hx; rw [modEvap_get, h]
  · rw [modEvap_get_ne _ _ hx]

theorem gatherMembers_frost (es : List EvapId) (s : Part) :
    frostRecord ((gatherMembers es s).evaps.get e) = frostRecord (s.evaps.get e) := by
  unfold gatherMembers forList
  induction es generalizing s with
  | nil => rfl
  | cons x es ih =>
    refine (ih _).trans (modEvap_frost ?_ s)
    exact fun _ => rfl

theorem batchRule_frost (z : ZoneId) (s : Part) : frostRecord ((batchRule z s).evaps.get e) = frostRecord (s.evaps.get e) := by
  obtain same | ⟨t, same, gathers⟩ := batchRule_cases z s
  · rw [same]
  · rw [gathers, gatherMembers_frost, same]

theorem idleCheck_frost (x : EvapId) (s : Part) : frostRecord ((idleCheck x s).evaps.get e) = frostRecord (s.evaps.get e) := by
  unfold idleCheck; dsimp only; split
  · refine (batchRule_frost _ _).trans (modEvap_frost ?_ s)
    exact fun _ => rfl
  · refine modEvap_frost ?_ s
    exact fun _ => rfl

end Evaps

/-! ### How a lockout takes hold of a probe and of a station -/

theorem lockEffect_probe (x : ProbeId) (b : Bool) (s : Part) : (lockEffect (.probe x) b s).probes.get x = ⟨none, none, false⟩ := by
  have cleared (s : Part) : (clearProbe x s).probes.get x = ⟨none, none, false⟩ := modProbe_get x _ s
  cases b
  · show (recomputeOpt _ (clearProbe x s)).probes.get x = _
    rw [(recomputeOpt_only ..).within .probes (by decide), cleared]
  · show (recomputeOpt _ (endCondition _ _ (clearProbe x s))).probes.get x = _
    rw [(recomputeOpt_only ..).within .probes (by decide), (endCondition_only ..).within .probes (by decide), cleared]

theorem lockEffect_station (a : StationId) (b : Bool) (s : Part) :
    ((lockEffect (.station a) b s).loop.stations.get a).link = .offline
      ∧ ((lockEffect (.station a) b s).loop.stations.get a).miss = 0 ∧ a ∉ (lockEffect (.station a) b s).loop.round := by
  cases b
  · show ((stationBegins a s).loop.stations.get a).link = _ ∧ ((stationBegins a s).loop.stations.get a).miss = 0
      ∧ a ∉ (stationBegins a s).loop.round
    simp [stationBegins, coldStation]
  · show ((stationLeaves a s).loop.stations.get a).link = _ ∧ ((stationLeaves a s).loop.stations.get a).miss = 0
      ∧ a ∉ (stationLeaves a s).loop.round
    unfold stationLeaves; dsimp only
    rw [(endCondition_only ..).within .loop (by decide)]
    simp

theorem lockEffect_dockFree (d : DoorId) (s : Part) : ((lockEffect (.dock d) false s).docks.get d).state = .fault
    ∧ ((lockEffect (.dock d) false s).docks.get d).firstPending = true := by
  obtain ⟨n, track⟩ := trackDock_get (d := d) (s := s) (modDock d fun k => { k with state := .fault, firstPending := true, refusal := false })
  show ((trackDock d _ s).docks.get d).state = _ ∧ ((trackDock d _ s).docks.get d).firstPending = _
  rw [track, modDock_get]
  exact ⟨rfl, rfl⟩

theorem lockEffect_portalFree (q : PortalId) (s : Part) : ((lockEffect (.portal q) false s).portals.get q).state = .fault
    ∧ ((lockEffect (.portal q) false s).portals.get q).firstPending = true := by
  obtain ⟨n, track⟩ := trackPortal_get (q := q) (s := s) (modPortal q fun k => { k with state := .fault, firstPending := true })
  show ((trackPortal q _ s).portals.get q).state = _ ∧ ((trackPortal q _ s).portals.get q).firstPending = _
  rw [track, modPortal_get]
  exact ⟨rfl, rfl⟩

theorem lockEffect_evapFree (e : EvapId) (s : Part) :
    frostRecord ((lockEffect (.evap e) false s).evaps.get e) = frostRecord (s.evaps.get e) := by
  refine (idleCheck_frost e _).trans (modEvap_frost ?_ s)
  exact fun _ => rfl

/-! ### LOCKOUT through its checks -/

/-- The lockout as stored (R10). -/
def lockRecord (c : Settings) (t : LockTarget) (b : Bool) : Record := setLock b (readCfg c (lockKey t))

/-- The part with the lockout stored, and its effect where it changes an element in service. -/
def lockedPart (t : LockTarget) (b : Bool) (s : Part) : Part :=
  onlyIf ((lockState s.cfg t).1 && (lockState s.cfg t).2 != b) (lockEffect t b) (putCfg (lockRecord s.cfg t b) s)

/-- The write operation of a lockout (R11). -/
def lockOp (c : Settings) (p : Port) (tag : Byte) (t : LockTarget) (b : Bool) : WriteOp :=
  ⟨some ⟨p, tag, 4⟩, .ok, putRecord (lockRecord c t b)⟩

section Request

variable {p : Port} {tag : Byte} {t : LockTarget} {b : Bool} {s : Part}

theorem takeLockout_refused (hb : b = true) (was : lockState s.cfg t = (true, false)) (may : mayLock s t = false) :
    takeLockout p tag t b s = refuse .busyState s := by
  simp [takeLockout, hb, was, may]

theorem takeLockout_accepted (h : b = true → lockState s.cfg t = (true, false) → mayLock s t = true) :
    takeLockout p tag t b s = (acceptWrite (lockOp s.cfg p tag t b) (lockedPart t b s), none) := by
  have may : ¬ (b && (lockState s.cfg t).1 && !(lockState s.cfg t).2 && !mayLock s t) = true := by
    simp only [Bool.and_eq_true, Bool.not_eq_true']
    rintro ⟨⟨⟨hb, ins⟩, free⟩, no⟩
    exact Bool.false_ne_true (no.symm.trans (h hb (Prod.ext ins free)))
  unfold takeLockout; dsimp only
  rw [if_neg may]
  rfl

theorem lockedPart_only (t : LockTarget) (b : Bool) (s : Part) :
    Only ([.cfg, .loop, .probes] ++ defrostGroups) s (lockedPart t b s) :=
  (Only.mono (putCfg_only _ s) rfl).trans (Only.mono (onlyIf_only (lockEffect_only t b _)) rfl)

theorem lockedPart_cfg (t : LockTarget) (b : Bool) (s : Part) : (lockedPart t b s).cfg = writeCfg (lockRecord s.cfg t b) s.cfg :=
  (onlyIf_only (lockEffect_only t b _)).within .cfg (by decide)

/-- A lockout that changes nothing, or of an element out of service, is stored and no more. -/
theorem lockedPart_stored (h : (lockState s.cfg t).1 = false ∨ (lockState s.cfg t).2 = b) :
    lockedPart t b s = putCfg (lockRecord s.cfg t b) s := by
  obtain h | h := h <;> simp [lockedPart, onlyIf, h]

theorem lockedPart_effect (h : lockState s.cfg t = (true, !b)) :
    lockedPart t b s = lockEffect t b (putCfg (lockRecord s.cfg t b) s) := by
  cases b <;> simp [lockedPart, onlyIf, h]

end Request

theorem Stores.current_isSome {op : WriteOp} {c : Settings} {s t : Part} (h : Stores op c s t) : t.store.current.isSome = true := by
  cases hc : s.store.current with
  | none => rw [(h.begun hc).1]; rfl
  | some w => rw [h.queued (by simp [hc])]; simp [hc]

/-- Settles O17: the two refusals, then the lockout stored and, where it changes an element in service, its effect by the element. -/
theorem lockoutIsStoredAndTakesHold : Obligations.LockoutIsStoredAndTakesHold := by
  intro s tag body e b ht hbody r was
  have served (s : State) : exec (.lockout .plant tag body) s
      = command (serve 4 (some .plant) .plant tag (withBody (some (e, b)) fun x => takeLockout .plant tag x.1 x.2)) s := by
    rw [← hbody]; rfl
  refine ⟨fun hb free busy => readsOut_refuse served ht (by decide) (takeLockout_refused hb free busy), fun may => ?_⟩
  set v := lockedPart e b r with hv
  have cfg : v.cfg = writeCfg (lockRecord s.part.cfg e b) s.part.cfg := by rw [hv, lockedPart_cfg, renewed_cfg]
  have stores : Stores (lockOp r.cfg .plant tag e b) v.cfg r (acceptWrite (lockOp r.cfg .plant tag e b) v) :=
    stores_acceptWrite ((lockedPart_only e b r).within .store (by decide)) (lockedPart_only e b r).out
  have written := (acceptWrite_only (lockOp r.cfg .plant tag e b) v).within
  refine ⟨_, exec_wait served ht (by decide) (takeLockout_accepted may), rfl, ?out, ?cfg, rfl, ?current, fun same => ?within,
    fun changed => ?effect⟩
  case out => rw [modPort_out, stores.out]; exact renewed_out .plant s
  case cfg => rw [modPort_cfg, stores.cfg, cfg]; rfl
  case current => rw [modPort_store]; exact stores.current_isSome
  case within =>
    have stored : v = putCfg (lockRecord r.cfg e b) r := lockedPart_stored same
    have put : Within [.cfg, .store, .ports] r v := by rw [stored]; exact Within.mono (putCfg_only _ r).within (by decide)
    exact Within.trans put (Within.trans (Within.mono written (by decide)) (Within.mono (modPort_within _ _ _) (by decide)))
  case effect =>
    have effect : v = lockEffect e b (putCfg (lockRecord r.cfg e b) r) := lockedPart_effect changed
    dsimp only [modPort]
    rw [written .docks (by decide), written .portals (by decide), written .evaps (by decide), written .probes (by decide),
      written .loop (by decide), effect]
    refine ⟨fun d hd => ?dock, fun q hq => ?portal, fun x hx => ?evap, fun x hx => ?probe, fun a ha => ?station⟩
    case dock =>
      subst hd
      exact ⟨fun hb => by subst hb; exact lockDock_locked d _, fun hb => by subst hb; exact lockEffect_dockFree d _⟩
    case portal =>
      subst hq
      exact ⟨fun hb => by subst hb; exact lockPortal_locked q _, fun hb => by subst hb; exact lockEffect_portalFree q _⟩
    case evap =>
      subst hx
      refine ⟨fun hb => by subst hb; exact lockEvap_idle x _, fun hb => ?_⟩
      subst hb
      exact Prod.mk.inj (lockEffect_evapFree x _)
    case probe => subst hx; exact lockEffect_probe x b _
    case station => subst ha; exact lockEffect_station a b _

end Sys2Proof.Machine
end

section
/-! What the requests and the deadlines of the zones have in common, and the three deadlines that raise an alarm (O27: R42, R45, R46). -/

namespace Sys2Proof.Machine

open Sys2Proof

/-! ### Expiries and requests that name a zone -/

/-- An expiry of a part that operates acts on the part as it finds it (R13, R14). -/
theorem exec_running {c : Instr} {s : State} {f : Part → Part} (e : exec c s = command (whileRunning f) s)
    (running : s.part.running = true) : exec c s = .next { s with part := f (cleared s) } := by
  have running' : (cleared s).running = true := running
  rw [e]
  show Host.Outcome.next { s with part := whileRunning f (cleared s) } = _
  rw [whileRunning, if_pos running']

section ZoneRequests

variable {c : Instr} {s : State} {p : Port} {code : Nat} {tag : Byte} {role : Option Port} {body : List Byte}
  {h : ZoneId → Part → Reply} {z : ZoneId} {st : Status} {b : List Byte} {t : Part}

theorem zoneRequest_in (hb : readZone body = some z) (ins : zoneInService s.part z = true) :
    zoneRequest body h (renewed p s) = h z (renewed p s) := by
  rw [zoneRequest, hb]
  exact inServiceOr_in (by rw [zoneInService, renewed_cfg]; exact ins)

/-- A request that its handler answers at once: the handler's part, with the response sent. -/
theorem exec_zoneReply {gs : List Group} (e : ∀ s, exec c s = command (serve code role p tag (zoneRequest body h)) s)
    (ht : takes p s) (hp : role ≠ some p.other) (hb : readZone body = some z) (ins : zoneInService s.part z = true)
    (hh : h z (renewed p s) = reply st b t) (only : Only gs (renewed p s) t)
    (keeps : (gs.contains .time || gs.contains .cfg) = false) :
    exec c s = .next { s with part := send (.response p ⟨code, tag, st, b⟩) t } := by
  obtain ⟨running, free⟩ := ht
  simp only [Bool.or_eq_false_iff, List.contains_eq_mem, decide_eq_false_iff_not] at keeps
  have free' : ((cleared s).port p).inService = none := by cases p <;> exact free
  have served := serve_reply (s := cleared s) (tag := tag) (code := code) running free' hp ((zoneRequest_in hb ins).trans hh)
    (only.deadline keeps.1 keeps.2)
  rw [e]
  show Host.Outcome.next { s with part := serve code role p tag (zoneRequest body h) (cleared s) } = _
  rw [served]

theorem answers_zoneReply {gs : List Group} (e : ∀ s, exec c s = command (serve code role p tag (zoneRequest body h)) s)
    (ht : takes p s) (hp : role ≠ some p.other) (hb : readZone body = some z) (ins : zoneInService s.part z = true)
    (hh : h z (renewed p s) = reply st b t) (only : Only gs (renewed p s) t)
    (keeps : (gs.contains .time || gs.contains .cfg) = false) :
    ∃ u, exec c s = .next u ∧ u.pending = s.pending ∧ answered p code tag st b u ∧ Within [] t u.part := by
  refine ⟨_, exec_zoneReply e ht hp hb ins hh only keeps, rfl, ?_, send_within _ t⟩
  simp [answered, only.out, renewed_out]

/-- A request that its handler answers without effect. -/
theorem readsOut_zoneReply (e : ∀ s, exec c s = command (serve code role p tag (zoneRequest body h)) s)
    (ht : takes p s) (hp : role ≠ some p.other) (hb : readZone body = some z) (ins : zoneInService s.part z = true)
    (hh : h z (renewed p s) = reply st b (renewed p s)) : readsOut c p code tag st b s :=
  answers_zoneReply e ht hp hb ins hh (.refl [] _) rfl

/-- A request that names a zone out of service is refused (R2). -/
theorem readsOut_zoneOut (e : ∀ s, exec c s = command (serve code role p tag (zoneRequest body h)) s)
    (ht : takes p s) (hp : role ≠ some p.other) (hb : readZone body = some z) (out : zoneInService s.part z = false) :
    readsOut c p code tag .unknownId [] s := by
  refine readsOut_refuse e ht hp ?_
  rw [zoneRequest, hb]
  exact inServiceOr_out (by rw [zoneInService, renewed_cfg]; exact out)

end ZoneRequests

/-! ### A raise that finds room -/

theorem find_isAlarm {k : AlarmKind} {x : Subject} {s : Part} {a : Alarm} (ha : a ∈ s.alarms.records) (hk : a.kind = k)
    (hx : a.subject = x) : s.alarms.records.find? (isAlarm k x) ≠ none := fun none =>
  List.find?_eq_none.mp none a ha (by simp [isAlarm, hk, hx])

/-- A raise with room leaves an active record of the kind and subject, raised now (R176, R177). -/
theorem raiseAlarm_raisedNow {k : AlarmKind} {x : Subject} {s : Part} (room : roomFor k x s) : raisedNow k x (raiseAlarm k x s) := by
  have time : (raiseAlarm k x s).time = s.time := (raiseAlarm_only k x s).within .time (by decide)
  obtain ⟨a, found, e⟩ | ⟨-, -, e⟩ | ⟨a, absent, full, -, -⟩ | ⟨absent, full, -, -⟩ := raiseAlarm_cases k x s
  · have named : a.kind = k ∧ a.subject = x := by simpa [isAlarm] using List.find?_some found
    rw [raisedNow, time, e, repeatAlarm_records]
    refine ⟨_, List.mem_map.mpr ⟨a, List.mem_of_find?_eq_some found, if_pos rfl⟩, named.1, named.2, ?_, rfl⟩
    dsimp only; split
    · decide
    · assumption
  · rw [raisedNow, time, e, createAlarm_records]
    exact ⟨newAlarm k x s.time s.alarms, by simp, rfl, rfl, by simp [newAlarm], rfl⟩
  all_goals
    obtain ⟨a, ha, hk, hx⟩ | short := room
    · exact absurd absent (find_isAlarm ha hk hx)
    · exact absurd short full

theorem raiseAlarm_zones (k : AlarmKind) (x : Subject) (s : Part) : (raiseAlarm k x s).zones = s.zones :=
  (raiseAlarm_only k x s).within .zones (by decide)

theorem othersKept_modZone (z : ZoneId) (f : Zone → Zone) (s : Part) : othersKept s.zones (modZone z f s).zones z :=
  fun _ hx => modZone_get_ne f s hx

/-! ### The warm evaluation (R45) -/

section Warm

variable {z : ZoneId} {s : Part}

/-- The limit of a zone with no recovery deadline (R44). -/
theorem limitInForce_recovered (h : (s.zones.get z).recoveryDl = none) :
    limitInForce s z = (s.cfg.zones.get z).setpoint
      + if pastGather s z then (s.cfg.zones.get z).allowance else (s.cfg.zones.get z).highOffset := by
  rw [limitInForce, limitRaised, h, Option.isSome_none, Bool.or_false]
  split <;> rfl

theorem warmEvaluate_stale (stale : (s.zones.get z).stale = true) :
    warmEvaluate z s = modZone z (fun k => { k with warmDl := none }) s := if_pos stale

theorem warmEvaluate_within (fresh : (s.zones.get z).stale = false) (le : (s.zones.get z).temp ≤ limitInForce s z) :
    warmEvaluate z s = endCondition .zoneWarm (.zone z) (modZone z (fun k => { k with warmDl := none }) s) := by
  simp [warmEvaluate, fresh, not_lt.mpr le]

theorem warmEvaluate_running (fresh : (s.zones.get z).stale = false) (lt : limitInForce s z < (s.zones.get z).temp) {w : Nat}
    (dl : (s.zones.get z).warmDl = some w) : warmEvaluate z s = s := by
  simp [warmEvaluate, fresh, lt, dl]

theorem warmEvaluate_starts (fresh : (s.zones.get z).stale = false) (lt : limitInForce s z < (s.zones.get z).temp)
    (dl : (s.zones.get z).warmDl = none) (delay : (s.cfg.zones.get z).alarmDelay ≠ 0) :
    warmEvaluate z s = modZone z (fun k => { k with warmDl := some (addTime s.time (s.cfg.zones.get z).alarmDelay) }) s := by
  simp [warmEvaluate, fresh, lt, dl, delay]

theorem warmEvaluate_raises (fresh : (s.zones.get z).stale = false) (lt : limitInForce s z < (s.zones.get z).temp)
    (dl : (s.zones.get z).warmDl = none) (delay : (s.cfg.zones.get z).alarmDelay = 0) :
    warmEvaluate z s = raiseAlarm .zoneWarm (.zone z) s := by
  simp [warmEvaluate, fresh, lt, dl, delay]

/-- An evaluation changes no other zone. -/
theorem othersKept_warmEvaluate (z : ZoneId) (s : Part) : othersKept s.zones (warmEvaluate z s).zones z := by
  have modified (f : Zone → Zone) := othersKept_modZone z f s
  unfold warmEvaluate; dsimp only
  repeat' split
  · exact modified _
  · exact fun _ _ => rfl
  · rw [raiseAlarm_zones]; exact fun _ _ => rfl
  · exact modified _
  · rw [(endCondition_only ..).within .zones (by decide)]; exact modified _

end Warm

/-! ### The deadlines -/

section Deadlines

variable {s : State} {z : ZoneId}

theorem exec_staleHoldOffExpiry (running : s.part.running = true) (due : reached (s.part.zones.get z).holdOff s.part.time = true) :
    exec (.staleHoldOffExpiry z) s = .next { s with
      part := onlyIf (s.part.zones.get z).stale (raiseAlarm .zoneStale (.zone z))
        (modZone z (fun k => { k with holdOff := none }) (cleared s)) } := by
  rw [exec_running rfl running]
  exact congrArg (fun x => Host.Outcome.next { s with part := x }) (if_pos due)

theorem exec_warmDeadlineExpiry (running : s.part.running = true) (due : reached (s.part.zones.get z).warmDl s.part.time = true) :
    exec (.warmDeadlineExpiry z) s = .next { s with
      part := raiseAlarm .zoneWarm (.zone z) (modZone z (fun k => { k with warmDl := none }) (cleared s)) } := by
  rw [exec_running rfl running]
  exact congrArg (fun x => Host.Outcome.next { s with part := x }) (if_pos due)

theorem exec_recoveryDeadlineExpiry (running : s.part.running = true)
    (due : reached (s.part.zones.get z).recoveryDl s.part.time = true) :
    exec (.recoveryDeadlineExpiry z) s = .next { s with
      part := warmEvaluate z (modZone z (fun k => { k with recoveryDl := none }) (cleared s)) } := by
  rw [exec_running rfl running]
  exact congrArg (fun x => Host.Outcome.next { s with part := x }) (if_pos due)

end Deadlines

/-- Settles O27: each deadline by its guard, the recovery deadline by the cases of the warm evaluation. -/
theorem zoneDeadlinesRaiseTheirAlarms : Obligations.ZoneDeadlinesRaiseTheirAlarms := by
  intro s z running k c limit
  refine ⟨fun due => ?holdOff, fun due => ?warm, fun due => ?recovery⟩
  case holdOff =>
    set u := modZone z (fun k => { k with holdOff := none }) (cleared s) with hu
    have zone : u.zones.get z = { k with holdOff := none } := modZone_get z _ _
    have others : othersKept s.part.zones u.zones z := othersKept_modZone z _ (cleared s)
    have only : Only [.zones] (cleared s) u := modZone_only z _ _
    have raised : Only [.alarms, .ports] u (onlyIf k.stale (raiseAlarm .zoneStale (.zone z)) u) := onlyIf_only (raiseAlarm_only ..)
    have zones := raised.within .zones (by decide)
    refine ⟨_, exec_staleHoldOffExpiry running due, rfl, raised.out, (congrArg (·.get z) zones).trans zone, ?_, fun stale => ⟨fun room => ?_, ?_⟩,
      fun notStale => ?_⟩
    · exact fun x hx => (congrArg (·.get x) zones).trans (others x hx)
    · show raisedNow _ _ (onlyIf k.stale _ u)
      rw [stale]; exact raiseAlarm_raisedNow room
    · exact Within.trans (only.within.mono (by simp)) (raised.within.mono (by simp))
    · show Within _ _ (onlyIf k.stale _ u)
      rw [notStale]; exact only.within
  case warm =>
    set u := modZone z (fun k => { k with warmDl := none }) (cleared s) with hu
    refine ⟨_, exec_warmDeadlineExpiry running due, rfl, (raiseAlarm_only ..).out, ?_, ?_, fun room => raiseAlarm_raisedNow room⟩
    · exact (congrArg (·.get z) (raiseAlarm_zones ..)).trans (modZone_get z _ _)
    · dsimp only; rw [raiseAlarm_zones]; exact othersKept_modZone z _ (cleared s)
  case recovery =>
    set u := modZone z (fun k => { k with recoveryDl := none }) (cleared s) with hu
    have zone : u.zones.get z = { k with recoveryDl := none } := modZone_get z _ _
    have only : Only [.zones] (cleared s) u := modZone_only z _ _
    have inForce : limitInForce u z = limit := limitInForce_recovered (by rw [zone])
    have fresh (h : k.stale = false) : (u.zones.get z).stale = false := by rw [zone]; exact h
    have above (h : limit < k.temp) : limitInForce u z < (u.zones.get z).temp := by rw [inForce, zone]; exact h
    refine ⟨_, exec_recoveryDeadlineExpiry running due, rfl, (warmEvaluate_only z u).out, ?others, fun stale => ?stale,
      fun notStale le => ?below, fun notStale lt w dl => ?runs, fun notStale lt dl delay => ?starts,
      fun notStale lt dl delay => ?raises⟩ <;> dsimp only
    case others =>
      exact fun x hx => (othersKept_warmEvaluate z u x hx).trans (othersKept_modZone z _ (cleared s) x hx)
    case stale =>
      rw [warmEvaluate_stale (by rw [zone]; exact stale)]
      exact ⟨by rw [modZone_get, zone], Within.trans only.within (modZone_only z _ u).within⟩
    case below =>
      rw [warmEvaluate_within (fresh notStale) (by rw [inForce, zone]; exact le), (endCondition_only ..).within .zones (by decide),
        modZone_get, zone]
    case runs =>
      rw [warmEvaluate_running (fresh notStale) (above lt) (w := w) (by rw [zone]; exact dl)]
      exact ⟨zone, only.within⟩
    case starts =>
      rw [warmEvaluate_starts (fresh notStale) (above lt) (by rw [zone]; exact dl) delay]
      exact ⟨by rw [modZone_get, zone]; rfl, Within.trans only.within (modZone_only z _ u).within⟩
    case raises =>
      rw [warmEvaluate_raises (fresh notStale) (above lt) (by rw [zone]; exact dl) delay, raiseAlarm_zones]
      exact ⟨zone, fun room => raiseAlarm_raisedNow room⟩

end Sys2Proof.Machine
end

section
/-! A zone that becomes OPEN (O30: R51) and one that drains (O31: R52, R53, R54): what the deliveries of a mode change leave alone. -/

namespace Sys2Proof.Machine

open Sys2Proof

/-! ### One entry in a run over all of them -/

/-- Where the turn of every other identifier keeps a view of the part, a run over all of them does to the view what the turn of this one
does. -/
theorem forEach_view {n : Nat} {β : Type} {f : Fin n → Part → Part} (view : Part → β) (j : Fin n)
    (other : ∀ i t, i ≠ j → view (f i t) = view t) (s : Part) :
    ∃ t, view t = view s ∧ view (forEach f s) = view (f j t) := by
  have kept (l : List (Fin n)) (hl : j ∉ l) (t : Part) : view (l.foldl (fun s i => f i s) t) = view t := by
    induction l generalizing t with
    | nil => rfl
    | cons i l ih =>
      obtain ⟨hi, hl⟩ := not_or.mp (List.mem_cons.not.mp hl)
      exact (ih hl _).trans (other i t (Ne.symm hi))
  obtain ⟨before, after, split⟩ := List.append_of_mem (List.mem_finRange j)
  have distinct := List.nodup_finRange n
  rw [split, List.nodup_middle, List.nodup_cons, List.mem_append, not_or] at distinct
  refine ⟨before.foldl (fun s i => f i s) s, kept before distinct.1.1 s, ?_⟩
  rw [forEach, split, List.foldl_append, List.foldl_cons]
  exact kept after distinct.1.2 _

/-! ### Portals -/

section Portals

variable {q : PortalId} {z : ZoneId} {s t : Part}

theorem portalOf_of_cfg (h : t.cfg = s.cfg) : portalOf t z q = portalOf s z q := by rw [portalOf, portalInService, h]; rfl

theorem portalOf_zone (h : portalOf s z q = true) : (s.cfg.portals.get q).zone = some z :=
  eq_of_beq (Bool.and_eq_true_iff.mp h).2

theorem portalZone_eq (h : portalOf s z q = true) : portalZone s q = z := by rw [portalZone, portalOf_zone h]; rfl

/-- Tracking an event moves the revision at most (R60). -/
theorem trackPortal_state (f : Part → Part) : ((trackPortal q f s).portals.get q).state = ((f s).portals.get q).state := by
  obtain ⟨n, e⟩ := trackPortal_get (q := q) (s := s) f
  rw [e]

theorem onePortal_onlyIf {b : Bool} {f : Part → Part} (h : OnePortal q s (f s)) : OnePortal q s (onlyIf b f s) := by
  unfold onlyIf; split
  · exact h
  · exact .refl q s

/-- A run over the portals, each turn of which changes its own portal: what its own turn makes of a portal stands at the end. -/
theorem forEach_portal {gs : List Group} {f : PortalId → Part → Part} {P : Portal → Prop} (one : ∀ i t, OnePortal i t (f i t))
    (only : ∀ i t, Only gs t (f i t)) (c : (gs.contains .cfg || gs.contains .zones) = false)
    (own : ∀ t, t.portals.get q = s.portals.get q → t.cfg = s.cfg → t.zones = s.zones → P ((f q t).portals.get q)) :
    P ((forEach f s).portals.get q) := by
  simp only [Bool.or_eq_false_iff, List.contains_eq_mem, decide_eq_false_iff_not] at c
  obtain ⟨t, same, e⟩ := forEach_view (fun t => (t.portals.get q, t.cfg, t.zones)) q (fun i t hi => by
    rw [(one i t).portals q hi.symm, (only i t).within .cfg c.1, (only i t).within .zones c.2]) s
  simp only [Prod.mk.injEq] at same e
  obtain ⟨portal, cfg, zones⟩ := same
  rw [e.1]; exact own t portal cfg zones

theorem takePortal_unheld (h : (s.zones.get (portalZone s q)).mode ≠ .bulk) : ((takePortal q s).portals.get q).state ≠ .held := by
  unfold takePortal bumpPortal; dsimp only
  rw [modPortal_get, modPortal_get]
  simp only [beq_eq_false_iff_ne.mpr h, Bool.false_and, Bool.false_eq_true, if_false]
  split
  · exact PortalState.noConfusion
  · split <;> exact PortalState.noConfusion

end Portals

/-! ### A zone that is OPEN stays so, and its portals stay out of HELD -/

/-- The zone is OPEN, with no BULK deadline. -/
def isOpen (z : ZoneId) (s : Part) : Prop := (s.zones.get z).mode = .open ∧ (s.zones.get z).bulkDl = none

/-- If the zone is OPEN it stays so, and none of its portals becomes HELD. -/
structure OpenStays (z : ZoneId) (s t : Part) : Prop where
  cfg : t.cfg = s.cfg
  opened : isOpen z s → isOpen z t
  unheld : isOpen z s → ∀ q, portalOf s z q = true → (s.portals.get q).state ≠ .held → (t.portals.get q).state ≠ .held

section OpenStays

variable {z x : ZoneId} {q : PortalId} {s t u : Part}

theorem OpenStays.refl (z : ZoneId) (s : Part) : OpenStays z s s := ⟨rfl, id, fun _ _ _ => id⟩

theorem OpenStays.trans (h : OpenStays z s t) (h' : OpenStays z t u) : OpenStays z s u :=
  ⟨h'.cfg.trans h.cfg, fun o => h'.opened (h.opened o), fun o q hq k =>
    h'.unheld (h.opened o) q ((portalOf_of_cfg h.cfg).trans hq) (h.unheld o q hq k)⟩

theorem OpenStays.of_eq (hc : t.cfg = s.cfg) (hz : isOpen z s → isOpen z t) (hp : t.portals = s.portals) : OpenStays z s t :=
  ⟨hc, hz, fun _ q _ k => by rw [hp]; exact k⟩

theorem OpenStays.of_only {gs : List Group} (h : Only gs s t)
    (c : (gs.contains .zones || gs.contains .portals || gs.contains .cfg) = false) : OpenStays z s t := by
  simp only [Bool.or_eq_false_iff, List.contains_eq_mem, decide_eq_false_iff_not] at c
  obtain ⟨⟨cz, cp⟩, cc⟩ := c
  exact .of_eq (h.within .cfg cc) (by rw [isOpen, isOpen, h.within .zones cz]; exact id) (h.within .portals cp)

/-- A change of one portal that does not make it HELD in an OPEN zone. -/
theorem OpenStays.of_onePortal {gs : List Group} (h : OnePortal q s t) (only : Only gs s t)
    (c : (gs.contains .zones || gs.contains .cfg) = false)
    (own : isOpen z s → portalOf s z q = true → (s.portals.get q).state ≠ .held → (t.portals.get q).state ≠ .held) :
    OpenStays z s t := by
  simp only [Bool.or_eq_false_iff, List.contains_eq_mem, decide_eq_false_iff_not] at c
  refine ⟨only.within .cfg c.2, by rw [isOpen, isOpen, only.within .zones c.1]; exact id, fun o y hy k => ?_⟩
  by_cases hq : y = q
  · subst hq; exact own o hy k
  · rw [h.portals y hq]; exact k

theorem openStays_onlyIf {b : Bool} {f : Part → Part} (h : b = true → OpenStays z s (f s)) : OpenStays z s (onlyIf b f s) := by
  unfold onlyIf; split
  · exact h ‹_›
  · exact .refl z s

theorem openStays_forEach {n : Nat} {f : Fin n → Part → Part} (h : ∀ i t, OpenStays z t (f i t)) (s : Part) :
    OpenStays z s (forEach f s) := by
  have fold (l : List (Fin n)) (t : Part) : OpenStays z t (l.foldl (fun s i => f i s) t) := by
    induction l generalizing t with
    | nil => exact .refl z t
    | cons i l ih => exact (h i t).trans (ih _)
  exact fold _ s

theorem openStays_eitherOrder {b : Bool} {f g : Part → Part} (hf : ∀ t, OpenStays z t (f t)) (hg : ∀ t, OpenStays z t (g t))
    (s : Part) : OpenStays z s (eitherOrder b f g s) := by
  have drawn : OpenStays z s { s with draws := s.draws + 1 } := .of_eq rfl id rfl
  unfold eitherOrder; split
  · unfold unordered; dsimp only; split
    · exact (drawn.trans (hf _)).trans (hg _)
    · exact (drawn.trans (hg _)).trans (hf _)
  · exact (hf _).trans (hg _)

/-! ### The deliveries of a batch that leaves HEAT or ends -/

theorem openStays_takePortal (q : PortalId) (s : Part) : OpenStays z s (takePortal q s) := by
  refine .of_onePortal (onePortal_takePortal s) (takePortal_only q s) rfl fun o hq _ => takePortal_unheld ?_
  rw [portalZone_eq hq, o.1]; exact Mode.noConfusion

theorem openStays_reevaluatePortal (q : PortalId) (s : Part) : OpenStays z s (reevaluatePortal q s) := by
  unfold reevaluatePortal; split
  · exact .refl z s
  · split
    · exact .refl z s
    · refine .of_onePortal (gs := [.portals, .ports])
        (onePortal_trackPortal ((onePortal_modPortal _ s).trans (onePortal_endPendingPortal _ _))) (by simp [covers]) rfl fun _ _ _ => ?_
      rw [trackPortal_state, endPendingPortal_get, modPortal_get]; exact PortalState.noConfusion
    · refine OpenStays.trans ?_ (.of_only (notify_only ..) rfl)
      refine OpenStays.trans ?_ (.of_onePortal (gs := [.portals]) (onePortal_trackPortal (onePortal_modPortal _ _)) (by simp [covers]) rfl
        fun _ _ _ => ?_)
      · exact .of_only (onlyIf_only (suspendMembers_only _ s)) rfl
      · rw [trackPortal_state, grantPortal, modPortal_get]
        split <;> exact PortalState.noConfusion

theorem openStays_doorsLeftHeat (x : ZoneId) (s : Part) : OpenStays z s (doorsLeftHeat x s) := by
  unfold doorsLeftHeat; split
  · exact openStays_forEach (fun d t => openStays_onlyIf fun _ => .of_only (reevaluateDock_only d t) rfl) s
  · exact openStays_forEach (fun q t => openStays_onlyIf fun _ => openStays_reevaluatePortal q t) s

/-- The portals of another zone become HELD. -/
theorem openStays_portalsEnterBulk (hx : x ≠ z) (s : Part) : OpenStays z s (portalsEnterBulk x s) := by
  refine openStays_forEach (fun q t => openStays_onlyIf fun guard => ?_) s
  refine .of_onePortal (onePortal_holdOpen t) (holdOpen_only q t) rfl fun _ hq _ => absurd ?_ hx
  exact Option.some_inj.mp ((portalOf_zone (Bool.and_eq_true_iff.mp guard).1).symm.trans (portalOf_zone hq))

theorem openStays_setMode (hx : x ≠ z) (m : Mode) (dl : Option Nat) (s : Part) : OpenStays z s (setMode x m dl s) :=
  .of_eq rfl (by rw [isOpen, isOpen, setMode, modZone_get_ne _ _ hx.symm]; exact id) rfl

/-- Only a zone in BULK_PENDING takes the event (R50), and that is not an OPEN one. -/
theorem openStays_zoneLeftHeat (x : ZoneId) (s : Part) : OpenStays z s (zoneLeftHeat x s) := by
  unfold zoneLeftHeat; split
  · next pending =>
    refine OpenStays.trans ?_ (.of_only (modeNotice_only ..) rfl)
    by_cases hx : x = z
    · subst hx
      have closed : ¬ isOpen x s := fun o => Mode.noConfusion (pending.symm.trans o.1)
      have only : Only [.zones, .portals, .ports] s (portalsEnterBulk x (setMode x .bulk (bulkDeadline s) s)) := by simp [covers]
      exact ⟨only.within .cfg (by decide), fun o => absurd o closed, fun o => absurd o closed⟩
    · exact (openStays_setMode hx _ _ s).trans (openStays_portalsEnterBulk hx _)
  · exact .refl z s

theorem openStays_modZone {f : Zone → Zone} (h : ∀ k, (f k).mode = k.mode ∧ (f k).bulkDl = k.bulkDl) (s : Part) :
    OpenStays z s (modZone x f s) := by
  refine .of_eq rfl ?_ rfl
  by_cases hx : z = x
  · subst hx; rw [isOpen, isOpen, modZone_get, (h _).1, (h _).2]; exact id
  · rw [isOpen, isOpen, modZone_get_ne _ _ hx]; exact id

theorem openStays_warmEvaluate (x : ZoneId) (s : Part) : OpenStays z s (warmEvaluate x s) := by
  have modified (dl : Option Nat) : OpenStays z s (modZone x (fun k => { k with warmDl := dl }) s) := by
    refine openStays_modZone ?_ s
    exact fun _ => ⟨rfl, rfl⟩
  unfold warmEvaluate; dsimp only
  repeat' split
  · exact modified _
  · exact .refl z s
  · exact .of_only (raiseAlarm_only ..) rfl
  · exact modified _
  · exact (modified _).trans (.of_only (endCondition_only ..) rfl)

theorem openStays_zoneBatchEnded (x : ZoneId) (s : Part) : OpenStays z s (zoneBatchEnded x s) := by
  refine OpenStays.trans (openStays_modZone ?_ s) (openStays_warmEvaluate x _)
  exact fun _ => ⟨rfl, rfl⟩

theorem openStays_portalsUnblock (x : ZoneId) (s : Part) : OpenStays z s (portalsUnblock x s) :=
  openStays_forEach (fun q t => openStays_onlyIf fun _ => openStays_takePortal q t) s

theorem openStays_portalsLeaveBulk (x : ZoneId) (s : Part) : OpenStays z s (portalsLeaveBulk x s) :=
  openStays_forEach (fun q t => openStays_onlyIf fun _ => openStays_takePortal q t) s

theorem openStays_endBatch (x : ZoneId) (c : BatchEnd) (s : Part) : OpenStays z s (endBatch x c s) := by
  unfold endBatch; split
  · exact .refl z s
  · dsimp only
    refine OpenStays.trans ?_ (.of_only (batchRule_only ..) rfl)
    refine OpenStays.trans ?_ (openStays_onlyIf fun _ => openStays_portalsUnblock x _)
    refine OpenStays.trans ?_ (openStays_onlyIf fun _ => openStays_zoneBatchEnded x _)
    refine OpenStays.trans ?_ (.of_only (putBatch_only ..) rfl)
    exact OpenStays.trans (.of_only (treatMembers_only ..) rfl) (.of_only (notify_only ..) rfl)

theorem openStays_leaveHeatCheck (x : ZoneId) (s : Part) : OpenStays z s (leaveHeatCheck x s) := by
  unfold leaveHeatCheck; split
  · exact .refl z s
  · split
    · refine OpenStays.trans ?_ (openStays_eitherOrder (openStays_zoneLeftHeat x) (openStays_doorsLeftHeat x) _)
      split
      · exact OpenStays.trans (.of_only (modBatch_only ..) rfl) (openStays_endBatch x _ _)
      · exact .of_only (enterDrip_only x s) rfl
    · exact .refl z s

/-! ### The arbiter and the resume check -/

theorem openStays_serveWaiting (e : EvapId) (s : Part) : OpenStays z s (serveWaiting e s) := by
  unfold serveWaiting; split
  · refine OpenStays.trans ?_ (openStays_leaveHeatCheck _ _)
    exact OpenStays.trans (.of_only (giveOutcome_only ..) rfl) (.of_only (raiseAlarm_only ..) rfl)
  · exact .of_only (modEvap_only ..) rfl

theorem openStays_arbiterRounds (n : Nat) (s : Part) : OpenStays z s (arbiterRounds n s) := by
  induction n generalizing s with
  | zero => exact .refl z s
  | succ n ih =>
    unfold arbiterRounds; split
    · split
      · exact (openStays_serveWaiting _ s).trans (ih _)
      · exact .refl z s
    · exact .refl z s

theorem openStays_defrostModeOpen (x : ZoneId) (s : Part) : OpenStays z s (defrostModeOpen x s) := by
  refine OpenStays.trans (.of_only (batchRule_only x s) rfl) ?_
  unfold defrostModeOpen resumeCheck; split
  · exact .refl z _
  · split
    · exact OpenStays.trans (.of_only (modBatch_only ..) rfl) (openStays_arbiterRounds 16 _)
    · exact .refl z _

end OpenStays

/-! ### BULK ends (R51) -/

section BulkEnds

variable {z : ZoneId} {s : Part}

/-- The zone is OPEN with no deadline left, and none of its portals is HELD. -/
def released (z : ZoneId) (s : Part) : Prop :=
  isOpen z s ∧ ∀ q, portalOf s z q = true → (s.portals.get q).state ≠ .held

theorem OpenStays.released {t : Part} (h : OpenStays z s t) (r : Machine.released z s) : Machine.released z t :=
  ⟨h.opened r.1, fun q hq => h.unheld r.1 q ((portalOf_of_cfg h.cfg).symm.trans hq) (r.2 q ((portalOf_of_cfg h.cfg).symm.trans hq))⟩

/-- In an OPEN zone every HELD portal takes its state from its last report (R85, R82). -/
theorem portalsLeaveBulk_released (o : isOpen z s) : released z (portalsLeaveBulk z s) := by
  have stays : OpenStays z s (portalsLeaveBulk z s) := openStays_portalsLeaveBulk z s
  refine ⟨stays.opened o, fun q hq => ?_⟩
  rw [portalOf_of_cfg stays.cfg] at hq
  refine forEach_portal (P := fun k => k.state ≠ .held) (fun i t => onePortal_onlyIf (onePortal_takePortal t))
    (fun i t => onlyIf_only (takePortal_only i t)) rfl fun t _ cfg zones => ?_
  have ofT : portalOf t z q = true := (portalOf_of_cfg cfg).trans hq
  rw [ofT, Bool.true_and]
  unfold onlyIf; split
  · refine takePortal_unheld ?_
    rw [portalZone_eq ofT, zones, o.1]; exact Mode.noConfusion
  · next other => exact fun held => other (by rw [held]; rfl)

/-- Whichever delivery is first, the portals leave HELD and none returns to it. -/
theorem bulkToOpen_released (z : ZoneId) (rc : Option RevokeCause) (c : ModeCause) (s : Part) : released z (bulkToOpen z rc c s) := by
  set t := setMode z .open none s with ht
  have opened : isOpen z t := by rw [ht, isOpen, setMode, modZone_get]; exact ⟨rfl, rfl⟩
  have leaves (u : Part) (o : isOpen z u) := portalsLeaveBulk_released (z := z) (s := u) o
  have scheduler (u : Part) := openStays_defrostModeOpen (z := z) z u
  have delivered : released z (eitherOrder (batchSuspended s z) (portalsLeaveBulk z) (defrostModeOpen z) t) := by
    unfold eitherOrder; split
    · unfold unordered; dsimp only; split
      · exact (scheduler _).released (leaves _ opened)
      · exact leaves _ ((scheduler _).opened opened)
    · exact (scheduler _).released (leaves _ opened)
  unfold bulkToOpen; dsimp only
  refine OpenStays.released (.of_only (modeNotice_only ..) rfl) ?_
  split
  · exact OpenStays.released (.of_only (notify_only ..) rfl) delivered
  · exact delivered

theorem exec_bulkDeadlineExpiry {s : State} (running : s.part.running = true)
    (due : reached (s.part.zones.get z).bulkDl s.part.time = true) :
    exec (.bulkDeadlineExpiry z) s = .next { s with part := bulkToOpen z none .deadline (cleared s) } := by
  rw [exec_running rfl running]
  exact congrArg (fun x => Host.Outcome.next { s with part := x }) (if_pos due)

theorem zoneBulkRelease_open (h : (s.zones.get z).mode = .open) : zoneBulkRelease z s = reply .ok [] s := by
  unfold zoneBulkRelease; rw [h]

/-- A zone held by the plant is no concern of the warehouse, and Z0 is never in BULK (R51). -/
theorem zoneBulkRelease_held (h : (s.zones.get z).mode = .draining ∨ (s.zones.get z).mode = .pulldown) :
    zoneBulkRelease z s = reply (if z = 0 then .ok else .held) [] s := by
  have answer : (if z = 0 then reply .ok [] s else refuse .held s) = reply (if z = 0 then .ok else .held) [] s := by split <;> rfl
  unfold zoneBulkRelease
  obtain h | h := h <;> rw [h] <;> exact answer

theorem zoneBulkRelease_bulk (h : (s.zones.get z).mode = .bulk ∨ (s.zones.get z).mode = .bulkPending) :
    zoneBulkRelease z s = reply .ok [] (bulkToOpen z none .request s) := by
  unfold zoneBulkRelease
  obtain h | h := h <;> rw [h]

end BulkEnds

/-- Settles O30: both ends of BULK are `bulkToOpen`, and the other modes are answered without effect. -/
theorem bulkEndsInOpen : Obligations.BulkEndsInOpen := by
  intro s tag body z opened
  have opens {r : Part} (cfg : r.cfg = s.part.cfg) (rc : Option RevokeCause) (c : ModeCause) {t : State}
      (hz : t.part.zones = (bulkToOpen z rc c r).zones) (hp : t.part.portals = (bulkToOpen z rc c r).portals) : opened t := by
    obtain ⟨⟨mode, dl⟩, unheld⟩ := bulkToOpen_released z rc c r
    have cfg' := ((bulkToOpen_only z rc c r).within .cfg (by decide)).trans cfg
    show _ ∧ _ ∧ _
    rw [hz, hp]
    exact ⟨mode, dl, fun q hq => unheld q ((portalOf_of_cfg cfg').trans hq)⟩
  refine ⟨fun ht hb => ⟨fun out => readsOut_zoneOut (fun _ => rfl) ht (by decide) hb out, fun ins => ?request⟩,
    fun running due => ?deadline⟩
  case request =>
    have reads {st : Status} (hh : zoneBulkRelease z (renewed .warehouse s) = reply st [] (renewed .warehouse s)) :
        readsOut (.zoneBulkRelease .warehouse tag body) .warehouse 8 tag st [] s :=
      readsOut_zoneReply (fun _ => rfl) ht (by decide) hb ins hh
    refine ⟨fun hm => reads (zoneBulkRelease_open hm), fun hz hm => reads ?_, fun hz hm => reads ?_, fun hm => ?_⟩
    · rw [zoneBulkRelease_held hm, if_neg hz]
    · rw [zoneBulkRelease_held hm, if_pos hz]
    · obtain ⟨t, e, kept, ans, same⟩ := answers_zoneReply (c := .zoneBulkRelease .warehouse tag body) (fun _ => rfl) ht (by decide) hb ins
        (zoneBulkRelease_bulk hm) (bulkToOpen_only ..) rfl
      exact ⟨t, e, kept, ans, opens (renewed_cfg _ s) _ _ (same .zones (by simp)) (same .portals (by simp))⟩
  case deadline =>
    exact ⟨_, exec_bulkDeadlineExpiry running due, rfl, (bulkToOpen_only z none .deadline (cleared s)).out,
      opens (r := cleared s) rfl _ _ rfl rfl⟩

/-! ### Draining and release (R52, R53, R54) -/

section Draining

variable {z : ZoneId} {s : Part}

theorem setMode_get (m : Mode) (dl : Option Nat) : (setMode z m dl s).zones.get z = { s.zones.get z with mode := m, bulkDl := dl } :=
  modZone_get z _ s

/-- A portal that its zone blocks is BLOCKED, unless it is in FAULT or locked out (R86). -/
theorem portalsBlock_blocked {q : PortalId} (hq : portalOf s z q = true) :
    ((portalsBlock z s).portals.get q).state = .blocked ∨ ((portalsBlock z s).portals.get q).state = .fault
      ∨ ((portalsBlock z s).portals.get q).state = .lockedOut := by
  unfold portalsBlock
  refine forEach_portal (P := fun k => k.state = .blocked ∨ k.state = .fault ∨ k.state = .lockedOut) (gs := [.portals, .ports])
    (fun i t => onePortal_onlyIf (onePortal_trackPortal ((onePortal_modPortal _ t).trans (onePortal_endPendingPortal _ _))))
    (fun i t => onlyIf_only (by simp [covers])) rfl fun t _ cfg _ => ?_
  rw [portalOf_of_cfg cfg, hq, Bool.true_and]
  unfold onlyIf; split
  · rw [trackPortal_state, endPendingPortal_get, modPortal_get]; exact .inl rfl
  · next other =>
    simp only [Bool.and_eq_true, bne_iff_ne, ne_eq, not_and_or, not_not] at other
    exact .inr other

theorem zoneDoorsClosed_eq {t : Part} (hd : t.docks = s.docks) (hp : t.portals = s.portals) (hc : t.cfg = s.cfg) :
    zoneDoorsClosed t z = zoneDoorsClosed s z := by
  unfold zoneDoorsClosed
  simp only [dockInService, dockClosed, portalClosed, portalOf, portalInService, hd, hp, hc]

/-- The part in which a zone that enters DRAINING meets its drain check (R52). -/
def drainingFrom (z : ZoneId) (s : Part) : Part := modeNotice z .open .request (setMode z .draining none s)

theorem drainingFrom_get (z : ZoneId) (s : Part) :
    (drainingFrom z s).zones.get z = { s.zones.get z with mode := .draining, bulkDl := none } := by
  rw [drainingFrom, (modeNotice_only ..).within .zones (by decide), setMode_get]

theorem drainingFrom_only (z : ZoneId) (s : Part) : Only [.zones, .ports] s (drainingFrom z s) := by simp [drainingFrom, covers]

theorem enterDraining_only (z : ZoneId) (s : Part) : Only [.zones, .portals, .ports] s (enterDraining z s) := by
  simp [enterDraining, covers]

theorem drainDue_drainingFrom (z : ZoneId) (s : Part) : drainDue (drainingFrom z s) z = (!anyMoveTouches s z && zoneDoorsClosed s z) := by
  have only := drainingFrom_only z s
  rw [drainDue, drainingFrom_get, anyMoveTouches, only.within .pallets (by decide), zoneDoorsClosed_eq (only.within .docks (by decide))
    (only.within .portals (by decide)) (only.within .cfg (by decide))]
  rfl

/-- A move that touches the zone, or a door that does not count as closed, leaves it in DRAINING (R53). -/
theorem enterDraining_waits (h : (!anyMoveTouches s z && zoneDoorsClosed s z) = false) :
    ((enterDraining z s).zones.get z).mode = .draining ∧ ((enterDraining z s).zones.get z).bulkDl = none := by
  have waits : enterDraining z s = drainingFrom z s := 
    if_neg fun due => Bool.false_ne_true (h.symm.trans ((drainDue_drainingFrom z s).symm.trans due))
  rw [waits, drainingFrom_get]
  exact ⟨rfl, rfl⟩

/-- Else the zone is on to PULLDOWN, with its portals blocked (R53, R86). -/
theorem enterDraining_drains (h : (!anyMoveTouches s z && zoneDoorsClosed s z) = true) :
    ((enterDraining z s).zones.get z).mode = .pulldown ∧ ((enterDraining z s).zones.get z).bulkDl = none
      ∧ ∀ q, portalOf s z q = true → ((enterDraining z s).portals.get q).state = .blocked
          ∨ ((enterDraining z s).portals.get q).state = .fault ∨ ((enterDraining z s).portals.get q).state = .lockedOut := by
  have drains : enterDraining z s
      = modeNotice z .draining .drained (portalsBlock z (setMode z .pulldown none (drainingFrom z s))) :=
    if_pos ((drainDue_drainingFrom z s).trans h)
  rw [drains, (modeNotice_only ..).within .zones (by decide), (modeNotice_only ..).within .portals (by decide),
    (portalsBlock_only ..).within .zones (by decide), setMode_get]
  refine ⟨rfl, rfl, fun q hq => portalsBlock_blocked ?_⟩
  exact (portalOf_of_cfg ((drainingFrom_only z s).within .cfg (by decide))).trans hq

theorem enterDraining_mode (z : ZoneId) (s : Part) :
    (((enterDraining z s).zones.get z).mode = .draining ∨ ((enterDraining z s).zones.get z).mode = .pulldown)
      ∧ ((enterDraining z s).zones.get z).bulkDl = none := by
  cases h : (!anyMoveTouches s z && zoneDoorsClosed s z) with
  | false => exact (enterDraining_waits h).imp_left .inl
  | true => exact ⟨.inr (enterDraining_drains h).1, (enterDraining_drains h).2.1⟩

/-- A zone released from a plant-held mode is OPEN (R54). -/
theorem releaseZone_open (z : ZoneId) (s : Part) : isOpen z (releaseZone z s) := by
  have opened : isOpen z (setMode z .open none s) := by rw [isOpen, setMode_get]; exact ⟨rfl, rfl⟩
  refine OpenStays.opened ?_ opened
  refine OpenStays.trans ?_ (.of_only (modeNotice_only ..) rfl)
  exact (openStays_portalsUnblock z _).trans (openStays_defrostModeOpen z _)

theorem releaseZone_only (z : ZoneId) (s : Part) :
    Only [.zones, .docks, .portals, .evaps, .batches, .alarms, .ports] s (releaseZone z s) := by
  simp (maxDischargeDepth := 6) [releaseZone, covers]

/-! ### The requests by the mode of the zone -/

theorem zonePulldown_stands (h : (s.zones.get z).mode = .draining ∨ (s.zones.get z).mode = .pulldown) :
    zonePulldown z s = reply .ok (putU8 (Mode.code (s.zones.get z).mode)) s := by
  unfold zonePulldown pulldownReply
  obtain h | h := h <;> rw [h]

/-- A zone in BULK or BULK_PENDING is OPEN before it drains (R52). -/
theorem zonePulldown_drains (h : (s.zones.get z).mode = .open ∨ (s.zones.get z).mode = .bulk ∨ (s.zones.get z).mode = .bulkPending) :
    ∃ u, zonePulldown z s = pulldownReply z (enterDraining z u) ∧ Only defrostGroups s u ∧ ((s.zones.get z).mode = .open → u = s) := by
  unfold zonePulldown
  obtain h | h | h := h <;> rw [h]
  · exact ⟨s, rfl, .refl _ s, fun _ => rfl⟩
  · exact ⟨_, rfl, bulkToOpen_only .., fun other => Mode.noConfusion other⟩
  · exact ⟨_, rfl, bulkToOpen_only .., fun other => Mode.noConfusion other⟩

theorem zoneRelease_open (h : (s.zones.get z).mode = .open) : zoneRelease z s = reply .ok [] s := by unfold zoneRelease; rw [h]

theorem zoneRelease_bulk (h : (s.zones.get z).mode = .bulk ∨ (s.zones.get z).mode = .bulkPending) :
    zoneRelease z s = reply .held [] s := by
  unfold zoneRelease
  obtain h | h := h <;> rw [h] <;> rfl

theorem zoneRelease_held (h : (s.zones.get z).mode = .draining ∨ (s.zones.get z).mode = .pulldown) :
    zoneRelease z s = reply .ok [] (releaseZone z s) := by
  unfold zoneRelease
  obtain h | h := h <;> rw [h]

end Draining

/-- Settles O31: an OPEN zone enters DRAINING, a zone in BULK or BULK_PENDING by way of OPEN, and a released one is OPEN. -/
theorem pulldownAndReleaseChangeTheMode : Obligations.PulldownAndReleaseChangeTheMode := by
  intro s tag body z ht hb
  refine ⟨fun out => ⟨readsOut_zoneOut (fun _ => rfl) ht (by decide) hb out, readsOut_zoneOut (fun _ => rfl) ht (by decide) hb out⟩,
    fun ins => ⟨fun hm => ?stands, fun hm => ?drains, fun hm => ?opened, fun hm => ?bulk, fun hm => ?release⟩⟩
  case stands => exact readsOut_zoneReply (fun _ => rfl) ht (by decide) hb ins (zonePulldown_stands hm)
  case opened => exact readsOut_zoneReply (fun _ => rfl) ht (by decide) hb ins (zoneRelease_open hm)
  case bulk => exact readsOut_zoneReply (fun _ => rfl) ht (by decide) hb ins (zoneRelease_bulk hm)
  case release =>
    obtain ⟨t, e, kept, ans, same⟩ := answers_zoneReply (c := .zoneRelease .plant tag body) (fun _ => rfl) ht (by decide) hb ins
      (zoneRelease_held hm) (releaseZone_only z _) rfl
    refine ⟨t, e, kept, ans, ?_⟩
    rw [same .zones (by simp)]; exact (releaseZone_open z _).1
  case drains =>
    obtain ⟨u, hh, only, fromOpen⟩ := zonePulldown_drains hm
    have drained : Only defrostGroups (renewed .plant s) (enterDraining z u) := only.trans ((enterDraining_only z u).mono rfl)
    obtain ⟨t, e, kept, ans, same⟩ := answers_zoneReply (c := .zonePulldown .plant tag body) (fun _ => rfl) ht (by decide) hb ins
      hh drained rfl
    have zones := same .zones (by simp)
    have touches : anyMoveTouches u z = anyMoveTouches s.part z := by
      rw [anyMoveTouches, only.within .pallets (by decide), renewed, renew_pallets]; rfl
    refine ⟨t, e, kept, by rw [zones]; exact ans, ?_, ?_, fun touched => ?_, fun isOpen untouched closed => ?_⟩
    · rw [zones]; exact (enterDraining_mode z u).1
    · rw [zones]; exact (enterDraining_mode z u).2
    · rw [zones]; exact (enterDraining_waits (by rw [touches, touched]; rfl)).1
    · obtain rfl := fromOpen isOpen
      obtain ⟨mode, -, blocked⟩ := enterDraining_drains (s := renewed .plant s) (z := z) (by rw [touches, untouched, closed]; rfl)
      rw [zones, same .portals (by simp)]
      exact ⟨mode, fun q hq => blocked q ((portalOf_of_cfg (renewed_cfg .plant s)).trans hq)⟩

end Sys2Proof.Machine
end

section
/-! ZONE BULK (O29: R49, R50, R85, R166, R167, R169): the answer to the defrost question, the suspension, and the portals that go HELD. -/

namespace Sys2Proof.Machine

open Sys2Proof

/-! ### A run over evaporators that are told apart -/

section Evaps

variable {α : Type} {l : List α} {key : α → EvapId} {f : α → Evap → Evap} {s : Part}

theorem forList_cons (a : α) (l : List α) (g : α → Part → Part) (s : Part) : forList (a :: l) g s = forList l g (g a s) := rfl

theorem forList_modEvap_other {e : EvapId} (h : e ∉ l.map key) :
    (forList l (fun a => modEvap (key a) (f a)) s).evaps.get e = s.evaps.get e := by
  induction l generalizing s with
  | nil => rfl
  | cons a l ih =>
    rw [List.map_cons, List.mem_cons, not_or] at h
    rw [forList_cons, ih h.2, modEvap_get_ne _ _ h.1]

theorem forList_modEvap_get (distinct : (l.map key).Nodup) {a : α} (h : a ∈ l) :
    (forList l (fun a => modEvap (key a) (f a)) s).evaps.get (key a) = f a (s.evaps.get (key a)) := by
  induction l generalizing s with
  | nil => cases h
  | cons b l ih =>
    obtain ⟨hb, distinct⟩ := List.nodup_cons.mp distinct
    rw [forList_cons]
    obtain rfl | h := List.mem_cons.mp h
    · rw [forList_modEvap_other hb, modEvap_get]
    · have ne : key a ≠ key b := fun same => hb (same ▸ List.mem_map_of_mem h)
      rw [ih distinct h, modEvap_get_ne _ _ ne]

end Evaps

/-! ### What belongs to a zone is spared by the events of the others -/

/-- The members stay their zones' own, and the zone keeps its batch, its evaporators and its portals. -/
structure Spares (z : ZoneId) (s t : Part) : Prop where
  own : membersOwn t
  cfg : t.cfg = s.cfg
  batch : t.batches.get z = s.batches.get z
  evaps : ∀ e, (s.cfg.evaps.get e).zone = some z → t.evaps.get e = s.evaps.get e
  portals : ∀ q, portalOf s z q = true → t.portals.get q = s.portals.get q

section Spares

variable {z x : ZoneId} {q : PortalId} {s t u : Part}

theorem Spares.refl (z : ZoneId) (own : membersOwn s) : Spares z s s := ⟨own, rfl, rfl, fun _ _ => rfl, fun _ _ => rfl⟩

theorem Spares.trans (h : Spares z s t) (h' : membersOwn t → Spares z t u) : Spares z s u :=
  have h' := h' h.own
  ⟨h'.own, h'.cfg.trans h.cfg, h'.batch.trans h.batch,
    fun e he => (h'.evaps e (by rw [h.cfg]; exact he)).trans (h.evaps e he),
    fun q hq => (h'.portals q ((portalOf_of_cfg h.cfg).trans hq)).trans (h.portals q hq)⟩

theorem Spares.of_only {gs : List Group} (h : Only gs s t)
    (c : (gs.contains .batches || gs.contains .cfg || gs.contains .evaps || gs.contains .portals) = false) (own : membersOwn s) :
    Spares z s t := by
  have owns : Owns s t := .of_only h (Bool.or_eq_false_iff.mp (Bool.or_eq_false_iff.mp c).1).1 (.refl s)
  simp only [Bool.or_eq_false_iff, List.contains_eq_mem, decide_eq_false_iff_not] at c
  obtain ⟨⟨⟨cb, cc⟩, ce⟩, cp⟩ := c
  exact ⟨owns own, h.within .cfg cc, by rw [h.within .batches cb], fun _ _ => by rw [h.within .evaps ce],
    fun _ _ => by rw [h.within .portals cp]⟩

/-- A change of one portal of another zone. -/
theorem Spares.of_onePortal {gs : List Group} (h : OnePortal q s t) (only : Only gs s t)
    (c : (gs.contains .batches || gs.contains .cfg || gs.contains .evaps) = false) (hx : x ≠ z) (hq : portalOf s x q = true)
    (own : membersOwn s) : Spares z s t := by
  have owns : Owns s t := .of_only only (Bool.or_eq_false_iff.mp c).1 (.refl s)
  simp only [Bool.or_eq_false_iff, List.contains_eq_mem, decide_eq_false_iff_not] at c
  obtain ⟨⟨cb, cc⟩, ce⟩ := c
  refine ⟨owns own, only.within .cfg cc, by rw [only.within .batches cb], fun _ _ => by rw [only.within .evaps ce],
    fun y hy => h.portals y fun same => hx ?_⟩
  exact Option.some_inj.mp ((portalOf_zone hq).symm.trans (portalOf_zone (same ▸ hy)))

theorem spares_modEvap {e : EvapId} {f : Evap → Evap} (he : (s.cfg.evaps.get e).zone = some x) (hx : x ≠ z) (own : membersOwn s) :
    Spares z s (modEvap e f s) :=
  ⟨owns_modEvap (.refl s) own, rfl, rfl,
    fun _ hy => modEvap_get_ne f s fun same => hx (Option.some_inj.mp (he.symm.trans (same ▸ hy))), fun _ _ => rfl⟩

theorem spares_modBatch {f : Batch → Batch} (hx : x ≠ z) (roster : ∀ b, (f b).members.map (·.evap) = b.members.map (·.evap))
    (own : membersOwn s) : Spares z s (modBatch x f s) :=
  ⟨owns_modBatch roster (.refl s) own, rfl, modBatch_get_ne f s hx.symm, fun _ _ => rfl, fun _ _ => rfl⟩

theorem spares_onlyIf {b : Bool} {f : Part → Part} (h : membersOwn s → Spares z s (f s)) (own : membersOwn s) :
    Spares z s (onlyIf b f s) := by
  unfold onlyIf; split
  · exact h own
  · exact .refl z own

theorem spares_foldl {α : Type} {l : List α} {f : α → Part → Part}
    (h : ∀ a ∈ l, ∀ t, t.cfg = s.cfg → membersOwn t → Spares z t (f a t)) (own : membersOwn s) :
    Spares z s (l.foldl (fun s a => f a s) s) := by
  induction l generalizing s with
  | nil => exact .refl z own
  | cons a l ih =>
    have first := h a List.mem_cons_self s rfl own
    exact first.trans (ih fun b hb t ht => h b (List.mem_cons_of_mem a hb) t (ht.trans first.cfg))

theorem spares_forEach {n : Nat} {f : Fin n → Part → Part} (h : ∀ i t, t.cfg = s.cfg → membersOwn t → Spares z t (f i t))
    (own : membersOwn s) : Spares z s (forEach f s) := spares_foldl (fun i _ => h i) own

theorem spares_eitherOrder {b : Bool} {f g : Part → Part} (hf : ∀ t, t.cfg = s.cfg → membersOwn t → Spares z t (f t))
    (hg : ∀ t, t.cfg = s.cfg → membersOwn t → Spares z t (g t)) (own : membersOwn s) : Spares z s (eitherOrder b f g s) := by
  have drawn : Spares z s { s with draws := s.draws + 1 } := ⟨own, rfl, rfl, fun _ _ => rfl, fun _ _ => rfl⟩
  have both {t : Part} {f g : Part → Part} (ht : Spares z s t) (hf : ∀ t, t.cfg = s.cfg → membersOwn t → Spares z t (f t))
      (hg : ∀ t, t.cfg = s.cfg → membersOwn t → Spares z t (g t)) : Spares z s (g (f t)) :=
    have first := ht.trans (hf t ht.cfg)
    first.trans (hg _ first.cfg)
  unfold eitherOrder; split
  · unfold unordered; dsimp only; split
    · exact both drawn hf hg
    · exact both drawn hg hf
  · exact both (.refl z own) hf hg

/-! ### The events of another zone's batch -/

/-- A run over the members of another zone's batch that changes their evaporators. -/
theorem spares_members {b : Batch} (hb : s.batches.get x = some b) {f : Member → Part → Part}
    (h : ∀ m t, (t.cfg.evaps.get m.evap).zone = some x → membersOwn t → Spares z t (f m t)) (own : membersOwn s)
    (ht : Spares z s t) : Spares z s (forList b.members f t) :=
  ht.trans (spares_foldl fun m hm v hv => h m v (by rw [hv, ht.cfg]; exact ((own x b hb).2 m hm).2))

theorem spares_suspendMembers (hx : x ≠ z) (own : membersOwn s) : Spares z s (suspendMembers x s) := by
  unfold suspendMembers; split
  · exact .refl z own
  · next b hb =>
    refine spares_members hb (fun m t hm => spares_modEvap hm hx) own (spares_modBatch hx ?_ own)
    exact fun _ => rfl

theorem spares_reevaluateDock (d : DoorId) (hz : 0 ≠ z) (own : membersOwn s) : Spares z s (reevaluateDock d s) := by
  unfold reevaluateDock; split
  · exact .refl z own
  · split
    · exact .refl z own
    · exact .of_only (gs := [.docks, .ports]) (by simp [covers]) rfl own
    · refine Spares.trans ?_ (.of_only (notify_only ..) rfl)
      refine Spares.trans ?_ (.of_only (trackDock_only (grantDock_only d _) rfl) rfl)
      exact spares_onlyIf (spares_suspendMembers hz) own

theorem spares_reevaluatePortal (hx : x ≠ z) (hq : portalOf s x q = true) (own : membersOwn s) :
    Spares z s (reevaluatePortal q s) := by
  unfold reevaluatePortal; split
  · exact .refl z own
  · split
    · exact .refl z own
    · exact .of_onePortal (gs := [.portals, .ports])
        (onePortal_trackPortal ((onePortal_modPortal _ s).trans (onePortal_endPendingPortal _ _))) (by simp [covers]) rfl hx hq own
    · next sus _ =>
      refine Spares.trans ?_ (.of_only (notify_only ..) rfl)
      have suspended : Spares z s (onlyIf sus (suspendMembers (portalZone s q)) s) := by
        rw [portalZone_eq hq]; exact spares_onlyIf (spares_suspendMembers hx) own
      exact suspended.trans (.of_onePortal (gs := [.portals]) (onePortal_trackPortal (onePortal_modPortal _ _)) (by simp [covers]) rfl hx
        ((portalOf_of_cfg suspended.cfg).trans hq))

theorem spares_doorsLeftHeat (hx : x ≠ z) (own : membersOwn s) : Spares z s (doorsLeftHeat x s) := by
  unfold doorsLeftHeat; split
  · next zero => exact spares_forEach (fun d t _ => spares_onlyIf (spares_reevaluateDock d (zero ▸ hx))) own
  · refine spares_forEach (fun q t _ own => ?_) own
    unfold onlyIf; split
    · next hq => exact spares_reevaluatePortal hx hq own
    · exact .refl z own

/-- A turn over the portals of another zone, by a change of one portal at a time. -/
theorem spares_portals {gs : List Group} {cond : PortalId → Part → Bool} {f : PortalId → Part → Part} (hx : x ≠ z)
    (of : ∀ q t, cond q t = true → portalOf t x q = true) (one : ∀ q t, OnePortal q t (f q t)) (only : ∀ q t, Only gs t (f q t))
    (c : (gs.contains .batches || gs.contains .cfg || gs.contains .evaps) = false) (own : membersOwn s) :
    Spares z s (forEach (n := 12) (fun q s => onlyIf (cond q s) (f q) s) s) := by
  refine spares_forEach (fun q t _ own => ?_) own
  unfold onlyIf; split
  · next hq => exact .of_onePortal (one q t) (only q t) c hx (of q t hq) own
  · exact .refl z own

theorem spares_portalsEnterBulk (hx : x ≠ z) (own : membersOwn s) : Spares z s (portalsEnterBulk x s) :=
  spares_portals (cond := fun q s => portalOf s x q && bulkHolds (s.portals.get q)) hx (fun _ _ h => (Bool.and_eq_true_iff.mp h).1)
    (fun _ => onePortal_holdOpen) holdOpen_only rfl own

theorem spares_portalsUnblock (hx : x ≠ z) (own : membersOwn s) : Spares z s (portalsUnblock x s) :=
  spares_portals (cond := fun q s => portalOf s x q && (s.portals.get q).state == .blocked && !portalBlocked s q) hx
    (fun _ _ h => (Bool.and_eq_true_iff.mp (Bool.and_eq_true_iff.mp h).1).1) (fun _ => onePortal_takePortal) takePortal_only rfl own

theorem spares_zoneLeftHeat (hx : x ≠ z) (own : membersOwn s) : Spares z s (zoneLeftHeat x s) := by
  unfold zoneLeftHeat; split
  · refine Spares.trans ?_ (.of_only (modeNotice_only ..) rfl)
    exact Spares.trans (.of_only (setMode_only ..) rfl own) (spares_portalsEnterBulk hx)
  · exact .refl z own

theorem demanding_zone {e : EvapId} (h : e ∈ demanding s x) : (s.cfg.evaps.get e).zone = some x :=
  (evapOf_own (Bool.and_eq_true_iff.mp (List.mem_filter.mp h).2).1).2

theorem batchRule_batch (hx : x ≠ z) (s : Part) : (batchRule x s).batches.get z = s.batches.get z := by
  have put (b : Option Batch) (es : List EvapId) : (gatherMembers es (putBatch x b s)).batches.get z = s.batches.get z := by
    rw [(gatherMembers_only ..).within .batches (by decide), putBatch_get_ne _ _ hx.symm]
  unfold batchRule; dsimp only; split
  · split
    · exact put _ _
    · rfl
  · split
    · exact put _ _
    · rfl

/-- The batch rule of another zone puts that zone's batch, and gathers its evaporators in demand (R154). -/
theorem spares_batchRule (hx : x ≠ z) (own : membersOwn s) : Spares z s (batchRule x s) := by
  have only := batchRule_only x s
  refine ⟨owns_batchRule (.refl s) own, only.within .cfg (by decide), batchRule_batch hx s, fun e he => ?_,
    fun q _ => by rw [only.within .portals (by decide)]⟩
  have out : e ∉ demanding s x := fun hm => hx (Option.some_inj.mp ((demanding_zone hm).symm.trans he))
  obtain same | ⟨t, same, gathers⟩ := batchRule_cases x s
  · rw [same]
  · rw [gathers, gatherMembers_get _ out, same]

theorem spares_treatMembers {b : Batch} (hb : s.batches.get x = some b) (hx : x ≠ z) (c : BatchEnd) (own : membersOwn s) :
    Spares z s (treatMembers b.members c s) := by
  unfold treatMembers; split
  · exact spares_members hb (fun m t hm => spares_modEvap hm hx) own (.refl z own)
  · refine spares_members hb (fun m t hm own => ?_) own (.refl z own)
    have dropped : Spares z t (dropDemand m.evap t) := by
      unfold dropDemand endOverdue
      refine Spares.trans ?_ (.of_only (endCondition_only ..) rfl)
      exact (spares_modEvap hm hx own).trans (spares_modEvap hm hx)
    exact dropped.trans (spares_modEvap (by rw [dropped.cfg]; exact hm) hx)
  · exact .refl z own

theorem spares_endBatch (hx : x ≠ z) (c : BatchEnd) (own : membersOwn s) : Spares z s (endBatch x c s) := by
  unfold endBatch; split
  · exact .refl z own
  · next b hb =>
    dsimp only
    refine Spares.trans ?_ (spares_batchRule hx)
    refine Spares.trans ?_ (spares_onlyIf (spares_portalsUnblock hx))
    refine Spares.trans ?_ (.of_only (onlyIf_only (zoneBatchEnded_only ..)) rfl)
    refine Spares.trans ?_ fun own => ⟨owns_putBatch_none (.refl _) own, rfl, putBatch_get_ne _ _ hx.symm, fun _ _ => rfl, fun _ _ => rfl⟩
    exact Spares.trans (spares_treatMembers hb hx c own) (.of_only (notify_only ..) rfl)

theorem spares_enterDrip (hx : x ≠ z) (own : membersOwn s) : Spares z s (enterDrip x s) := by
  unfold enterDrip; split
  · exact .refl z own
  · next b hb =>
    refine spares_members hb (fun m t hm => spares_modEvap hm hx) own (spares_modBatch hx ?_ own)
    exact fun _ => rfl

theorem spares_leaveHeatCheck (hx : x ≠ z) (own : membersOwn s) : Spares z s (leaveHeatCheck x s) := by
  unfold leaveHeatCheck; split
  · exact .refl z own
  · split
    · refine Spares.trans ?_ (spares_eitherOrder (fun _ _ => spares_zoneLeftHeat hx) fun _ _ => spares_doorsLeftHeat hx)
      split
      · exact Spares.trans (spares_modBatch (f := clearSuspension) hx (fun _ => rfl) own) (spares_endBatch hx _)
      · exact spares_enterDrip hx own
    · exact .refl z own

/-! ### The arbiter -/

theorem firstBy_mem {α : Type} {before : α → α → Bool} {l : List α} {a : α} (h : firstBy before l = some a) : a ∈ l := by
  induction l generalizing a with
  | nil => cases h
  | cons b l ih =>
    unfold firstBy at h
    split at h
    · cases h; exact List.mem_cons_self
    · next c hc =>
      rw [Option.some_inj] at h
      split at h
      · subst h; exact List.mem_cons_of_mem b (ih hc)
      · subst h; exact List.mem_cons_self

theorem batchOf_some {e : EvapId} {b : Batch} (h : batchOf s e = some (x, b)) : s.batches.get x = some b ∧ isMember b e = true := by
  obtain ⟨y, -, hy⟩ := List.exists_of_findSome?_eq_some h
  split at hy
  · next c hc =>
    split at hy
    · cases hy; exact ⟨hc, ‹_›⟩
    · cases hy
  · cases hy

/-- The first waiting evaporator is a member of a batch that is not suspended (R160). -/
theorem firstWaiting_batch {e : EvapId} (h : firstWaiting s = some e) :
    ∃ x b, batchOf s e = some (x, b) ∧ b.suspended = false := by
  have waits : inWaitSet s e = true := (List.mem_filter.mp (firstBy_mem h)).2
  rw [inWaitSet, Bool.and_eq_true] at waits
  split at waits
  · next x b hb => exact ⟨x, b, hb, by simpa using (Bool.and_eq_true_iff.mp waits.2).2⟩
  · exact absurd waits.2 Bool.false_ne_true

/-- The zone has no batch that could take a heat slot. -/
def suspendedAt (z : ZoneId) (s : Part) : Prop := ∀ b, s.batches.get z = some b → b.suspended = true

theorem spares_serveWaiting {e : EvapId} (waits : firstWaiting s = some e) (quiet : suspendedAt z s) (own : membersOwn s) :
    Spares z s (serveWaiting e s) := by
  obtain ⟨x, b, hb, awake⟩ := firstWaiting_batch waits
  obtain ⟨batch, member⟩ := batchOf_some hb
  have hx : x ≠ z := fun same => by
    subst same
    exact Bool.false_ne_true (awake.symm.trans (quiet b batch))
  have zone : batchZone s e = x := by rw [batchZone, hb]
  have bound : (s.cfg.evaps.get e).zone = some x := by
    obtain ⟨m, hm, he⟩ := List.any_eq_true.mp member
    rw [← eq_of_beq he]; exact ((own x b batch).2 m hm).2
  unfold serveWaiting; rw [zone]; split
  · refine Spares.trans ?_ (spares_leaveHeatCheck hx)
    refine Spares.trans ?_ (.of_only (raiseAlarm_only ..) rfl)
    unfold giveOutcome; rw [zone]
    exact (spares_modEvap bound hx own).trans (spares_modBatch hx (setOutcome_roster e _))
  · exact spares_modEvap bound hx own

theorem spares_arbiterRounds (n : Nat) (quiet : suspendedAt z s) (own : membersOwn s) : Spares z s (arbiterRounds n s) := by
  induction n generalizing s with
  | zero => exact .refl z own
  | succ n ih =>
    unfold arbiterRounds; split
    · split
      · next e waits =>
        have served := spares_serveWaiting waits quiet own
        exact served.trans (ih (by rw [suspendedAt, served.batch]; exact quiet))
      · exact .refl z own
    · exact .refl z own

end Spares

/-! ### The suspension (R167) -/

section Suspension

variable {z : ZoneId} {s : Part} {b : Batch}

/-- The batch of a zone that is suspended now. -/
def suspendedBatch (s : Part) (b : Batch) : Batch :=
  { b with
    suspendCount := b.suspendCount + 1, suspended := true, suspendedSince := some s.time
    suspensionDl := some (addTime s.time s.cfg.defrost.maxSuspended) }

theorem suspendMembers_some (h : s.batches.get z = some b) :
    suspendMembers z s = forList b.members (fun m => modEvap m.evap (backToWait s.time)) (modBatch z (suspendedBatch s) s) := by
  rw [suspendMembers, h]; rfl

theorem suspendMembers_batch (h : s.batches.get z = some b) : (suspendMembers z s).batches.get z = some (suspendedBatch s b) := by
  have only := forList_only (fun (m : Member) t => modEvap_only m.evap (backToWait s.time) t) b.members (modBatch z (suspendedBatch s) s)
  rw [suspendMembers_some h, only.within .batches (by decide), modBatch_get, h]; rfl

theorem suspendMembers_evap (h : s.batches.get z = some b) (own : membersOwn s) {m : Member} (hm : m ∈ b.members) :
    (suspendMembers z s).evaps.get m.evap = backToWait s.time (s.evaps.get m.evap) := by
  rw [suspendMembers_some h]
  exact forList_modEvap_get (key := Member.evap) (f := fun _ => backToWait s.time) (own z b h).1 hm

theorem suspendedAt_suspendMembers (z : ZoneId) (s : Part) : suspendedAt z (suspendMembers z s) := by
  intro c hc
  cases h : s.batches.get z with
  | none => rw [suspendMembers, h] at hc; simp [h] at hc
  | some b =>
    rw [suspendMembers_batch h, Option.some_inj] at hc
    subst hc; rfl

/-- The slots freed by a suspension go to other zones' batches. -/
theorem spares_suspendBatch (own : membersOwn s) : Spares z (suspendMembers z s) (suspendBatch z s) :=
  spares_arbiterRounds 16 (suspendedAt_suspendMembers z s) (owns_suspendMembers (.refl s) own)

theorem suspendBatch_portals (own : membersOwn s) {q : PortalId} (hq : portalOf s z q = true) :
    (suspendBatch z s).portals.get q = s.portals.get q := by
  have only := suspendMembers_only z s
  rw [(spares_suspendBatch own).portals q ((portalOf_of_cfg (only.within .cfg (by decide))).trans hq), only.within .portals (by decide)]

theorem suspendBatch_suspended (own : membersOwn s) : suspendedNow z s (suspendBatch z s) := by
  intro b hb
  have spared := spares_suspendBatch (z := z) own
  refine ⟨⟨suspendedBatch s b, spared.batch.trans (suspendMembers_batch hb), rfl, rfl, rfl, rfl, rfl, rfl⟩, fun m hm heats => ?_⟩
  have zone : ((suspendMembers z s).cfg.evaps.get m.evap).zone = some z := by
    rw [(suspendMembers_only z s).within .cfg (by decide)]; exact ((own z b hb).2 m hm).2
  rw [spared.evaps m.evap zone, suspendMembers_evap hb own hm, backToWait, if_pos heats]
  exact ⟨rfl, rfl, rfl, fun h start => by simp [stopHeat, start]⟩

end Suspension

/-! ### The portals that go HELD (R85) -/

section Held

variable {q : PortalId} {z : ZoneId} {s : Part}

/-- A portal that the zone's entry to BULK makes HELD. -/
def heldPortal (k : Portal) : Portal :=
  { k with
    state := .held, openCommand := true, grantDl := none, travelDl := none, pending := none, revision := (k.revision + 1) % 65536 }

theorem trackPortal_moved {f : Part → Part} (h : portalMoved (s.portals.get q) ((f s).portals.get q) = true) :
    (trackPortal q f s).portals.get q = { (f s).portals.get q with revision := wrap16 ((f s).portals.get q).revision } := by
  unfold trackPortal; dsimp only
  rw [h, onlyIf, if_pos rfl, bumpPortal, modPortal_get]

theorem holdOpen_get (h : (s.portals.get q).state ≠ .held) : (holdOpen q s).portals.get q = heldPortal (s.portals.get q) := by
  have held : (becomeHeld q s).portals.get q
      = { s.portals.get q with state := .held, openCommand := true, grantDl := none, travelDl := none, pending := none } := by
    rw [becomeHeld, endPendingPortal_get, modPortal_get]
  unfold holdOpen
  rw [trackPortal_moved, held]
  · rfl
  · rw [held]; simp [portalMoved, h]

theorem bulkHolds_iff {k : Portal} : bulkHolds k = true ↔ k.claim = .none ∧ k.state ∈ [.closed, .granted, .open, .deferred] := by
  simp [bulkHolds, or_assoc]

theorem bulkHolds_unheld {k : Portal} (h : bulkHolds k = true) : k.state ≠ .held := fun held => by
  simp [bulkHolds, held] at h

theorem portalsEnterBulk_get (hq : portalOf s z q = true) :
    (portalsEnterBulk z s).portals.get q
      = if bulkHolds (s.portals.get q) = true then heldPortal (s.portals.get q) else s.portals.get q := by
  unfold portalsEnterBulk
  refine forEach_portal (P := fun k => k = if bulkHolds (s.portals.get q) = true then heldPortal (s.portals.get q) else s.portals.get q)
    (fun i t => onePortal_onlyIf (onePortal_holdOpen t)) (fun i t => onlyIf_only (holdOpen_only i t)) rfl fun t same cfg _ => ?_
  rw [portalOf_of_cfg cfg, hq, Bool.true_and, same]
  unfold onlyIf; split
  · next holds => rw [holdOpen_get (by rw [same]; exact bulkHolds_unheld holds), same]
  · exact same

end Held

/-! ### The requests by the mode of the zone -/

section ByMode

variable {z : ZoneId} {s : Part}

theorem zoneBulk_plantHeld (hz : z ≠ 0) (h : (s.zones.get z).mode = .draining ∨ (s.zones.get z).mode = .pulldown) :
    zoneBulk z s = refuse .held s := by
  unfold zoneBulk; rw [if_neg hz]
  obtain h | h := h <;> rw [h]

theorem zoneBulk_bulk (hz : z ≠ 0) (h : (s.zones.get z).mode = .bulk) :
    zoneBulk z s = reply .ok [] (modeNotice z .bulk .request (setMode z .bulk (bulkDeadline s) s)) := by
  unfold zoneBulk; rw [if_neg hz, h]

theorem zoneBulk_pending (hz : z ≠ 0) (h : (s.zones.get z).mode = .bulkPending) : zoneBulk z s = reply .deferred [] s := by
  unfold zoneBulk; rw [if_neg hz, h]

theorem zoneBulk_deferred (hz : z ≠ 0) (h : (s.zones.get z).mode = .open) (answer : defrostAnswer s z = .deferred) :
    zoneBulk z s = reply .deferred [] (modeNotice z .open .request (setMode z .bulkPending none s)) := by
  unfold zoneBulk; rw [if_neg hz, h, answer]

theorem zoneBulk_refused (hz : z ≠ 0) (h : (s.zones.get z).mode = .open) (answer : defrostAnswer s z = .refused) :
    zoneBulk z s = refuse .zoneDefrost s := by
  unfold zoneBulk; rw [if_neg hz, h, answer]

/-- An OPEN zone enters BULK, on proceed-suspended from the part with its batch suspended (R49, R167). -/
theorem zoneBulk_enters (hz : z ≠ 0) (h : (s.zones.get z).mode = .open)
    (answer : defrostAnswer s z = .proceed ∨ defrostAnswer s z = .proceedSuspended) :
    ∃ u, zoneBulk z s = reply .ok [] (enterBulk z u) ∧ Only defrostGroups s u
      ∧ (defrostAnswer s z = .proceed ∨ membersOwn s → ∀ q, portalOf s z q = true → u.portals.get q = s.portals.get q)
      ∧ (defrostAnswer s z = .proceedSuspended → membersOwn s → suspendedNow z s u) := by
  unfold zoneBulk; rw [if_neg hz, h]
  obtain answer | answer := answer <;> rw [answer]
  · exact ⟨s, rfl, .refl _ s, fun _ _ _ => rfl, fun other => Answer.noConfusion other⟩
  · exact ⟨_, rfl, suspendBatch_only z s, fun own q hq => suspendBatch_portals (own.resolve_left Answer.noConfusion) hq,
      fun _ own => suspendBatch_suspended own⟩

theorem modeNotice_setMode_get (m old : Mode) (dl : Option Nat) (c : ModeCause) :
    ((modeNotice z old c (setMode z m dl s)).zones.get z).mode = m ∧ ((modeNotice z old c (setMode z m dl s)).zones.get z).bulkDl = dl := by
  rw [(modeNotice_only ..).within .zones (by decide), setMode_get]
  exact ⟨rfl, rfl⟩

theorem modeNotice_setMode_only (m old : Mode) (dl : Option Nat) (c : ModeCause) :
    Only defrostGroups s (modeNotice z old c (setMode z m dl s)) := by simp [defrostGroups, covers]

theorem enterBulk_only (z : ZoneId) (s : Part) : Only [.zones, .portals, .ports] s (enterBulk z s) := by
  simp [enterBulk, covers]

theorem enterBulk_mode (z : ZoneId) (s : Part) :
    ((enterBulk z s).zones.get z).mode = .bulk ∧ ((enterBulk z s).zones.get z).bulkDl = bulkDeadline s := by
  rw [enterBulk, (modeNotice_only ..).within .zones (by decide), (portalsEnterBulk_only ..).within .zones (by decide), setMode_get]
  exact ⟨rfl, rfl⟩

theorem enterBulk_portal {q : PortalId} (hq : portalOf s z q = true) :
    (enterBulk z s).portals.get q = if bulkHolds (s.portals.get q) = true then heldPortal (s.portals.get q) else s.portals.get q := by
  rw [enterBulk, (modeNotice_only ..).within .portals (by decide)]
  exact portalsEnterBulk_get hq

theorem bulkDeadline_of_only {gs : List Group} {t : Part} (h : Only gs s t) (c : (gs.contains .time || gs.contains .cfg) = false) :
    bulkDeadline t = bulkDeadline s := by
  simp only [Bool.or_eq_false_iff, List.contains_eq_mem, decide_eq_false_iff_not] at c
  rw [bulkDeadline, h.within .time c.1, h.within .cfg c.2]; rfl

end ByMode

/-- The answer to the defrost question by the batch of the zone (R166, R169). -/
theorem defrostAnswer_some {s : Part} {z : ZoneId} {b : Batch} (h : s.batches.get z = some b) :
    (b.kind = .normal → b.phase ≠ .heat → defrostAnswer s z = .proceed)
      ∧ (b.kind = .forced → b.phase = .gather → defrostAnswer s z = .proceed)
      ∧ (b.kind = .forced → b.phase ≠ .gather → defrostAnswer s z = .refused)
      ∧ (b.kind = .normal → b.phase = .heat → defrostAnswer s z =
          if b.suspended then (if b.withdrawn then .deferred else .proceed)
          else if (s.zones.get z).mode = .bulk then .deferred
          else if b.suspendCount < b.suspendLimit then .proceedSuspended else .deferred) := by
  unfold defrostAnswer; rw [h]; dsimp only
  refine ⟨fun kind phase => ?_, fun kind phase => ?_, fun kind phase => ?_, fun kind phase => ?_⟩ <;> rw [kind]
  · simp
  · rw [phase]
  · simp
  · rw [phase]

/-- The deadline of a zone that enters BULK by a request (R49). -/
theorem bulkDeadline_renewed (s : State) : bulkDeadline (renewed .warehouse s)
    = if (renewed .warehouse s).cfg.staging.bulkTime = 0 then none
      else some (addTime s.part.time (renewed .warehouse s).cfg.staging.bulkTime) := by
  rw [bulkDeadline, show (renewed .warehouse s).time = s.part.time from renew_time _ _]

section Request

variable {s : State} {tag : BitVec 8} {body : List (BitVec 8)} {z : ZoneId} {st : Status} {u : Part}

theorem refuses_zoneBulk (ht : takes .warehouse s) (hb : readZone body = some z) (ins : zoneInService s.part z = true)
    (hh : zoneBulk z (renewed .warehouse s) = reply st [] (renewed .warehouse s)) :
    readsOut (.zoneBulk .warehouse tag body) .warehouse 7 tag st [] s :=
  readsOut_zoneReply (fun _ => rfl) ht (by decide) hb ins hh

theorem answers_zoneBulk (ht : takes .warehouse s) (hb : readZone body = some z) (ins : zoneInService s.part z = true)
    (hh : zoneBulk z (renewed .warehouse s) = reply st [] u) (only : Only defrostGroups (renewed .warehouse s) u) :
    ∃ t, exec (.zoneBulk .warehouse tag body) s = .next t ∧ t.pending = s.pending ∧ answered .warehouse 7 tag st [] t
      ∧ Within [] u t.part ∧ Within (mayChange (.zoneBulk .warehouse tag body)) (renewed .warehouse s) t.part := by
  obtain ⟨t, e, kept, ans, same⟩ :=
    answers_zoneReply (c := .zoneBulk .warehouse tag body) (fun _ => rfl) ht (by decide) hb ins hh only rfl
  exact ⟨t, e, kept, ans, same, only.within.trans (same.mono (by simp))⟩

theorem setsMode_zoneBulk (ht : takes .warehouse s) (hb : readZone body = some z) (ins : zoneInService s.part z = true)
    {m old : Mode} {deadline : Option Nat}
    (hh : zoneBulk z (renewed .warehouse s) = reply st [] (modeNotice z old .request (setMode z m deadline (renewed .warehouse s)))) :
    ∃ t, exec (.zoneBulk .warehouse tag body) s = .next t ∧ t.pending = s.pending ∧ answered .warehouse 7 tag st [] t
      ∧ (t.part.zones.get z).mode = m ∧ (t.part.zones.get z).bulkDl = deadline
      ∧ Within (mayChange (.zoneBulk .warehouse tag body)) (renewed .warehouse s) t.part := by
  obtain ⟨t, e, kept, ans, same, within⟩ := answers_zoneBulk ht hb ins hh (modeNotice_setMode_only m old deadline .request)
  obtain ⟨mode, deadline⟩ := modeNotice_setMode_get (z := z) (s := renewed .warehouse s) m old deadline .request
  have zones := same .zones (by simp)
  exact ⟨t, e, kept, ans, by rw [zones]; exact mode, by rw [zones]; exact deadline, within⟩

end Request

/-- Settles O29: the answer by the batch, then ZONE BULK by the mode of the zone and the answer. -/
theorem zoneBulkFollowsTheAnswer : Obligations.ZoneBulkFollowsTheAnswer := by
  refine ⟨fun s z b => ⟨fun none => ?none, fun some => ?some⟩, fun s tag body z ht hb => ?request⟩
  case none => unfold defrostAnswer; rw [none]
  case some =>
    obtain ⟨normal, gather, forced, heat⟩ := defrostAnswer_some some
    refine ⟨normal, gather, forced, fun k p s w => ?_, fun k p s w => ?_, fun k p s m => ?_, fun k p s m c => ?_, fun k p s c => ?_⟩ <;>
      rw [heat k p, s]
    · simp [w]
    · simp [w]
    · simp [m]
    · simp [m, c]
    · simp [not_lt.mpr c]
  case request =>
    have dl := bulkDeadline_renewed s
    refine ⟨fun out => readsOut_zoneOut (fun _ => rfl) ht (by decide) hb out, fun ins => ⟨fun zero => ?zero, fun hz hm => ?plant,
      fun hz hm => ?bulk, fun hz hm => ?pending, fun hz hm answer => ?enters, fun hz hm answer => ?deferred, fun hz hm answer => ?refused⟩⟩
    case zero => exact refuses_zoneBulk ht hb ins (if_pos zero)
    case plant => exact refuses_zoneBulk ht hb ins (zoneBulk_plantHeld hz hm)
    case bulk => rw [← dl]; exact setsMode_zoneBulk ht hb ins (zoneBulk_bulk hz hm)
    case pending => exact refuses_zoneBulk ht hb ins (zoneBulk_pending hz hm)
    case deferred => exact setsMode_zoneBulk ht hb ins (zoneBulk_deferred hz hm answer)
    case refused => exact refuses_zoneBulk ht hb ins (zoneBulk_refused hz hm answer)
    case enters =>
      obtain ⟨u, hh, only, portals, suspends⟩ := zoneBulk_enters hz hm answer
      have entered := enterBulk_only z u
      obtain ⟨t, e, kept, ans, same, within⟩ := answers_zoneBulk ht hb ins hh (only.trans (entered.mono rfl))
      have zones := same .zones (by simp)
      obtain ⟨mode, deadline⟩ := enterBulk_mode z u
      refine ⟨t, e, kept, ans, by rw [zones]; exact mode, ?_, within, fun own q hq => ?_, fun sus own => ?_⟩
      · rw [zones, deadline, bulkDeadline_of_only only rfl, dl]
      · rw [same .portals (by simp), enterBulk_portal ((portalOf_of_cfg (only.within .cfg (by decide))).trans hq), portals own q hq]
        simp only [bulkHolds_iff]; rfl
      · intro b hb
        rw [same .batches (by simp), same .evaps (by simp), entered.within .batches (by decide), entered.within .evaps (by decide)]
        exact suspends sus own b hb

end Sys2Proof.Machine
end

section
/-! The exposure interval (O28: R47, R89, R134 to R136): what an update of the pallets at one place changes, and what it leaves alone. -/

namespace Sys2Proof.Machine

open Sys2Proof

/-! ### Zones and portals under a drain -/

/-- A zone changes in its mode and BULK deadline at most, and a portal keeps its settle-from and its frost carry. -/
structure Drains (s t : Part) : Prop where
  zones : ∀ z, ∃ m dl, t.zones.get z = { s.zones.get z with mode := m, bulkDl := dl }
  portals : ∀ q, (t.portals.get q).settleFrom = (s.portals.get q).settleFrom ∧ (t.portals.get q).carry = (s.portals.get q).carry

section Drains

variable {s t u : Part}

theorem Drains.refl (s : Part) : Drains s s := ⟨fun _ => ⟨_, _, rfl⟩, fun _ => ⟨rfl, rfl⟩⟩

theorem Drains.trans (h : Drains s t) (h' : Drains t u) : Drains s u := by
  refine ⟨fun z => ?_, fun q => ⟨(h'.portals q).1.trans (h.portals q).1, (h'.portals q).2.trans (h.portals q).2⟩⟩
  obtain ⟨m, dl, first⟩ := h.zones z
  obtain ⟨m', dl', second⟩ := h'.zones z
  exact ⟨m', dl', by rw [second, first]⟩

theorem Drains.of_eq (hz : t.zones = s.zones) (hp : t.portals = s.portals) : Drains s t :=
  ⟨fun _ => ⟨_, _, by rw [hz]⟩, fun _ => by rw [hp]; exact ⟨rfl, rfl⟩⟩

theorem Drains.of_only {gs : List Group} (h : Only gs s t) (c : (gs.contains .zones || gs.contains .portals) = false) : Drains s t := by
  simp only [Bool.or_eq_false_iff, List.contains_eq_mem, decide_eq_false_iff_not] at c
  exact .of_eq (h.within .zones c.1) (h.within .portals c.2)

theorem drains_foldl {α : Type} {f : α → Part → Part} (h : ∀ a t, Drains t (f a t)) (l : List α) (s : Part) :
    Drains s (l.foldl (fun s a => f a s) s) := by
  induction l generalizing s with
  | nil => exact .refl s
  | cons a l ih => exact (h a s).trans (ih _)

theorem drains_onlyIf {b : Bool} {f : Part → Part} (h : Drains s (f s)) : Drains s (onlyIf b f s) := by
  unfold onlyIf; split
  · exact h
  · exact .refl s

theorem drains_eitherOrder {b : Bool} {f g : Part → Part} (hf : ∀ t, Drains t (f t)) (hg : ∀ t, Drains t (g t)) (s : Part) :
    Drains s (eitherOrder b f g s) := by
  have drawn : Drains s { s with draws := s.draws + 1 } := .of_eq rfl rfl
  unfold eitherOrder; split
  · unfold unordered; dsimp only; split
    · exact (drawn.trans (hf _)).trans (hg _)
    · exact (drawn.trans (hg _)).trans (hf _)
  · exact (hf _).trans (hg _)

theorem drains_portalsBlock (z : ZoneId) (s : Part) : Drains s (portalsBlock z s) := by
  refine drains_foldl (fun q t => drains_onlyIf ?_) _ s
  set f : Part → Part := fun s => endPendingPortal q .cancelled
    (modPortal q (fun k => { k with state := .blocked, openCommand := false, grantDl := none }) s) with hf
  have one : OnePortal q t (trackPortal q f t) :=
    onePortal_trackPortal ((onePortal_modPortal _ t).trans (onePortal_endPendingPortal _ _))
  have only : Only [.portals, .ports] t (trackPortal q f t) := trackPortal_only (by simp [hf, covers]) rfl
  refine ⟨fun z => ⟨_, _, by rw [only.within .zones (by decide)]⟩, fun y => ?_⟩
  by_cases hy : y = q
  · subst hy
    obtain ⟨n, e⟩ := trackPortal_get (q := y) (s := t) f
    rw [e, hf]; dsimp only
    rw [endPendingPortal_get, modPortal_get]; exact ⟨rfl, rfl⟩
  · rw [one.portals y hy]; exact ⟨rfl, rfl⟩

theorem drains_setMode (z : ZoneId) (m : Mode) (dl : Option Nat) (s : Part) : Drains s (setMode z m dl s) := by
  refine ⟨fun x => ?_, fun _ => ⟨rfl, rfl⟩⟩
  by_cases hx : x = z
  · subst hx; exact ⟨m, dl, setMode_get m dl⟩
  · exact ⟨_, _, modZone_get_ne _ s hx⟩

theorem drains_drainCheck (z : ZoneId) (s : Part) : Drains s (drainCheck z s) := by
  unfold drainCheck; split
  · refine Drains.trans ?_ (.of_only (modeNotice_only ..) rfl)
    exact (drains_setMode ..).trans (drains_portalsBlock z _)
  · exact .refl s

theorem drains_endMove (id : Nat) (note : Option (MoveEnd → NoticeBody)) (s : Part) : Drains s (endMove id note s) := by
  unfold endMove; split
  · exact .refl s
  · split
    · exact .refl s
    · next m _ =>
      dsimp only
      set t := modPallet id _ _ with ht
      have moved : Drains s t := by rw [ht]; split <;> exact .of_eq rfl rfl
      split
      · exact moved.trans (drains_foldl drains_drainCheck _ t)
      · exact moved.trans (drains_eitherOrder (fun _ => .of_only (notify_only ..) rfl) (fun _ => drains_foldl drains_drainCheck _ _) t)

theorem drains_holdCheck (id : Nat) (s : Part) : Drains s (holdCheck id s) := by
  unfold holdCheck; split
  · exact .refl s
  · dsimp only; split
    · refine Drains.trans ?_ (drains_onlyIf (drains_endMove ..))
      refine Drains.trans ?_ (.of_only (raiseAlarm_only ..) rfl)
      exact Drains.trans (.of_only (modPallet_only ..) rfl) (.of_only (notify_only ..) rfl)
    · exact .refl s

theorem drains_updatePallet (id : Nat) (s : Part) : Drains s (updatePallet id s) := by
  unfold updatePallet; split
  · exact .refl s
  · split
    · exact .refl s
    · refine Drains.trans ?_ (.of_only (dwellCheck_only ..) rfl)
      refine Drains.trans ?_ (drains_holdCheck id _)
      exact Drains.trans (.of_only (modPallet_only ..) rfl) (.of_only (warnCheck_only ..) rfl)

theorem drains_updateAt (l : Loc) (s : Part) : Drains s (updateAt l s) := drains_foldl drains_updatePallet _ s

/-- The air at each place is as it was: an update changes no zone temperature and no door report. -/
theorem airTemp_eq (h : Drains s t) (hd : t.docks = s.docks) (hc : t.cfg = s.cfg) (l : Loc) : airTemp t l = airTemp s l := by
  have temp (z : ZoneId) : (t.zones.get z).temp = (s.zones.get z).temp := by
    obtain ⟨m, dl, e⟩ := h.zones z
    rw [e]
  cases l with
  | trailer d => rw [airTemp, airTemp, hd, hc]
  | hall => exact temp 0
  | zone z => exact temp z

end Drains

/-! ### The pallets under an update (R135, R136) -/

/-- What an update computes with: identifier, place, class, and the thermal fields. -/
def heat (p : Pallet) : Nat × Loc × ClassId × Int × Int × Nat × Nat :=
  (p.id, p.loc, p.cls, p.estimate, p.remainder, p.updated, p.exposure)

/-- Of the pallets only the one named changes, and not in what an update computes with. -/
def Touches (id : Nat) (s t : Part) : Prop := ∃ g : Pallet → Pallet, (∀ p, heat (g p) = heat p) ∧ t.pallets = (modPallet id g s).pallets

section Touches

variable {id : Nat} {s t u : Part}

theorem heat_id {p q : Pallet} (h : heat p = heat q) : p.id = q.id := congrArg (·.1) h

theorem Touches.of_eq (h : t.pallets = s.pallets) : Touches id s t := by
  refine ⟨fun p => p, fun _ => rfl, h.trans ?_⟩
  simp [modPallet]

theorem Touches.of_only {gs : List Group} (h : Only gs s t) (c : gs.contains .pallets = false) : Touches id s t :=
  .of_eq (h.within .pallets (by simpa using c))

theorem Touches.trans (h : Touches id s t) (h' : Touches id t u) : Touches id s u := by
  obtain ⟨g, keeps, e⟩ := h
  obtain ⟨g', keeps', e'⟩ := h'
  refine ⟨g' ∘ g, fun p => (keeps' _).trans (keeps p), ?_⟩
  rw [e', modPallet, e]
  simp only [modPallet, List.map_map]
  refine List.map_congr_left fun p _ => ?_
  by_cases hp : p.id = id
  · have same := (heat_id (keeps p)).trans hp
    simp [hp, same]
  · simp [hp]

theorem touches_modPallet {g : Pallet → Pallet} (keeps : ∀ p, heat (g p) = heat p) (s : Part) : Touches id s (modPallet id g s) :=
  ⟨g, keeps, rfl⟩

theorem touches_onlyIf {b : Bool} {f : Part → Part} (h : Touches id s (f s)) : Touches id s (onlyIf b f s) := by
  unfold onlyIf; split
  · exact h
  · exact .of_eq rfl

theorem touches_warnCheck (id : Nat) (s : Part) : Touches id s (warnCheck id s) := by
  unfold warnCheck; split
  · exact .of_eq rfl
  · dsimp only; split
    · refine Touches.trans ?_ (.of_only (raiseAlarm_only ..) rfl)
      refine Touches.trans (touches_modPallet ?_ s) (.of_only (notify_only ..) rfl)
      exact fun _ => rfl
    · exact .of_eq rfl

theorem touches_dwellCheck (id : Nat) (s : Part) : Touches id s (dwellCheck id s) := by
  unfold dwellCheck; split
  · exact .of_eq rfl
  · split
    · refine Touches.trans (touches_modPallet ?_ s) (.of_only (raiseAlarm_only ..) rfl)
      exact fun _ => rfl
    · exact .of_eq rfl

theorem touches_endMove (id : Nat) (note : Option (MoveEnd → NoticeBody)) (s : Part) : Touches id s (endMove id note s) := by
  unfold endMove; split
  · exact .of_eq rfl
  · split
    · exact .of_eq rfl
    · dsimp only
      set t := modPallet id _ _ with ht
      have moved : Touches id s t := by
        refine Touches.trans ?_ (touches_modPallet (g := fun p => { p with move := none, status := restingStatus s p.loc }) ?_ _)
        · split <;> exact .of_eq rfl
        · exact fun _ => rfl
      have checks (l : List ZoneId) (t : Part) : Only [.zones, .portals, .ports] t (forList l drainCheck t) :=
        forList_only drainCheck_only l t
      split
      · exact moved.trans (.of_only (checks _ t) rfl)
      · exact moved.trans (.of_only (eitherOrder_only (fun _ => (notify_only ..).mono rfl) (fun _ => checks _ _) t) rfl)

theorem touches_holdCheck (id : Nat) (s : Part) : Touches id s (holdCheck id s) := by
  unfold holdCheck; split
  · exact .of_eq rfl
  · dsimp only; split
    · refine Touches.trans ?_ (touches_onlyIf (touches_endMove id _ _))
      refine Touches.trans ?_ (.of_only (raiseAlarm_only ..) rfl)
      refine Touches.trans (touches_modPallet ?_ s) (.of_only (notify_only ..) rfl)
      exact fun _ => rfl
    · exact .of_eq rfl

end Touches

/-- A pallet after an update: as it was if it was updated at this very time, and else with the thermal fields of R135 and R136. -/
def Refreshed (s : Part) (p q : Pallet) : Prop :=
  (p.updated = s.time → q = p) ∧ (p.updated ≠ s.time → heat q = heat (updatedPallet s p))

theorem Refreshed.id {s : Part} {p q : Pallet} (h : Refreshed s p q) : q.id = p.id := by
  by_cases now : p.updated = s.time
  · rw [h.1 now]
  · exact congrArg (·.1) (h.2 now)

theorem Refreshed.loc {s : Part} {p q : Pallet} (h : Refreshed s p q) : q.loc = p.loc := by
  by_cases now : p.updated = s.time
  · rw [h.1 now]
  · exact congrArg (·.2.1) (h.2 now)

/-- From the first part to the second the pallets with an identifier in the list are updated, and the others stand. -/
def UpdatedIn (l : List Nat) (s t : Part) : Prop :=
  ∃ g : Pallet → Pallet, t.pallets = s.pallets.map g
    ∧ ∀ p ∈ s.pallets, (p.id ∉ l → g p = p) ∧ (p.id ∈ l → Refreshed s p (g p))

section Updates

variable {s : Part} {l : Loc}

theorem Stampable.ids (h : Stampable s) : (s.pallets.map (·.id)).Nodup := by
  have distinct := h.distinct
  rwa [stamps, List.map_map] at distinct

theorem Stampable.eq_of_id (h : Stampable s) {p q : Pallet} (hp : p ∈ s.pallets) (hq : q ∈ s.pallets) (same : p.id = q.id) : p = q :=
  List.inj_on_of_nodup_map h.ids hp hq same

theorem Stampable.updated_le (h : Stampable s) {p : Pallet} (hp : p ∈ s.pallets) : p.updated ≤ s.time :=
  h.past _ (List.mem_map_of_mem hp)

theorem updatePallet_updates (id : Nat) (h : Stampable s) : UpdatedIn [id] s (updatePallet id s) := by
  have stands (idle : ∀ p ∈ s.pallets, p.id = id → p.updated = s.time) : UpdatedIn [id] s s :=
    ⟨fun p => p, (List.map_id' _).symm, fun p hp => ⟨fun _ => rfl, fun hid =>
      ⟨fun _ => rfl, fun other => absurd (idle p hp (List.mem_singleton.mp hid)) other⟩⟩⟩
  unfold updatePallet; split
  · next none => exact stands fun p hp hid => absurd hid (by simpa using List.find?_eq_none.mp none p hp)
  · next p found =>
    obtain ⟨mem, rfl⟩ := findPallet_id found
    split
    · refine stands fun q hq hid => ?_
      have := h.updated_le mem
      rw [h.eq_of_id hq mem hid]; omega
    · next late =>
      obtain ⟨g, keeps, e⟩ : Touches p.id (modPallet p.id (fun _ => updatedPallet s p) s) _ :=
        ((touches_warnCheck p.id _).trans (touches_holdCheck p.id _)).trans (touches_dwellCheck p.id _)
      refine ⟨fun q => if q.id = p.id then g (updatedPallet s p) else q, ?_, fun q hq => ⟨fun other => ?_, fun hid => ?_⟩⟩
      · rw [e]
        simp only [modPallet, List.map_map]
        refine List.map_congr_left fun q _ => ?_
        by_cases hid : q.id = p.id
        · simp [hid, updatedPallet]
        · simp [hid]
      · exact if_neg (List.mem_singleton.not.mp other)
      · obtain rfl := h.eq_of_id hq mem (List.mem_singleton.mp hid)
        refine ⟨fun now => absurd (by rw [now]; exact Nat.sub_self _) late, fun _ => ?_⟩
        simpa using keeps _

theorem updatedPallet_eq {t : Part} (h : Drains s t) (ht : t.time = s.time) (hd : t.docks = s.docks) (hc : t.cfg = s.cfg) (p : Pallet) :
    updatedPallet t p = updatedPallet s p := by
  rw [updatedPallet, updatedPallet, airTemp_eq h hd hc, ht, hc]

theorem updateList_updates {l : List Nat} (distinct : l.Nodup) (h : Stampable s) :
    UpdatedIn l s (forList l updatePallet s) := by
  induction l generalizing s with
  | nil => exact ⟨fun p => p, (List.map_id' _).symm, fun _ _ => ⟨fun _ => rfl, fun hm => absurd hm List.not_mem_nil⟩⟩
  | cons id l ih =>
    obtain ⟨hid, distinct⟩ := List.nodup_cons.mp distinct
    set t := updatePallet id s with ht
    have only : Only _ s t := updatePallet_only id s
    have time : t.time = s.time := updatePallet_time id s
    obtain ⟨g, e, first⟩ := updatePallet_updates id h
    obtain ⟨g', e', rest⟩ := ih distinct (s := t) h.update
    refine ⟨g' ∘ g, by rw [forList_cons, e', ht, e, List.map_map], fun p hp => ?_⟩
    show (_ → g' (g p) = p) ∧ (_ → Refreshed s p (g' (g p)))
    obtain ⟨others, own⟩ := first p hp
    obtain ⟨others', own'⟩ := rest (g p) (by rw [ht, e]; exact List.mem_map_of_mem hp)
    by_cases same : p.id = id
    · have own := own (List.mem_singleton.mpr same)
      rw [others' (by rw [own.id, same]; exact hid)]
      exact ⟨fun out => absurd (by rw [same]; exact List.mem_cons_self) out, fun _ => own⟩
    · rw [others (List.mem_singleton.not.mpr same)] at others' own' ⊢
      refine ⟨fun out => others' fun hm => out (List.mem_cons_of_mem id hm), fun hm => ?_⟩
      obtain ⟨now, late⟩ := own' ((List.mem_cons.mp hm).resolve_left same)
      rw [time] at now late
      rw [updatedPallet_eq (drains_updatePallet id s) time (only.within .docks (by decide)) (only.within .cfg (by decide))] at late
      exact ⟨now, late⟩

/-- Every pallet at the place is updated, and no other (R133 to R136). -/
structure UpdatedAt (l : Loc) (s t : Part) : Prop where
  places : t.pallets.map (fun x => (x.id, x.loc)) = s.pallets.map (fun x => (x.id, x.loc))
  others : ∀ x ∈ s.pallets, x.loc ≠ l → x ∈ t.pallets
  current : ∀ x ∈ s.pallets, x.loc = l → x.updated = s.time → x ∈ t.pallets
  updated : ∀ x ∈ s.pallets, x.loc = l → x.updated ≠ s.time → ∃ y ∈ t.pallets, heat y = heat (updatedPallet s x)

/-- The updates of an interval expiry take each pallet at the place once. -/
theorem updateAt_updates (l : Loc) (h : Stampable s) : UpdatedAt l s (updateAt l s) := by
  have distinct : (idsAt s l).Nodup := h.ids.sublist (List.filter_sublist.map _)
  obtain ⟨g, e, spec⟩ := updateList_updates distinct h
  have e : (updateAt l s).pallets = s.pallets.map g := e
  have there {p : Pallet} (hp : p ∈ s.pallets) : p.id ∈ idsAt s l ↔ p.loc = l := by
    simp only [idsAt, List.mem_map, List.mem_filter, beq_iff_eq]
    refine ⟨fun ⟨q, ⟨hq, loc⟩, same⟩ => ?_, fun loc => ⟨p, ⟨hp, loc⟩, rfl⟩⟩
    rw [← h.eq_of_id hq hp same]; exact loc
  have stands {p : Pallet} (hp : p ∈ s.pallets) (loc : p.loc ≠ l) : g p = p := (spec p hp).1 fun hm => loc ((there hp).mp hm)
  have refreshed {p : Pallet} (hp : p ∈ s.pallets) (loc : p.loc = l) : Refreshed s p (g p) := (spec p hp).2 ((there hp).mpr loc)
  have mem {p : Pallet} (hp : p ∈ s.pallets) : g p ∈ (updateAt l s).pallets := by rw [e]; exact List.mem_map_of_mem hp
  refine ⟨?_, fun x hx loc => stands hx loc ▸ mem hx, fun x hx loc now => (refreshed hx loc).1 now ▸ mem hx,
    fun x hx loc late => ⟨g x, mem hx, (refreshed hx loc).2 late⟩⟩
  rw [e, List.map_map]
  refine List.map_congr_left fun p hp => ?_
  by_cases loc : p.loc = l
  · exact Prod.ext (refreshed hp loc).id (refreshed hp loc).loc
  · exact congrArg (fun x : Pallet => (x.id, x.loc)) (stands hp loc)

end Updates

end Sys2Proof.Machine
end

section
/-! The division of frost and the settlement of open doors (O28: R48, R87, R88, R150). -/

namespace Sys2Proof.Machine

open Sys2Proof

/-! ### Demands (R151, R154) -/

section Demand

variable {e x : EvapId} {s : Part}

/-- Frost and demand time are kept, and an evaporator out of IDLE stays out of it. -/
structure Joins (k k' : Evap) : Prop where
  frost : k'.frost = k.frost
  demandTime : k'.demandTime = k.demandTime
  busy : k.sub ≠ .idle → k'.sub ≠ .idle

theorem Joins.refl (k : Evap) : Joins k k := ⟨rfl, rfl, id⟩

theorem Joins.trans {k k' k'' : Evap} (h : Joins k k') (h' : Joins k' k'') : Joins k k'' :=
  ⟨h'.frost.trans h.frost, h'.demandTime.trans h.demandTime, fun b => h'.busy (h.busy b)⟩

theorem gatherMembers_joins (es : List EvapId) (s : Part) : Joins (s.evaps.get x) ((gatherMembers es s).evaps.get x) := by
  unfold gatherMembers
  induction es generalizing s with
  | nil => exact .refl _
  | cons e es ih =>
    refine Joins.trans ?_ (ih _)
    by_cases hx : x = e
    · subst hx; rw [modEvap_get]; exact ⟨rfl, rfl, fun _ => SubState.noConfusion⟩
    · rw [modEvap_get_ne _ _ hx]; exact .refl _

theorem batchRule_joins (z : ZoneId) (s : Part) : Joins (s.evaps.get x) ((batchRule z s).evaps.get x) := by
  obtain same | ⟨t, same, gathers⟩ := batchRule_cases z s
  · rw [same]; exact .refl _
  · rw [gathers, ← same]; exact gatherMembers_joins _ t

/-- An evaporator that is in demand since now. -/
def demandedNow (now : Nat) (k : Evap) : Prop := k.demandTime = some now ∧ k.sub ≠ .idle

theorem Joins.demandedNow {k k' : Evap} {now : Nat} (h : Joins k k') (d : Machine.demandedNow now k) : Machine.demandedNow now k' :=
  ⟨h.demandTime.trans d.1, h.busy d.2⟩

theorem enterDemand_self (e : EvapId) (s : Part) :
    ((enterDemand e s).evaps.get e).frost = (s.evaps.get e).frost ∧ demandedNow s.time ((enterDemand e s).evaps.get e) := by
  set t := modEvap e (fun k => { demandNow s.time s.cfg.defrost.maxDeferral k with sub := .demand }) s with ht
  have entered : t.evaps.get e = { demandNow s.time s.cfg.defrost.maxDeferral (s.evaps.get e) with sub := .demand } := modEvap_get ..
  have joins : Joins (t.evaps.get e) ((enterDemand e s).evaps.get e) := batchRule_joins _ t
  rw [entered] at joins
  exact ⟨joins.frost, joins.demandedNow ⟨rfl, SubState.noConfusion⟩⟩

theorem enterDemand_joins (hx : x ≠ e) (s : Part) : Joins (s.evaps.get x) ((enterDemand e s).evaps.get x) := by
  refine Joins.trans ?_ (batchRule_joins _ _)
  rw [modEvap_get_ne _ _ hx]; exact .refl _

theorem enterDemand_time (e : EvapId) (s : Part) : (enterDemand e s).time = s.time := (enterDemand_only e s).within .time (by decide)

theorem demands_frost (l : List EvapId) (s : Part) : ((forList l enterDemand s).evaps.get x).frost = (s.evaps.get x).frost := by
  induction l generalizing s with
  | nil => rfl
  | cons e l ih =>
    rw [forList_cons, ih]
    by_cases hx : x = e
    · subst hx; exact (enterDemand_self x s).1
    · exact (enterDemand_joins hx s).frost

theorem demands_others {l : List EvapId} (hx : x ∉ l) (s : Part) : Joins (s.evaps.get x) ((forList l enterDemand s).evaps.get x) := by
  induction l generalizing s with
  | nil => exact .refl _
  | cons e l ih =>
    obtain ⟨he, hl⟩ := not_or.mp (List.mem_cons.not.mp hx)
    exact (enterDemand_joins he s).trans (ih hl _)

theorem demands_due {l : List EvapId} (hx : x ∈ l) (s : Part) : demandedNow s.time ((forList l enterDemand s).evaps.get x) := by
  induction l generalizing s with
  | nil => cases hx
  | cons e l ih =>
    rw [forList_cons]
    by_cases hl : x ∈ l
    · rw [← enterDemand_time e s]; exact ih hl _
    · obtain rfl := (List.mem_cons.mp hx).resolve_right hl
      exact (demands_others hl _).demandedNow (enterDemand_self x s).2

end Demand

/-! ### The division of a settlement (R48, R150) -/

section Division

variable {z : ZoneId} {a : Nat} {s : Part} {e : EvapId}

/-- The counted evaporators of a zone from its rotation pointer on. -/
def frostOrder (s : Part) (z : ZoneId) : List EvapId := rotated (s.zones.get z).pointer (counted s z)

theorem counted_nodup (s : Part) (z : ZoneId) : (counted s z).Nodup := by
  have all : ((List.finRange 16).filter (evapOf s z)).Nodup := (List.nodup_finRange 16).filter _
  have either {c : Bool} {l m : List EvapId} (hl : l.Nodup) (hm : m.Nodup) : (if c then l else m).Nodup := by split <;> assumption
  exact either all (all.filter _)

theorem frostOrder_nodup (s : Part) (z : ZoneId) : (frostOrder s z).Nodup := by
  have distinct := counted_nodup s z
  refine List.nodup_append'.mpr ⟨distinct.filter _, distinct.filter _, fun x hx hy => ?_⟩
  have from_ := (List.mem_filter.mp hx).2
  have before := (List.mem_filter.mp hy).2
  simp only [decide_eq_true_eq] at from_ before
  omega

/-- The part once the shares have been added. -/
def shared (z : ZoneId) (a : Nat) (s : Part) : Part :=
  forList (frostOrder s z).zipIdx (fun x => modEvap x.1 (addFrost (shareOf a (frostOrder s z).length x.2))) s

theorem shared_get {i : Nat} (h : (frostOrder s z)[i]? = some e) :
    (shared z a s).evaps.get e = addFrost (shareOf a (frostOrder s z).length i) (s.evaps.get e) := by
  refine forList_modEvap_get (key := Prod.fst) (f := fun x => addFrost (shareOf a (frostOrder s z).length x.2)) (a := (e, i)) ?_ ?_
  · rw [List.zipIdx_map_fst]; exact frostOrder_nodup s z
  · exact List.mk_mem_zipIdx_iff_getElem?.mpr h

theorem shared_other (h : e ∉ frostOrder s z) : (shared z a s).evaps.get e = s.evaps.get e := by
  refine forList_modEvap_other (key := Prod.fst) (f := fun x => addFrost (shareOf a (frostOrder s z).length x.2)) ?_
  rw [List.zipIdx_map_fst]; exact h

theorem shared_only (z : ZoneId) (a : Nat) (s : Part) : Only [.evaps] s (shared z a s) :=
  forList_only (fun _ _ => modEvap_only ..) _ s

/-- The part once the rotation pointer has been moved past the last unit. -/
def rotatedOn (z : ZoneId) (a : Nat) (s : Part) : Part :=
  if a % (frostOrder s z).length = 0 then shared z a s
  else modZone z (fun k => { k with pointer := (frostOrder s z).getD (a % (frostOrder s z).length) ((frostOrder s z).headD 0) })
    (shared z a s)

theorem rotatedOn_evaps (z : ZoneId) (a : Nat) (s : Part) : (rotatedOn z a s).evaps = (shared z a s).evaps := by
  unfold rotatedOn; split <;> rfl

theorem rotatedOn_only (z : ZoneId) (a : Nat) (s : Part) : Only [.zones, .evaps] s (rotatedOn z a s) := by
  unfold rotatedOn; split
  · exact (shared_only z a s).mono rfl
  · exact ((shared_only z a s).mono rfl).trans ((modZone_only ..).mono rfl)

/-- The idle evaporators of the order that reached their trigger. -/
def dueAfter (z : ZoneId) (a : Nat) (s : Part) : List EvapId :=
  (List.finRange 16).filter fun e => (frostOrder s z).contains e && ((rotatedOn z a s).evaps.get e).sub == .idle
    && decide (((rotatedOn z a s).cfg.evaps.get e).trigger ≤ ((rotatedOn z a s).evaps.get e).frost)

theorem divideFrost_empty (h : (frostOrder s z).length = 0) : divideFrost z a s = s := if_pos h

theorem divideFrost_eq (h : (frostOrder s z).length ≠ 0) :
    divideFrost z a s = forList (dueAfter z a s) enterDemand (rotatedOn z a s) := if_neg h

theorem divideFrost_pointer (h : (frostOrder s z).length ≠ 0) :
    (divideFrost z a s).zones.get z = (rotatedOn z a s).zones.get z := by
  have only : Only [.evaps, .batches] _ _ := forList_only enterDemand_only (dueAfter z a s) (rotatedOn z a s)
  rw [divideFrost_eq h, only.within .zones (by decide)]

/-- An evaporator of the order takes its share, and enters DEMAND if it is idle and has reached its trigger. -/
theorem divideFrost_share {i : Nat} (h : (frostOrder s z)[i]? = some e) :
    let f := min ((s.evaps.get e).frost + shareOf a (frostOrder s z).length i) maxFrost
    ((divideFrost z a s).evaps.get e).frost = f
      ∧ ((s.evaps.get e).sub = .idle → (s.cfg.evaps.get e).trigger ≤ f → demandedNow s.time ((divideFrost z a s).evaps.get e))
      ∧ ((s.evaps.get e).sub ≠ .idle ∨ f < (s.cfg.evaps.get e).trigger →
          ((divideFrost z a s).evaps.get e).demandTime = (s.evaps.get e).demandTime) := by
  intro f
  have mem : e ∈ frostOrder s z := List.mem_of_getElem? h
  have nonempty : (frostOrder s z).length ≠ 0 := (List.length_pos_of_mem mem).ne'
  have only := rotatedOn_only z a s
  have share : (rotatedOn z a s).evaps.get e = { s.evaps.get e with frost := f } := by rw [rotatedOn_evaps, shared_get h]; rfl
  have cfg : (rotatedOn z a s).cfg = s.cfg := only.within .cfg (by decide)
  have due : e ∈ dueAfter z a s ↔ (s.evaps.get e).sub = .idle ∧ (s.cfg.evaps.get e).trigger ≤ f := by
    simp [dueAfter, share, mem, cfg]
  rw [divideFrost_eq nonempty]
  refine ⟨by rw [demands_frost, share], fun idle reached => ?_, fun other => ?_⟩
  · rw [← only.within .time (by decide)]
    exact demands_due (due.mpr ⟨idle, reached⟩) _
  · have out : e ∉ dueAfter z a s := fun hm => other.elim (· (due.mp hm).1) (Nat.not_lt.mpr (due.mp hm).2)
    rw [(demands_others out _).demandTime, share]

theorem divideFrost_other (h : e ∉ frostOrder s z) : ((divideFrost z a s).evaps.get e).frost = (s.evaps.get e).frost := by
  by_cases empty : (frostOrder s z).length = 0
  · rw [divideFrost_empty empty]
  · rw [divideFrost_eq empty, demands_frost, rotatedOn_evaps, shared_other h]

theorem divideFrost_divided (z : ZoneId) (a : Nat) (s : Part) : dividedIn z a s (divideFrost z a s) := by
  refine ⟨fun i e he => divideFrost_share he, fun e he => divideFrost_other he,
    fun (full : (frostOrder s z).length ≠ 0) (even : a % (frostOrder s z).length = 0) => ?_,
    fun e (full : (frostOrder s z).length ≠ 0) (rest : a % (frostOrder s z).length ≠ 0)
      (he : (frostOrder s z)[a % (frostOrder s z).length]? = some e) => ?_⟩
  · rw [divideFrost_pointer full, rotatedOn, if_pos even, (shared_only z a s).within .zones (by decide)]
  · rw [divideFrost_pointer full, rotatedOn, if_neg rest, modZone_get]
    show (frostOrder s z).getD _ _ = e
    rw [List.getD_eq_getElem?_getD, he]; rfl

/-- The division reads the pointer, the configuration, the batches, the evaporators and the time, and shows in evaporators and pointer. -/
theorem dividedIn_congr {s' t t' : Part} (hp : (s'.zones.get z).pointer = (s.zones.get z).pointer) (hc : s'.cfg = s.cfg)
    (hb : s'.batches = s.batches) (he : s'.evaps = s.evaps) (ht : s'.time = s.time) (he' : t'.evaps = t.evaps)
    (hp' : (t'.zones.get z).pointer = (t.zones.get z).pointer) (h : dividedIn z a s t) : dividedIn z a s' t' := by
  have evaps : evapOf s' z = evapOf s z := by funext e; rw [evapOf, evapActive, hc]; rfl
  have past : pastGather s' z = pastGather s z := by rw [pastGather, hb]; rfl
  have count : counted s' z = counted s z := by rw [counted, evaps, past, hb]; rfl
  unfold dividedIn at h ⊢
  rw [hp, count, hc, he, ht, he', hp']
  exact h

end Division

/-! ### The settlement of a zone's doors (R47, R87, R88) -/

/-- Where no turn does anything, a run does nothing. -/
theorem forEach_idle {n : Nat} {f : Fin n → Part → Part} {s : Part} (idle : ∀ i, f i s = s) : forEach f s = s := by
  have kept (l : List (Fin n)) : l.foldl (fun s i => f i s) s = s := by
    induction l with
    | nil => rfl
    | cons i l ih => rw [List.foldl_cons, idle, ih]
  exact kept _

/-- Where only one turn does anything, a run is that turn. -/
theorem forEach_single {n : Nat} {f : Fin n → Part → Part} {s : Part} (j : Fin n) (before : ∀ i, i ≠ j → f i s = s)
    (after : ∀ i, i ≠ j → f i (f j s) = f j s) : forEach f s = f j s := by
  have kept {t : Part} (l : List (Fin n)) (hl : j ∉ l) (idle : ∀ i, i ≠ j → f i t = t) : l.foldl (fun s i => f i s) t = t := by
    induction l with
    | nil => rfl
    | cons i l ih =>
      obtain ⟨hi, hl⟩ := not_or.mp (List.mem_cons.not.mp hl)
      rw [List.foldl_cons, idle i (Ne.symm hi), ih hl]
  obtain ⟨l, r, split⟩ := List.append_of_mem (List.mem_finRange j)
  have distinct := List.nodup_finRange n
  rw [split, List.nodup_middle, List.nodup_cons, List.mem_append, not_or] at distinct
  rw [forEach, split, List.foldl_append, List.foldl_cons, kept l distinct.1.1 before, kept r distinct.1.2 after]

theorem forEach_keeps {n : Nat} {β : Type} {f : Fin n → Part → Part} (view : Part → β) (h : ∀ i t, view (f i t) = view t) (s : Part) :
    view (forEach f s) = view s := by
  have kept (l : List (Fin n)) (t : Part) : view (l.foldl (fun s i => f i s) t) = view t := by
    induction l generalizing t with
    | nil => rfl
    | cons i l ih => rw [List.foldl_cons, ih, h]
  exact kept _ s

/-- A division moves the rotation pointer of its zone, and no other field of a zone. -/
theorem divideFrost_exposureDl (z x : ZoneId) (a : Nat) (s : Part) :
    ((divideFrost z a s).zones.get x).exposureDl = (s.zones.get x).exposureDl := by
  by_cases empty : (frostOrder s z).length = 0
  · rw [divideFrost_empty empty]
  · have only : Only [.evaps, .batches] _ _ := forList_only enterDemand_only (dueAfter z a s) (rotatedOn z a s)
    have shares := (shared_only z a s).within .zones (by decide)
    rw [divideFrost_eq empty, only.within .zones (by decide), rotatedOn]
    split
    · rw [shares]
    · by_cases hx : x = z
      · subst hx; rw [modZone_get, shares]
      · rw [modZone_get_ne _ _ hx, shares]

/-! ### One dock door -/

section Dock

variable {d : DoorId} {s : Part} {from_ : Nat}

/-- The units of a settlement of a dock door up to now, and what is left over (R88). -/
def dockTotal (s : Part) (d : DoorId) (from_ : Nat) : Nat := (s.time - from_) * (s.cfg.docks.get d).weight + (s.docks.get d).carry

/-- The turn of a dock door in the settlement of the hall. -/
def settleDockTurn (d : DoorId) (s : Part) : Part :=
  onlyIf (dockInService s d && (s.docks.get d).settleFrom.isSome)
    (fun s => modDock d (fun k => { k with settleFrom := some s.time }) (settleDock d s.time s)) s

theorem settleZoneDoors_hall (s : Part) : settleZoneDoors 0 s = forEach settleDockTurn s := rfl

theorem settleDockTurn_idle (h : dockInService s d = true → (s.docks.get d).settleFrom = none) : settleDockTurn d s = s := by
  refine if_neg fun guard => ?_
  obtain ⟨ins, open_⟩ := Bool.and_eq_true_iff.mp guard
  rw [h ins] at open_
  exact Bool.false_ne_true open_

/-- An open door: its units divided, the rest carried, and settled from now on. -/
theorem settleDockTurn_open (ins : dockInService s d = true) (open_ : (s.docks.get d).settleFrom = some from_) :
    settleDockTurn d s = modDock d (fun k => { k with settleFrom := some s.time })
      (onlyIf (0 < dockTotal s d from_ / 10) (divideFrost 0 (dockTotal s d from_ / 10))
        (modDock d (fun k => { k with carry := dockTotal s d from_ % 10 }) s)) := by
  simp [settleDockTurn, onlyIf, ins, open_, settleDock, dockTotal]

/-- A turn changes nothing, or is the settlement of an open door. -/
theorem settleDockTurn_cases (d : DoorId) (s : Part) :
    settleDockTurn d s = s ∨ ∃ from_, dockInService s d = true ∧ (s.docks.get d).settleFrom = some from_ := by
  by_cases h : dockInService s d = true → (s.docks.get d).settleFrom = none
  · exact .inl (settleDockTurn_idle h)
  · obtain ⟨ins, open_⟩ := Classical.not_imp.mp h
    obtain ⟨from_, open_⟩ := Option.ne_none_iff_exists'.mp open_
    exact .inr ⟨from_, ins, open_⟩

theorem settleDockTurn_get (d : DoorId) (s : Part) : (settleDockTurn d s).docks.get d
    = if dockInService s d = true ∧ (s.docks.get d).settleFrom.isSome = true then
        { s.docks.get d with
          settleFrom := some s.time, carry := carryAfter (s.docks.get d).settleFrom s.time (s.cfg.docks.get d).weight (s.docks.get d).carry }
      else s.docks.get d := by
  split
  · next guard =>
    obtain ⟨from_, open_⟩ := Option.isSome_iff_exists.mp guard.2
    rw [settleDockTurn_open guard.1 open_, modDock_get, (onlyIf_only (divideFrost_only ..)).within .docks (by decide), modDock_get, open_]
    rfl
  · next other =>
    rw [settleDockTurn_idle fun ins => by simpa [ins] using other]

theorem settleDockTurn_other {x : DoorId} (hx : x ≠ d) (s : Part) : (settleDockTurn d s).docks.get x = s.docks.get x := by
  obtain idle | ⟨from_, ins, open_⟩ := settleDockTurn_cases d s
  · rw [idle]
  · rw [settleDockTurn_open ins open_, modDock_get_ne _ _ hx, (onlyIf_only (divideFrost_only ..)).within .docks (by decide),
      modDock_get_ne _ _ hx]

theorem settleDockTurn_only (d : DoorId) (s : Part) : Only [.zones, .docks, .evaps, .batches] s (settleDockTurn d s) :=
  onlyIf_only ((settleDock_only ..).trans ((modDock_only ..).mono rfl))

theorem settleDockTurn_exposureDl (x : ZoneId) (d : DoorId) (s : Part) :
    ((settleDockTurn d s).zones.get x).exposureDl = (s.zones.get x).exposureDl := by
  obtain idle | ⟨from_, ins, open_⟩ := settleDockTurn_cases d s
  · rw [idle]
  · rw [settleDockTurn_open ins open_, modDock_zones, onlyIf]
    split
    · exact divideFrost_exposureDl 0 x _ _
    · rfl

/-- Each in-service dock door is settled up to now. -/
theorem settleDocks_get (d : DoorId) (s : Part) : (settleZoneDoors 0 s).docks.get d
    = if dockInService s d = true ∧ (s.docks.get d).settleFrom.isSome = true then
        { s.docks.get d with
          settleFrom := some s.time, carry := carryAfter (s.docks.get d).settleFrom s.time (s.cfg.docks.get d).weight (s.docks.get d).carry }
      else s.docks.get d := by
  obtain ⟨t, same, e⟩ := forEach_view (f := settleDockTurn) (fun t => (t.docks.get d, t.cfg, t.time)) d (fun i t hi => by
    have only := settleDockTurn_only i t
    rw [settleDockTurn_other hi.symm, only.within .cfg (by decide), only.within .time (by decide)]) s
  simp only [Prod.mk.injEq] at same e
  obtain ⟨dock, cfg, time⟩ := same
  rw [settleZoneDoors_hall, e.1, settleDockTurn_get, dockInService, dock, cfg, time]; rfl

theorem settleDocks_idle (h : ∀ d, dockInService s d = true → (s.docks.get d).settleFrom = none) : settleZoneDoors 0 s = s :=
  forEach_idle fun d => settleDockTurn_idle (h d)

/-- The units of the only open door are divided among the evaporators of the hall. -/
theorem settleDocks_divided (ins : dockInService s d = true) (open_ : (s.docks.get d).settleFrom = some from_)
    (others : ∀ x, x ≠ d → dockInService s x = true → (s.docks.get x).settleFrom = none) (some_ : 0 < dockTotal s d from_ / 10) :
    dividedIn 0 (dockTotal s d from_ / 10) s (settleZoneDoors 0 s) := by
  have single : forEach settleDockTurn s = settleDockTurn d s :=
    forEach_single d (fun x hx => settleDockTurn_idle (others x hx)) fun x hx => settleDockTurn_idle fun hin => by
      rw [settleDockTurn_other hx]
      refine others x hx ?_
      rwa [dockInService, (settleDockTurn_only d s).within .cfg (by decide)] at hin
  rw [settleZoneDoors_hall, single, settleDockTurn_open ins open_, onlyIf, if_pos (decide_eq_true some_)]
  exact dividedIn_congr (s := modDock d _ s) rfl rfl rfl rfl rfl rfl rfl (divideFrost_divided ..)

end Dock

/-! ### One portal -/

section Portal

variable {z : ZoneId} {q : PortalId} {s : Part} {from_ : Nat}

/-- The units of a settlement of a portal up to now, and what is left over (R88). -/
def portalTotal (s : Part) (q : PortalId) (from_ : Nat) : Nat :=
  (s.time - from_) * (s.cfg.portals.get q).weight + (s.portals.get q).carry

/-- The turn of a portal in the settlement of a zone. -/
def settlePortalTurn (z : ZoneId) (q : PortalId) (s : Part) : Part :=
  onlyIf (portalOf s z q && (s.portals.get q).settleFrom.isSome)
    (fun s => modPortal q (fun k => { k with settleFrom := some s.time }) (settlePortal q s.time s)) s

theorem settleZoneDoors_zone (hz : z ≠ 0) (s : Part) : settleZoneDoors z s = forEach (settlePortalTurn z) s := if_neg hz

theorem settlePortalTurn_idle (h : portalOf s z q = true → (s.portals.get q).settleFrom = none) : settlePortalTurn z q s = s := by
  refine if_neg fun guard => ?_
  obtain ⟨of, open_⟩ := Bool.and_eq_true_iff.mp guard
  rw [h of] at open_
  exact Bool.false_ne_true open_

/-- An open portal: its units divided in its zone, the rest carried, and settled from now on. -/
theorem settlePortalTurn_open (of : portalOf s z q = true) (open_ : (s.portals.get q).settleFrom = some from_) :
    settlePortalTurn z q s = modPortal q (fun k => { k with settleFrom := some s.time })
      (onlyIf (0 < portalTotal s q from_ / 10) (divideFrost z (portalTotal s q from_ / 10))
        (modPortal q (fun k => { k with carry := portalTotal s q from_ % 10 }) s)) := by
  have zone (f : Portal → Portal) : portalZone (modPortal q f s) q = z := portalZone_eq (s := s) of
  simp [settlePortalTurn, onlyIf, of, open_, settlePortal, portalTotal, zone]

/-- A turn changes nothing, or is the settlement of an open portal. -/
theorem settlePortalTurn_cases (z : ZoneId) (q : PortalId) (s : Part) :
    settlePortalTurn z q s = s ∨ ∃ from_, portalOf s z q = true ∧ (s.portals.get q).settleFrom = some from_ := by
  by_cases h : portalOf s z q = true → (s.portals.get q).settleFrom = none
  · exact .inl (settlePortalTurn_idle h)
  · obtain ⟨of, open_⟩ := Classical.not_imp.mp h
    obtain ⟨from_, open_⟩ := Option.ne_none_iff_exists'.mp open_
    exact .inr ⟨from_, of, open_⟩

theorem settlePortalTurn_get (z : ZoneId) (q : PortalId) (s : Part) : (settlePortalTurn z q s).portals.get q
    = if portalOf s z q = true ∧ (s.portals.get q).settleFrom.isSome = true then
        { s.portals.get q with
          settleFrom := some s.time
          carry := carryAfter (s.portals.get q).settleFrom s.time (s.cfg.portals.get q).weight (s.portals.get q).carry }
      else s.portals.get q := by
  split
  · next guard =>
    obtain ⟨from_, open_⟩ := Option.isSome_iff_exists.mp guard.2
    rw [settlePortalTurn_open guard.1 open_, modPortal_get, (onlyIf_only (divideFrost_only ..)).within .portals (by decide), modPortal_get,
      open_]
    rfl
  · next other => rw [settlePortalTurn_idle fun of => by simpa [of] using other]

theorem settlePortalTurn_other {x : PortalId} (hx : x ≠ q) (s : Part) : (settlePortalTurn z q s).portals.get x = s.portals.get x := by
  obtain idle | ⟨from_, of, open_⟩ := settlePortalTurn_cases z q s
  · rw [idle]
  · rw [settlePortalTurn_open of open_, modPortal_get_ne _ _ hx, (onlyIf_only (divideFrost_only ..)).within .portals (by decide),
      modPortal_get_ne _ _ hx]

theorem settlePortalTurn_only (z : ZoneId) (q : PortalId) (s : Part) :
    Only [.zones, .portals, .evaps, .batches] s (settlePortalTurn z q s) :=
  onlyIf_only ((settlePortal_only ..).trans ((modPortal_only ..).mono rfl))

theorem settlePortalTurn_exposureDl (x z : ZoneId) (q : PortalId) (s : Part) :
    ((settlePortalTurn z q s).zones.get x).exposureDl = (s.zones.get x).exposureDl := by
  obtain idle | ⟨from_, of, open_⟩ := settlePortalTurn_cases z q s
  · rw [idle]
  · rw [settlePortalTurn_open of open_, modPortal_zones, onlyIf]
    split
    · exact divideFrost_exposureDl z x _ _
    · rfl

/-- Each portal of the zone is settled up to now. -/
theorem settlePortals_get (hz : z ≠ 0) (q : PortalId) (s : Part) : (settleZoneDoors z s).portals.get q
    = if portalOf s z q = true ∧ (s.portals.get q).settleFrom.isSome = true then
        { s.portals.get q with
          settleFrom := some s.time
          carry := carryAfter (s.portals.get q).settleFrom s.time (s.cfg.portals.get q).weight (s.portals.get q).carry }
      else s.portals.get q := by
  obtain ⟨t, same, e⟩ := forEach_view (f := settlePortalTurn z) (fun t => (t.portals.get q, t.cfg, t.time)) q (fun i t hi => by
    have only := settlePortalTurn_only z i t
    rw [settlePortalTurn_other hi.symm, only.within .cfg (by decide), only.within .time (by decide)]) s
  simp only [Prod.mk.injEq] at same e
  obtain ⟨portal, cfg, time⟩ := same
  rw [settleZoneDoors_zone hz, e.1, settlePortalTurn_get, portalOf_of_cfg cfg, portal, cfg, time]

theorem settlePortals_idle (hz : z ≠ 0) (h : ∀ q, portalOf s z q = true → (s.portals.get q).settleFrom = none) :
    settleZoneDoors z s = s := by
  rw [settleZoneDoors_zone hz]
  exact forEach_idle fun q => settlePortalTurn_idle (h q)

/-- The units of the only open portal are divided among the evaporators of its zone. -/
theorem settlePortals_divided (hz : z ≠ 0) (of : portalOf s z q = true) (open_ : (s.portals.get q).settleFrom = some from_)
    (others : ∀ x, x ≠ q → portalOf s z x = true → (s.portals.get x).settleFrom = none) (some_ : 0 < portalTotal s q from_ / 10) :
    dividedIn z (portalTotal s q from_ / 10) s (settleZoneDoors z s) := by
  have single : forEach (settlePortalTurn z) s = settlePortalTurn z q s :=
    forEach_single q (fun x hx => settlePortalTurn_idle (others x hx)) fun x hx => settlePortalTurn_idle fun hof => by
      rw [settlePortalTurn_other hx]
      rw [portalOf_of_cfg ((settlePortalTurn_only z q s).within .cfg (by decide))] at hof
      exact others x hx hof
  rw [settleZoneDoors_zone hz, single, settlePortalTurn_open of open_, onlyIf, if_pos (decide_eq_true some_)]
  exact dividedIn_congr (s := modPortal q _ s) rfl rfl rfl rfl rfl rfl rfl (divideFrost_divided ..)

end Portal

theorem settleZoneDoors_exposureDl (x z : ZoneId) (s : Part) :
    ((settleZoneDoors z s).zones.get x).exposureDl = (s.zones.get x).exposureDl := by
  by_cases hz : z = 0
  · subst hz
    exact forEach_keeps (fun t => (t.zones.get x).exposureDl) (settleDockTurn_exposureDl x) s
  · rw [settleZoneDoors_zone hz]
    exact forEach_keeps (fun t => (t.zones.get x).exposureDl) (settlePortalTurn_exposureDl x z) s

/-- The hall has no portals to settle, and a zone no dock doors. -/
theorem settleZoneDoors_portals (s : Part) : (settleZoneDoors 0 s).portals = s.portals := by
  rw [settleZoneDoors_hall]
  exact (forEach_only settleDockTurn_only s).within .portals (by decide)

theorem settleZoneDoors_docks {z : ZoneId} (hz : z ≠ 0) (s : Part) : (settleZoneDoors z s).docks = s.docks := by
  rw [settleZoneDoors_zone hz]
  exact (forEach_only (settlePortalTurn_only z) s).within .docks (by decide)

end Sys2Proof.Machine
end

section
/-! The exposure interval of a zone and of a dock door as commands (O28: R47, R89). -/

namespace Sys2Proof.Machine

open Sys2Proof

section Interval

variable {s : State} {z : ZoneId} {d : DoorId}

/-- The exposure deadline set anew (R47, R89). -/
def nextInterval (s : Part) : Option Nat := some (addTime s.time s.cfg.staging.exposureInterval)

/-- The part of a zone's interval expiry once the pallets have been updated. -/
def zoneUpdated (z : ZoneId) (s : State) : Part :=
  updateAt (zoneLoc z) (modZone z (fun k => { k with exposureDl := nextInterval s.part }) (cleared s))

theorem exec_zoneExposureIntervalExpiry (running : s.part.running = true)
    (due : reached (s.part.zones.get z).exposureDl s.part.time = true) :
    exec (.zoneExposureIntervalExpiry z) s = .next { s with
      part := settleZoneDoors z (zoneUpdated z s) } := by
  rw [exec_running rfl running]
  exact congrArg (fun x => Host.Outcome.next { s with part := x }) (if_pos due)

theorem exec_doorExposureIntervalExpiry (running : s.part.running = true)
    (due : reached (s.part.docks.get d).exposureDl s.part.time = true) :
    exec (.doorExposureIntervalExpiry d) s = .next { s with
      part := updateAt (.trailer d) (modDock d (fun k => { k with exposureDl := nextInterval s.part }) (cleared s)) } := by
  rw [exec_running rfl running]
  exact congrArg (fun x => Host.Outcome.next { s with part := x }) (if_pos due)

/-- The air temperature of an update, as R134 reads it from the last door report. -/
theorem airTemp_trailer (s : Part) (d : DoorId) : airTemp s (.trailer d)
    = (((s.docks.get d).last.map (·.temp)).getD none).getD (s.cfg.handling.get d).assumedTemp := by
  unfold airTemp; dsimp only
  cases (s.docks.get d).last <;> rfl

/-- The updates read the pallets, the time, the configuration and the air of the place. -/
theorem UpdatedAt.rebase {l : Loc} {s u t : Part} (h : UpdatedAt l u t) (hp : u.pallets = s.pallets) (ht : u.time = s.time)
    (hc : u.cfg = s.cfg) (ha : airTemp u l = airTemp s l) : UpdatedAt l s t := by
  obtain ⟨places, others, current, updated⟩ := h
  rw [hp] at places others current updated
  rw [ht] at current updated
  refine ⟨places, others, current, fun x hx loc late => ?_⟩
  obtain ⟨y, hy, e⟩ := updated x hx loc late
  have same : updatedPallet u x = updatedPallet s x := by subst loc; rw [updatedPallet, updatedPallet, ha, ht, hc]
  exact ⟨y, hy, e.trans (congrArg heat same)⟩

/-- An updated pallet, field by field. -/
theorem UpdatedAt.fields {l : Loc} {s t : Part} (h : UpdatedAt l s t) {x : Pallet} (hx : x ∈ s.pallets) (loc : x.loc = l)
    (late : x.updated ≠ s.time) :
    let c := s.cfg.classes.get x.cls
    let n := estimateStep (airTemp s l) c.rate (s.time - x.updated) x.estimate x.remainder
    ∃ y ∈ t.pallets, y.id = x.id ∧ y.updated = s.time ∧ y.estimate = n.1 ∧ y.remainder = n.2
      ∧ y.exposure = exposureStep c.critical n.1 (s.time - x.updated) x.exposure := by
  obtain ⟨y, hy, e⟩ := h.updated x hx loc late
  subst loc
  simp only [heat, Prod.mk.injEq] at e
  obtain ⟨id, -, -, estimate, remainder, updated, exposure⟩ := e
  exact ⟨y, hy, id, updated, estimate, remainder, exposure⟩

theorem zoneUpdated_only (z : ZoneId) (s : State) :
    Only [.zones, .portals, .pallets, .credits, .alarms, .ports] (cleared s) (zoneUpdated z s) :=
  ((modZone_only ..).mono rfl).trans (updateAt_only ..)

theorem zoneUpdated_zone (z : ZoneId) (s : State) : ((zoneUpdated z s).zones.get z).exposureDl = nextInterval s.part
    ∧ ((zoneUpdated z s).zones.get z).pointer = (s.part.zones.get z).pointer := by
  obtain ⟨m, dl, e⟩ := (drains_updateAt (zoneLoc z) (modZone z (fun k => { k with exposureDl := nextInterval s.part }) (cleared s))).zones z
  rw [zoneUpdated, e, modZone_get]
  exact ⟨rfl, rfl⟩

theorem zoneUpdated_portal (z : ZoneId) (s : State) (q : PortalId) :
    ((zoneUpdated z s).portals.get q).settleFrom = (s.part.portals.get q).settleFrom
      ∧ ((zoneUpdated z s).portals.get q).carry = (s.part.portals.get q).carry := (drains_updateAt (zoneLoc z) _).portals q

theorem zoneUpdated_updated (z : ZoneId) (h : Stampable s.part) : UpdatedAt (zoneLoc z) s.part (zoneUpdated z s) := by
  refine UpdatedAt.rebase (updateAt_updates _ ⟨h.distinct, h.past⟩) rfl rfl rfl ?_
  have temp (x : ZoneId) : ((modZone z (fun k => { k with exposureDl := nextInterval s.part }) (cleared s)).zones.get x).temp
      = (s.part.zones.get x).temp := by
    by_cases hx : x = z
    · subst hx; rw [modZone_get]; rfl
    · rw [modZone_get_ne _ _ hx]; rfl
  unfold zoneLoc; split
  · exact temp 0
  · exact temp z

/-- The part in which the pallets on a door's trailer are updated. -/
theorem doorUpdated_updated (d : DoorId) (h : Stampable s.part) : UpdatedAt (.trailer d) s.part
    (updateAt (.trailer d) (modDock d (fun k => { k with exposureDl := nextInterval s.part }) (cleared s))) := by
  refine UpdatedAt.rebase (updateAt_updates _ ⟨h.distinct, h.past⟩) rfl rfl rfl ?_
  rw [airTemp_trailer, airTemp_trailer, modDock_get]; rfl

/-- A division of the settlement, seen from the part the expiry finds. -/
theorem zoneUpdated_divided {a : Nat} {t : Part} (h : dividedIn z a (zoneUpdated z s) t) : dividedIn z a s.part t := by
  have only := zoneUpdated_only z s
  exact dividedIn_congr (zoneUpdated_zone z s).2.symm (only.within .cfg (by decide)).symm (only.within .batches (by decide)).symm
    (only.within .evaps (by decide)).symm (only.within .time (by decide)).symm rfl rfl h

end Interval

/-- Settles O28: the updates of the place, then the settlement of the zone's doors. -/
theorem exposureIntervalUpdatesItsPallets : Obligations.ExposureIntervalUpdatesItsPallets := by
  intro s running unique past now restart air updates
  have stampable : Stampable s.part := stampable_of_unique unique past
  have airs (l : Loc) : air l = airTemp s.part l := by
    cases l with
    | hall | zone z => rfl
    | trailer d => exact (airTemp_trailer s.part d).symm
  have updated {l : Loc} {t : State} {u : Part} (h : UpdatedAt l s.part u) (same : t.part.pallets = u.pallets) : updates l t := by
    show _ ∧ _ ∧ _ ∧ _
    rw [same]
    refine ⟨h.places, h.others, h.current, fun x hx loc late => ?_⟩
    rw [airs]
    exact h.fields hx loc late
  refine ⟨fun z due => ?interval, fun d due => ?door⟩
  case door =>
    set u := modDock d (fun k => { k with exposureDl := nextInterval s.part }) (cleared s) with hu
    have only := updateAt_only (.trailer d) u
    have docks := only.within .docks (by decide)
    refine ⟨_, exec_doorExposureIntervalExpiry running due, rfl, only.out, ?_, ?_, updated (doorUpdated_updated d stampable) rfl⟩
    · exact (congrArg (·.get d) docks).trans (modDock_get ..)
    · exact fun x hx => (congrArg (·.get x) docks).trans (modDock_get_ne _ (cleared s) hx)
  case interval =>
    set u := zoneUpdated z s with hu
    have only := zoneUpdated_only z s
    have settled := settleZoneDoors_only z u
    have cfg : u.cfg = s.part.cfg := only.within .cfg (by decide)
    have time : u.time = now := only.within .time (by decide)
    have docks : u.docks = s.part.docks := only.within .docks (by decide)
    have portal := zoneUpdated_portal z s
    have ins (d : DoorId) : dockInService u d = dockInService s.part d := by rw [dockInService, cfg]; rfl
    have of (q : PortalId) : portalOf u z q = portalOf s.part z q := portalOf_of_cfg cfg
    refine ⟨_, exec_zoneExposureIntervalExpiry running due, rfl, settled.out.trans only.out, ?deadline,
      updated (zoneUpdated_updated z stampable) (settled.within .pallets (by decide)), fun d => ?dock, fun q => ?portal,
      fun d hz hd from_ open_ _ others => ?dockUnits, fun q hz hq from_ open_ _ others => ?portalUnits, fun hd hq => ?idle⟩ <;> dsimp only
    case deadline => rw [settleZoneDoors_exposureDl]; exact (zoneUpdated_zone z s).1
    case dock =>
      by_cases hz : z = 0
      · subst hz
        rw [settleDocks_get, ins, docks, cfg, time]; simp
      · rw [settleZoneDoors_docks hz, docks]; simp [hz]
    case portal =>
      by_cases hz : z = 0
      · subst hz
        rw [settleZoneDoors_portals]; simp [portal q]
      · rw [settlePortals_get hz, of, cfg, time]
        rw [← (portal q).1, ← (portal q).2]
        by_cases settles : portalOf s.part z q = true ∧ (u.portals.get q).settleFrom.isSome = true
        · rw [if_pos settles, if_pos ⟨hz, settles⟩, if_pos ⟨hz, settles⟩]; exact ⟨rfl, rfl⟩
        · rw [if_neg settles, if_neg fun h => settles h.2, if_neg fun h => settles h.2]; exact ⟨rfl, rfl⟩
    case dockUnits =>
      subst hz
      have total : dockTotal u d from_ = (now - from_) * (s.part.cfg.docks.get d).weight + (s.part.docks.get d).carry := by
        rw [dockTotal, cfg, docks, time]
      intro some_
      rw [← total] at some_ ⊢
      refine zoneUpdated_divided (settleDocks_divided ((ins d).trans hd) (by rw [docks]; exact open_) (fun x hx hin => ?_) some_)
      rw [docks]; exact others x hx ((ins x).symm.trans hin)
    case portalUnits =>
      have total : portalTotal u q from_ = (now - from_) * (s.part.cfg.portals.get q).weight + (s.part.portals.get q).carry := by
        rw [portalTotal, cfg, (portal q).2, time]
      intro some_
      rw [← total] at some_ ⊢
      refine zoneUpdated_divided (settlePortals_divided hz ((of q).trans hq) ((portal q).1.trans open_) (fun x hx hof => ?_) some_)
      rw [(portal x).1]; exact others x hx ((of x).symm.trans hof)
    case idle =>
      have settles : settleZoneDoors z u = u := by
        by_cases hz : z = 0
        · subst hz
          exact settleDocks_idle fun d h => by rw [docks]; exact hd d rfl ((ins d).symm.trans h)
        · exact settlePortals_idle hz fun q h => by rw [(portal q).1]; exact hq q hz ((of q).symm.trans h)
      rw [settles]
      exact ⟨only.within .evaps (by decide), only.within .batches (by decide)⟩

end Sys2Proof.Machine
end

section
/-! What the requests that name a door have in common, and what the requests and deadlines of a dock door change of its record (R60 to R79). -/

namespace Sys2Proof.Machine

open Sys2Proof

/-! ### A request that comes to its handler -/

/-- The request is taken on its port, and its handler does with the renewed part what `g` does. -/
structure Reaches (c : Instr) (p : Port) (code : Nat) (tag : Byte) (s : State) (g : Part → Reply) : Prop where
  taken : takes p s
  served : ∃ role h, role ≠ some p.other ∧ exec c s = command (serve code role p tag h) s ∧ h (renewed p s) = g (renewed p s)

section Reaches

variable {c : Instr} {p : Port} {code : Nat} {tag : Byte} {s : State} {g : Part → Reply} {st : Status} {b : List Byte} {t : Part}
  {gs : List Group} {d : DoorId} {q : PortalId}

/-- The handler's part, with the response sent. -/
theorem Reaches.answers (k : Reaches c p code tag s g) (hh : g (renewed p s) = reply st b t) (only : Only gs (renewed p s) t)
    (keeps : (gs.contains .time || gs.contains .cfg) = false) :
    ∃ u, exec c s = .next u ∧ u.pending = s.pending ∧ answered p code tag st b u ∧ Within [] t u.part := by
  obtain ⟨⟨running, free⟩, role, h, hp, e, same⟩ := k
  simp only [Bool.or_eq_false_iff, List.contains_eq_mem, decide_eq_false_iff_not] at keeps
  have free' : ((cleared s).port p).inService = none := by cases p <;> exact free
  have served := serve_reply (s := cleared s) (tag := tag) (code := code) running free' hp (same.trans hh)
    (only.deadline keeps.1 keeps.2)
  refine ⟨{ s with part := send (.response p ⟨code, tag, st, b⟩) t }, ?_, rfl, ?_, send_within _ t⟩
  · rw [e, ← served]; rfl
  · simp [answered, only.out, renewed_out]

theorem Reaches.reads (k : Reaches c p code tag s g) (hh : g (renewed p s) = reply st b (renewed p s)) :
    readsOut c p code tag st b s :=
  k.answers hh (.refl [] _) rfl

/-- An answered request that changes one dock door. -/
theorem Reaches.dock {k' : Dock} (k : Reaches c p code tag s g) (hh : g (renewed p s) = reply st b t)
    (only : Only gs (renewed p s) t) (keeps : (gs.contains .time || gs.contains .cfg) = false) (one : OneDock d (renewed p s) t)
    (get : t.docks.get d = k') :
    ∃ u, exec c s = .next u ∧ u.pending = s.pending ∧ answered p code tag st b u ∧ u.part.docks.get d = k'
      ∧ othersKept (renewed p s).docks u.part.docks d ∧ Within gs (renewed p s) u.part := by
  obtain ⟨u, e, kept, ans, same⟩ := k.answers hh only keeps
  have docks : u.part.docks = t.docks := same .docks (by simp)
  exact ⟨u, e, kept, ans, by rw [docks]; exact get, by rw [docks]; exact one.docks, only.within.trans (same.mono (by simp))⟩

/-- An answered request that changes one portal. -/
theorem Reaches.portal {P : Portal → Prop} (k : Reaches c p code tag s g) (hh : g (renewed p s) = reply st b t)
    (only : Only gs (renewed p s) t) (keeps : (gs.contains .time || gs.contains .cfg) = false) (one : OnePortal q (renewed p s) t)
    (own : P (t.portals.get q)) :
    ∃ u, exec c s = .next u ∧ u.pending = s.pending ∧ answered p code tag st b u ∧ P (u.part.portals.get q)
      ∧ othersKept (renewed p s).portals u.part.portals q ∧ Within gs (renewed p s) u.part := by
  obtain ⟨u, e, kept, ans, same⟩ := k.answers hh only keeps
  have portals : u.part.portals = t.portals := same .portals (by simp)
  exact ⟨u, e, kept, ans, by rw [portals]; exact own, by rw [portals]; exact one.portals, only.within.trans (same.mono (by simp))⟩

theorem renewed_time (p : Port) (s : State) : (renewed p s).time = s.part.time := renew_time p _

theorem renewed_doorInService (p : Port) (s : State) (x : DoorRef) : doorInService (renewed p s) x = doorInService s.part x := by
  cases x <;> simp only [doorInService, dockInService, portalInService, renewed_cfg]

end Reaches

/-! ### Requests that name a door -/

section Doors

variable {α : Type} {c : Instr} {p : Port} {code : Nat} {tag : Byte} {s : State} {role : Option Port} {x : Option α} {f : α → DoorRef}
  {h : α → Part → Reply} {a : α} {d : DoorId}

theorem reaches_door (e : exec c s = command (serve code role p tag (doorRequest x f h)) s) (ht : takes p s)
    (hp : role ≠ some p.other) (hx : x = some a) (ins : doorInService s.part (f a) = true) : Reaches c p code tag s (h a) := by
  refine ⟨ht, role, _, hp, e, ?_⟩
  rw [doorRequest, hx]
  exact inServiceOr_in ((renewed_doorInService p s _).trans ins)

/-- A request of dock doors only, by a body that names a dock door. -/
theorem reaches_dock {h : α → DoorId → Part → Reply}
    (e : exec c s = command (serve code role p tag (doorRequest x f fun a => dockOnly (f a) (h a))) s) (ht : takes p s)
    (hp : role ≠ some p.other) (hx : x = some a) (hd : f a = .dock d) (ins : dockInService s.part d = true) :
    Reaches c p code tag s (h a d) := by
  obtain ⟨_, role, k, hp, e, same⟩ := reaches_door e ht hp hx (by rw [hd]; exact ins)
  exact ⟨ht, role, k, hp, e, same.trans (by rw [hd]; rfl)⟩

theorem revisionOr_stale {current expected : Nat} {h : Part → Reply} {s : Part} (ne : current ≠ expected) :
    revisionOr current expected h s = reply .stale (putU16 current) s := if_neg ne

theorem revisionOr_current {current expected : Nat} {h : Part → Reply} {s : Part} (eq : current = expected) :
    revisionOr current expected h s = h s := if_pos eq

end Doors

/-! ### One event of a dock door (R60) -/

section Track

variable {d : DoorId} {q : PortalId} {s : Part}

theorem wrap16_ne (n : Nat) : wrap16 n ≠ n := by unfold wrap16; omega

theorem wrap16_wrap16_ne (n : Nat) : wrap16 (wrap16 n) ≠ n := by unfold wrap16; omega

theorem dockMoved_iff {a b : Dock} : dockMoved a b = true ↔ a.state ≠ b.state ∨ a.claim ≠ b.claim ∨ a.trailer ≠ b.trailer
    ∨ a.returnMark ≠ b.returnMark ∨ a.capture ≠ b.capture ∨ a.pending ≠ b.pending := by
  simp [dockMoved, or_assoc]

theorem portalMoved_iff {a b : Portal} : portalMoved a b = true ↔ a.state ≠ b.state ∨ a.claim ≠ b.claim ∨ a.pending ≠ b.pending := by
  simp [portalMoved, or_assoc]

theorem trackDock_moved {f : Part → Part} (h : dockMoved (s.docks.get d) ((f s).docks.get d) = true) :
    (trackDock d f s).docks.get d = { (f s).docks.get d with revision := wrap16 ((f s).docks.get d).revision } := by
  unfold trackDock; dsimp only
  rw [h, onlyIf, if_pos rfl, bumpDock, modDock_get]

theorem trackDock_unmoved {f : Part → Part} (h : dockMoved (s.docks.get d) ((f s).docks.get d) = false) : trackDock d f s = f s := by
  unfold trackDock; dsimp only
  rw [h]; rfl

theorem trackDock_modDock {f : Dock → Dock} (h : dockMoved (s.docks.get d) (f (s.docks.get d)) = true) :
    (trackDock d (modDock d f) s).docks.get d
      = { f (s.docks.get d) with revision := wrap16 (f (s.docks.get d)).revision } := by
  rw [trackDock_moved (by rw [modDock_get]; exact h), modDock_get]

theorem trackModDock_only (f : Dock → Dock) (s : Part) : Only [.docks] s (trackDock d (modDock d f) s) :=
  trackDock_only (modDock_only d f s) rfl

theorem trackModDock_one (f : Dock → Dock) (s : Part) : OneDock d s (trackDock d (modDock d f) s) :=
  oneDock_trackDock (oneDock_modDock f s)

/-- A request answered by one change of a dock door that moves the revision. -/
theorem Reaches.tracks {c : Instr} {p : Port} {code : Nat} {tag : Byte} {s : State} {g : Part → Reply} {st : Status} {b : List Byte}
    {f : Dock → Dock} {k' : Dock} (k : Reaches c p code tag s g)
    (hh : g (renewed p s) = reply st b (trackDock d (modDock d f) (renewed p s)))
    (moved : dockMoved ((renewed p s).docks.get d) (f ((renewed p s).docks.get d)) = true)
    (get : { f ((renewed p s).docks.get d) with revision := wrap16 (f ((renewed p s).docks.get d)).revision } = k') :
    ∃ u, exec c s = .next u ∧ u.pending = s.pending ∧ answered p code tag st b u ∧ u.part.docks.get d = k'
      ∧ othersKept (renewed p s).docks u.part.docks d ∧ Within [.docks] (renewed p s) u.part :=
  k.dock hh (trackModDock_only f _) rfl (trackModDock_one f _) ((trackDock_modDock moved).trans get)

end Track

/-! ### Pending requests (R76) -/

section Pending

variable {d : DoorId} {s t : Part} {o : RequestEnd}

theorem endPendingDock_none (h : (s.docks.get d).pending = none) : endPendingDock d o s = s := by
  unfold endPendingDock; rw [h]

theorem endPendingDock_cancelled (d : DoorId) (s : Part) :
    (endPendingDock d .cancelled s).docks.get d = { s.docks.get d with pending := none } := by
  unfold endPendingDock; split
  · next h => rw [← h]
  · dsimp only
    rw [(notify_only ..).within .docks (by decide), modDock_get]; simp

/-- The end of a pending request tells the warehouse of it. -/
theorem endPendingDock_placed (d : DoorId) (o : RequestEnd) (s : Part) : placed s (endPendingDock d o s) []
    ((s.docks.get d).pending.elim [] fun x => [.doorRequestEnd (.dock d) x.origin x.time o]) := by
  unfold endPendingDock
  cases (s.docks.get d).pending <;> exact ⟨rfl, rfl⟩

theorem placed_within {u : Part} {gs : List Group} {plant warehouse : List NoticeBody} (h : placed s t plant warehouse)
    (w : Within gs t u) (c : gs.contains .ports = false) : placed s u plant warehouse := by
  have ports := w .ports (by simpa using c)
  rw [placed, ports.1, ports.2]; exact h

theorem trackDock_within (f : Part → Part) (s : Part) : Within [.docks] (f s) (trackDock d f s) :=
  (onlyIf_only (bumpDock_only d (f s))).within

end Pending

end Sys2Proof.Machine
end

section
/-! Claims of dock doors and the plant hold (O32: R71, O33: R72, O34: R73). -/

namespace Sys2Proof.Machine

open Sys2Proof

/-! ### CLAIM DOOR (R71) -/

section Claims

variable {d : DoorId} {s : Part} {x : ClaimReq} {rev : Nat}

theorem finish_some {α : Type} {y : Option (α × List Byte)} {a : α} (h : finish y = some a) : y = some (a, []) := by
  unfold finish at h; split at h
  · cases h; rfl
  · cases h

/-- The body of CLAIM DOOR carries INBOUND or OUTBOUND (R201). -/
theorem readClaim_direction {body : List Byte} (h : readClaim body = some x) : x.direction ≠ .none := by
  have read := finish_some h
  simp only [Option.bind_eq_bind, Option.bind_eq_some_iff] at read
  obtain ⟨_, -, _, -, chosen⟩ := read
  have made {dir : Claim} {l : List Byte} {door : DoorRef} (h : ((getU32 l).bind fun trailer => (getU16 trailer.2).bind fun revision =>
      some ((⟨door, dir, trailer.1, revision.1⟩ : ClaimReq), revision.2)) = some (x, [])) : x.direction = dir := by
    simp only [Option.bind_eq_some_iff] at h
    obtain ⟨_, -, _, -, made⟩ := h
    rw [← (Prod.mk.inj (Option.some_inj.mp made)).1]
  split at chosen
  · rw [made chosen]; exact Claim.noConfusion
  · split at chosen
    · rw [made chosen]; exact Claim.noConfusion
    · cases chosen

theorem claimDock_held (hr : (s.docks.get d).revision = x.revision) (hc : (s.docks.get d).claim ≠ .none) :
    claimDock x d s = refuse .held s := (revisionOr_current hr).trans (if_pos hc)

/-- A free door takes the claim, and its revision moves. -/
theorem claimDock_free (hr : (s.docks.get d).revision = x.revision) (hc : (s.docks.get d).claim = .none) :
    claimDock x d s = okDockRevision d (trackDock d (modDock d (setClaim x.direction (some x.trailer))) s) :=
  (revisionOr_current hr).trans (if_neg (not_not.mpr hc))

/-- A handler that answers with the revision of the door. -/
theorem okDockRevision_eq {n : Nat} (h : (s.docks.get d).revision = n) : okDockRevision d s = reply .ok (putU16 n) s := by
  rw [okDockRevision, h]

theorem okPortalRevision_eq {q : PortalId} {n : Nat} (h : (s.portals.get q).revision = n) :
    okPortalRevision q s = reply .ok (putU16 n) s := by
  rw [okPortalRevision, h]

end Claims

section ClaimRequest

variable {s : State} {tag : BitVec 8} {body : List (BitVec 8)} {x : ClaimReq} {d : DoorId}

theorem reaches_claimDoor (ht : takes .warehouse s) (hb : readClaim body = some x) (hd : x.door = .dock d)
    (ins : dockInService s.part d = true) : Reaches (.claimDoor .warehouse tag body) .warehouse 12 tag s (claimDock x d) :=
  reaches_dock (f := (·.door)) (h := claimDock) rfl ht (by decide) hb hd ins

end ClaimRequest

/-- A part that has just answered a request that left its ports alone takes the next request of the port, whose renewal finds an ACTIVE
port. -/
theorem takes_next {gs : List Group} {p : Port} {s t : State} (ht : takes p s) (w : Within gs (renewed p s) t.part)
    (c : (gs.contains .supply || gs.contains .ports) = false) : takes p t ∧ (renewed p t).docks = t.part.docks := by
  simp only [Bool.or_eq_false_iff, List.contains_eq_mem, decide_eq_false_iff_not] at c
  have supply : t.part.supply = s.part.supply := (w .supply c.1).trans (renew_supply p _)
  have ports := w .ports c.2
  have port : t.part.port p = (renewed p s).port p := by
    cases p
    · exact ports.1
    · exact ports.2
  have free : ((cleared s).port p).inService = none := by cases p <;> exact ht.2
  refine ⟨⟨by rw [Part.running, supply]; exact ht.1, ?_⟩, ?_⟩
  · rw [port]; exact (renew_inService p _).trans free
  · have active : ((cleared t).port p).silent = false := by
      have silent : (t.part.port p).silent = false := by rw [port]; exact renew_silent p _
      cases p <;> exact silent
    rw [renewed, renew_active active, modPort_docks]; rfl

/-- Settles O32: the refusals of what the body names, then the checks of R71 in order; the second claim meets the moved revision. -/
theorem claimDoorTakesAFreeDoor : Obligations.ClaimDoorTakesAFreeDoor := by
  intro s tag tag' body x ht hb
  refine ⟨fun q hq ins => ?portal, fun plant => ?plant, fun out => ?out, fun d hd ins => ?_⟩
  case portal =>
    exact (reaches_door rfl ht (by decide) hb (by rw [hq]; exact ins)).reads (dockOnly_portal hq _ _)
  case plant =>
    exact readsOut_of_send (fun _ => rfl) (serve_wrongRole plant.1 plant.2 rfl)
  case out =>
    refine readsOut_refuse (fun _ => rfl) ht (by decide) ?_
    rw [doorRequest, hb]
    exact inServiceOr_out ((renewed_doorInService _ s _).trans out)
  have k (tag : Byte) := reaches_claimDoor (tag := tag) ht hb hd ins
  refine ⟨fun stale => (k tag).reads (revisionOr_stale stale), fun current claimed => (k tag).reads (claimDock_held current claimed),
    fun current free => ?_⟩
  have direction := readClaim_direction hb
  have moved : dockMoved ((renewed .warehouse s).docks.get d)
      (setClaim x.direction (some x.trailer) ((renewed .warehouse s).docks.get d)) = true :=
    dockMoved_iff.mpr (.inr (.inl (by rw [free]; exact direction.symm)))
  have get := trackDock_modDock moved
  obtain ⟨t, e, kept, ans, door, others, within⟩ := (k tag).tracks
    ((claimDock_free current free).trans (okDockRevision_eq (congrArg Dock.revision get))) moved rfl
  obtain ⟨ht', docks⟩ := takes_next ht within rfl
  have ins' : dockInService t.part d = true := by
    rw [dockInService, within .cfg (by decide), renewed_cfg]; exact ins
  have now : ((renewed .warehouse t).docks.get d).revision = wrap16 ((renewed .warehouse s).docks.get d).revision := by
    rw [docks, door]; rfl
  have stale := (reaches_claimDoor (tag := tag') ht' hb hd ins').reads
    (revisionOr_stale (by rw [now, ← current]; exact wrap16_ne _))
  rw [now] at stale
  exact ⟨t, e, kept, ans, door, others, within, stale⟩

end Sys2Proof.Machine
end

section
/-! UNCLAIM DOOR (O33: R72, R76, R92, R100). -/

namespace Sys2Proof.Machine

open Sys2Proof

section Unclaim

variable {d : DoorId} {s : Part} {rev : Nat}

/-- The cases that keep a claim: the state of the door, a manifest in LOADING, a pallet on the trailer, a move whose path uses the door. -/
theorem unclaimBusy_iff : unclaimBusy s d = true ↔
    (s.docks.get d).state = .opening ∨ (s.docks.get d).state = .open ∨ (s.docks.get d).state = .closing
      ∨ (s.docks.get d).state = .breach ∨ (s.slots.get d).state = .loading ∨ (∃ x ∈ s.pallets, x.loc = .trailer d)
      ∨ ∃ x ∈ s.pallets, ∃ m, x.move = some m ∧ d ∈ pathDocks m.origin m.dest := by
  have uses : anyMoveUses s d = true ↔ ∃ x ∈ s.pallets, ∃ m, x.move = some m ∧ d ∈ pathDocks m.origin m.dest := by
    rw [anyMoveUses, List.any_eq_true]
    refine exists_congr fun x => and_congr_right fun _ => ?_
    cases x.move <;> simp [moveUsesDock]
  simp [unclaimBusy, anyPalletAt, uses, or_assoc]

theorem unclaimDock_free (hr : (s.docks.get d).revision = rev) (hc : (s.docks.get d).claim = .none) :
    unclaimDock rev d s = okDockRevision d s := by
  rw [unclaimDock, revisionOr_current hr, hc]

theorem unclaimDock_held (hr : (s.docks.get d).revision = rev) (hc : (s.docks.get d).claim = .plantHold) :
    unclaimDock rev d s = refuse .held s := by
  rw [unclaimDock, revisionOr_current hr, hc]

/-- The claim ended with its pending request, as one event of the door. -/
def claimEnded (d : DoorId) (s : Part) : Part :=
  trackDock d (fun s => endPendingDock d .cancelled (modDock d (setClaim .none none) s)) s

theorem unclaimDock_claimed (hr : (s.docks.get d).revision = rev) (hc : (s.docks.get d).claim = .inbound ∨ (s.docks.get d).claim = .outbound) :
    unclaimDock rev d s = if unclaimBusy s d = true then refuse .busyState s else okDockRevision d (emptySlotAt d (claimEnded d s)) := by
  rw [unclaimDock, revisionOr_current hr]
  obtain hc | hc := hc <;> rw [hc] <;> rfl

theorem claimEnded_get (hc : (s.docks.get d).claim ≠ .none) : (claimEnded d s).docks.get d
    = { s.docks.get d with
        claim := .none, trailer := none, returnMark := false, pending := none, refusal := false
        revision := wrap16 (s.docks.get d).revision } := by
  unfold claimEnded
  rw [trackDock_moved] <;> rw [endPendingDock_cancelled, modDock_get]
  · rfl
  · exact dockMoved_iff.mpr (.inr (.inl hc))

theorem claimEnded_only (d : DoorId) (s : Part) : Only [.docks, .ports] s (claimEnded d s) := by simp [claimEnded, covers]

theorem claimEnded_one (d : DoorId) (s : Part) : OneDock d s (claimEnded d s) :=
  oneDock_trackDock ((oneDock_modDock _ s).trans (oneDock_endPendingDock _ _))

/-- The warehouse is told of the request that ends with the claim. -/
theorem claimEnded_placed (d : DoorId) (s : Part) :
    placed s (claimEnded d s) [] ((s.docks.get d).pending.elim [] fun x => [.doorRequestEnd (.dock d) x.origin x.time .cancelled]) := by
  have told := endPendingDock_placed d .cancelled (modDock d (setClaim .none none) s)
  rw [modDock_get] at told
  exact placed_within told (trackDock_within _ s) rfl

/-- The slot is EMPTY after (R100); where it was not, the revision moves again (R92). -/
theorem emptySlotAt_get (d : DoorId) (s : Part) :
    (emptySlotAt d s).slots.get d = (if (s.slots.get d).state = .empty then s.slots.get d else emptySlot)
      ∧ (emptySlotAt d s).docks.get d
          = if (s.slots.get d).state = .empty then s.docks.get d
            else { s.docks.get d with revision := wrap16 (s.docks.get d).revision } := by
  unfold emptySlotAt onlyIf
  by_cases h : (s.slots.get d).state = .empty
  · simp [h]
  · have moved : ((s.slots.get d).state != SlotState.empty) = true := by simpa using h
    have changes : changeSlot d (fun _ => emptySlot) s = bumpDock d (modSlot d (fun _ => emptySlot) s) := by
      unfold changeSlot onlyIf; dsimp only
      rw [if_pos]; rw [modSlot_get]; exact moved
    rw [if_pos moved, if_neg h, if_neg h, changes, bumpDock, modDock_slots, modSlot_get, modDock_get, modSlot_docks]
    exact ⟨rfl, rfl⟩

theorem emptySlotAt_others (d : DoorId) (s : Part) :
    OneDock d s (emptySlotAt d s) ∧ othersKept s.slots (emptySlotAt d s).slots d := by
  have changed : OneDock d s (changeSlot d (fun _ => emptySlot) s) ∧ othersKept s.slots (changeSlot d (fun _ => emptySlot) s).slots d := by
    unfold changeSlot onlyIf; dsimp only; split
    · exact ⟨⟨fun _ hx => modDock_get_ne _ _ hx, rfl⟩, fun _ hx => modSlot_get_ne _ s hx⟩
    · exact ⟨⟨fun _ _ => rfl, rfl⟩, fun _ hx => modSlot_get_ne _ s hx⟩
  unfold emptySlotAt onlyIf; split
  · exact changed
  · exact ⟨.refl d s, fun _ _ => rfl⟩

end Unclaim

/-- Settles O33: the refusals in order, then the claim ended and the slot emptied. -/
theorem unclaimDoorEndsTheClaim : Obligations.UnclaimDoorEndsTheClaim := by
  intro s tag body d rev ht hb ins
  have k : Reaches (.unclaimDoor .warehouse tag body) .warehouse 13 tag s (unclaimDock rev d) :=
    reaches_dock (f := Prod.fst) (h := fun x => unclaimDock x.2) rfl ht (by decide) hb rfl ins
  refine ⟨fun stale => k.reads (revisionOr_stale stale), fun current free => ?free, fun current held => k.reads (unclaimDock_held current held),
    fun current claimed busy => ?busy, fun current claimed idle => ?ends⟩
  case free => exact k.reads ((unclaimDock_free current free).trans (okDockRevision_eq current))
  case busy => exact k.reads ((unclaimDock_claimed current claimed).trans (if_pos (unclaimBusy_iff.mpr busy)))
  case ends =>
    set r := renewed .warehouse s with hr
    set u := emptySlotAt d (claimEnded d r) with hu
    have some_ : (r.docks.get d).claim ≠ .none := by obtain h | h := claimed <;> rw [h] <;> exact Claim.noConfusion
    have hh : unclaimDock rev d r = reply .ok (putU16 (u.docks.get d).revision) u :=
      (unclaimDock_claimed current claimed).trans (if_neg fun h => idle (unclaimBusy_iff.mp h))
    have ended := claimEnded_only d r
    have emptied : Only [.docks, .slots] (claimEnded d r) u := emptySlotAt_only d _
    have only : Only [.docks, .slots, .ports] r u := (ended.mono rfl).trans (emptied.mono rfl)
    obtain ⟨t, e, kept, ans, same⟩ := k.answers hh only rfl
    have docks : t.part.docks = u.docks := same .docks (by simp)
    have slots : t.part.slots = u.slots := same .slots (by simp)
    have slots' : (claimEnded d r).slots = r.slots := ended.within .slots (by decide)
    obtain ⟨slot, dock⟩ := emptySlotAt_get d (claimEnded d r)
    obtain ⟨one, others⟩ := emptySlotAt_others d (claimEnded d r)
    rw [slots'] at slot dock others
    rw [claimEnded_get some_] at dock
    refine ⟨t, e, kept, by rw [docks]; exact ans, ?_, ?_, by rw [slots]; exact slot, by rw [docks]; exact ((claimEnded_one d r).trans one).docks,
      by rw [slots]; exact others, ?_, only.within.trans (same.mono (by simp))⟩
    · rw [docks, hu, dock]; split <;> rfl
    · rw [docks, hu, dock]; split
      · exact wrap16_ne _
      · exact wrap16_wrap16_ne _
    · have told := placed_within (claimEnded_placed d r) (emptied.within.trans (same.mono (by simp))) rfl
      cases h : (r.docks.get d).pending <;> rw [h] at told <;> exact told

end Sys2Proof.Machine
end

section
/-! HOLD DOOR and UNHOLD DOOR (O34: R73, R84, R85). -/

namespace Sys2Proof.Machine

open Sys2Proof

/-! ### The handlers by the claim -/

section Holds

variable {d : DoorId} {q : PortalId} {s : Part}

theorem holdDock_claimed (hc : (s.docks.get d).claim = .inbound ∨ (s.docks.get d).claim = .outbound) :
    holdDock d s = refuse .held s ∧ unholdDock d s = refuse .held s := by
  unfold holdDock unholdDock
  obtain hc | hc := hc <;> rw [hc] <;> exact ⟨rfl, rfl⟩

theorem holdDock_plantHold (hc : (s.docks.get d).claim = .plantHold) : holdDock d s = okDockRevision d s
    ∧ unholdDock d s = okDockRevision d (trackDock d (modDock d fun k => { k with claim := .none, refusal := false }) s) := by
  unfold holdDock unholdDock; rw [hc]; exact ⟨rfl, rfl⟩

theorem holdDock_none (hc : (s.docks.get d).claim = .none) : unholdDock d s = okDockRevision d s
    ∧ holdDock d s = okDockRevision d (trackDock d (modDock d fun k => { k with claim := .plantHold, refusal := false }) s) := by
  unfold holdDock unholdDock; rw [hc]; exact ⟨rfl, rfl⟩

/-- A portal taken into the plant's hold: its grant or its pending request ends (R73). -/
def portalHeld (q : PortalId) (s : Part) : Part := holdEnds q (modPortal q (fun k => { k with claim := .plantHold }) s)

/-- A portal released from the plant's hold: HELD where its zone is in BULK (R73, R85). -/
def portalUnheld (q : PortalId) (s : Part) : Part := unholdBulk q (modPortal q (fun k => { k with claim := .none }) s)

theorem holdPortal_plantHold (hc : (s.portals.get q).claim = .plantHold) : holdPortal q s = okPortalRevision q s
    ∧ unholdPortal q s = okPortalRevision q (trackPortal q (portalUnheld q) s) := by
  unfold holdPortal unholdPortal; rw [hc]; exact ⟨rfl, rfl⟩

theorem holdPortal_none (hc : (s.portals.get q).claim = .none) : unholdPortal q s = okPortalRevision q s
    ∧ holdPortal q s = okPortalRevision q (trackPortal q (portalHeld q) s) := by
  unfold holdPortal unholdPortal; rw [hc]; exact ⟨rfl, rfl⟩

/-! ### What the hold and its end change at a portal -/

theorem holdEnds_only (q : PortalId) (s : Part) : Only [.portals, .ports] s (holdEnds q s) := by
  unfold holdEnds; dsimp only; (repeat' split) <;> simp [covers]

theorem holdEnds_one (q : PortalId) (s : Part) : OnePortal q s (holdEnds q s) := by
  unfold holdEnds; dsimp only; repeat' split
  · exact onePortal_modPortal _ s
  · exact (onePortal_modPortal _ s).trans (onePortal_endPendingPortal _ _)
  · exact .refl q s

theorem grantEnded_kept (now : Nat) (k : Portal) :
    (grantEnded now k).claim = k.claim ∧ (grantEnded now k).revision = k.revision ∧ (grantEnded now k).openCommand = false := by
  unfold grantEnded; split <;> exact ⟨rfl, rfl, rfl⟩

/-- The hold ends a live grant or a pending request and keeps the claim and the revision. -/
theorem holdEnds_get (q : PortalId) (s : Part) :
    ((holdEnds q s).portals.get q).claim = (s.portals.get q).claim ∧ ((holdEnds q s).portals.get q).revision = (s.portals.get q).revision
      ∧ (grantLive (s.portals.get q) = true → ((holdEnds q s).portals.get q).openCommand = false)
      ∧ ((s.portals.get q).state = .deferred →
          ((holdEnds q s).portals.get q).pending = none ∧ ((holdEnds q s).portals.get q).state = .closed) := by
  unfold holdEnds; dsimp only; split
  · next live =>
    rw [modPortal_get]
    obtain ⟨claim, revision, command⟩ := grantEnded_kept s.time (s.portals.get q)
    exact ⟨claim, revision, fun _ => command, fun deferred => by simp [grantLive, deferred] at live⟩
  · next dead =>
    split
    · rw [endPendingPortal_get, modPortal_get]
      exact ⟨rfl, rfl, fun live => absurd live dead, fun _ => ⟨rfl, rfl⟩⟩
    · next other => exact ⟨rfl, rfl, fun live => absurd live dead, fun deferred => absurd deferred other⟩

theorem portalHeld_get (q : PortalId) (s : Part) :
    ((portalHeld q s).portals.get q).claim = .plantHold ∧ ((portalHeld q s).portals.get q).revision = (s.portals.get q).revision
      ∧ (grantLive (s.portals.get q) = true → ((portalHeld q s).portals.get q).openCommand = false)
      ∧ ((s.portals.get q).state = .deferred →
          ((portalHeld q s).portals.get q).pending = none ∧ ((portalHeld q s).portals.get q).state = .closed) := by
  have held := holdEnds_get q (modPortal q (fun k => { k with claim := .plantHold }) s)
  rw [modPortal_get] at held
  exact held

theorem portalHeld_only (q : PortalId) (s : Part) : Only [.portals, .ports] s (portalHeld q s) :=
  ((modPortal_only ..).mono rfl).trans (holdEnds_only q _)

theorem portalHeld_one (q : PortalId) (s : Part) : OnePortal q s (portalHeld q s) :=
  (onePortal_modPortal _ s).trans (holdEnds_one q _)

theorem becomeHeld_get (q : PortalId) (s : Part) : (becomeHeld q s).portals.get q
    = { s.portals.get q with state := .held, openCommand := true, grantDl := none, travelDl := none, pending := none } := by
  rw [becomeHeld, endPendingPortal_get, modPortal_get]

theorem portalUnheld_only (q : PortalId) (s : Part) : Only [.portals, .ports] s (portalUnheld q s) :=
  ((modPortal_only ..).mono rfl).trans (onlyIf_only (becomeHeld_only q _))

theorem portalUnheld_one (q : PortalId) (s : Part) : OnePortal q s (portalUnheld q s) :=
  (onePortal_modPortal _ s).trans (onePortal_onlyIf ((onePortal_modPortal _ _).trans (onePortal_endPendingPortal _ _)))

/-- A portal that BULK holds in states other than these is HELD once its hold ends (R85). -/
theorem bulkHolds_of_state {k : Portal} (free : k.claim = .none) (fault : k.state ≠ .fault) (locked : k.state ≠ .lockedOut)
    (blocked : k.state ≠ .blocked) (held : k.state ≠ .held) : bulkHolds k = true := by
  rw [bulkHolds_iff]
  cases h : k.state <;> simp_all

theorem portalUnheld_get (q : PortalId) (s : Part) :
    ((portalUnheld q s).portals.get q).claim = .none ∧ ((portalUnheld q s).portals.get q).revision = (s.portals.get q).revision
      ∧ ((s.zones.get (portalZone s q)).mode = .bulk → (s.portals.get q).state ≠ .fault → (s.portals.get q).state ≠ .lockedOut →
          (s.portals.get q).state ≠ .blocked → (s.portals.get q).state ≠ .held →
          ((portalUnheld q s).portals.get q).state = .held ∧ ((portalUnheld q s).portals.get q).openCommand = true) := by
  set u := modPortal q (fun k => { k with claim := .none }) s with hu
  have own : u.portals.get q = { s.portals.get q with claim := .none } := by rw [hu, modPortal_get]
  unfold portalUnheld unholdBulk onlyIf; rw [← hu]; split
  · rw [becomeHeld_get, own]; exact ⟨rfl, rfl, fun _ _ _ _ _ => ⟨rfl, rfl⟩⟩
  · next idle =>
    rw [own]
    refine ⟨rfl, rfl, fun bulk fault locked blocked held => absurd ?_ idle⟩
    have mode : (u.zones.get (portalZone u q)).mode = .bulk := bulk
    have holds : bulkHolds (u.portals.get q) = true := by
      rw [own]; exact bulkHolds_of_state rfl fault locked blocked held
    rw [mode, holds]; rfl

end Holds

/-! ### The requests -/

section Requests

variable {s : State} {tag : BitVec 8} {body : List (BitVec 8)} {x : DoorRef} {rev : Nat}

theorem reaches_holdDoor (ht : takes .plant s) (hb : readDoorRev body = some (x, rev)) (ins : doorInService s.part x = true) :
    Reaches (.holdDoor .plant tag body) .plant 14 tag s (holdDoor (x, rev)) :=
  reaches_door (f := Prod.fst) rfl ht (by decide) hb ins

theorem reaches_unholdDoor (ht : takes .plant s) (hb : readDoorRev body = some (x, rev)) (ins : doorInService s.part x = true) :
    Reaches (.unholdDoor .plant tag body) .plant 15 tag s (unholdDoor (x, rev)) :=
  reaches_door (f := Prod.fst) rfl ht (by decide) hb ins

/-- A hold set or ended at a dock door at the expected revision: the claim, and the revision. -/
theorem Reaches.setsHold {c : Instr} {code : Nat} {d : DoorId} {g : Part → Reply} {m : Claim}
    (k : Reaches c .plant code tag s g) (current : ((renewed .plant s).docks.get d).revision = rev)
    (other : ((renewed .plant s).docks.get d).claim ≠ m)
    (hh : g (renewed .plant s)
      = okDockRevision d (trackDock d (modDock d fun k => { k with claim := m, refusal := false }) (renewed .plant s))) :
    ∃ t, exec c s = .next t ∧ t.pending = s.pending ∧ answered .plant code tag .ok (putU16 ((rev + 1) % 65536)) t
      ∧ t.part.docks.get d
          = { (renewed .plant s).docks.get d with claim := m, refusal := false, revision := (rev + 1) % 65536 }
      ∧ othersKept (renewed .plant s).docks t.part.docks d ∧ Within [.docks] (renewed .plant s) t.part := by
  subst current
  have moved : dockMoved ((renewed .plant s).docks.get d) { (renewed .plant s).docks.get d with claim := m, refusal := false } = true :=
    dockMoved_iff.mpr (.inr (.inl other))
  have get := trackDock_modDock (f := fun k => { k with claim := m, refusal := false }) moved
  exact k.tracks (hh.trans (okDockRevision_eq (congrArg Dock.revision get))) moved rfl

/-- A hold set or ended at a portal at the expected revision. -/
theorem Reaches.setsPortalHold {c : Instr} {code : Nat} {q : PortalId} {g : Part → Reply} {f : Part → Part}
    (k : Reaches c .plant code tag s g) (current : ((renewed .plant s).portals.get q).revision = rev)
    (only : Only [.portals, .ports] (renewed .plant s) (f (renewed .plant s))) (one : OnePortal q (renewed .plant s) (f (renewed .plant s)))
    (other : ((renewed .plant s).portals.get q).claim ≠ ((f (renewed .plant s)).portals.get q).claim)
    (keeps : ((f (renewed .plant s)).portals.get q).revision = ((renewed .plant s).portals.get q).revision)
    (hh : g (renewed .plant s) = okPortalRevision q (trackPortal q f (renewed .plant s))) :
    ∃ t, exec c s = .next t ∧ t.pending = s.pending ∧ answered .plant code tag .ok (putU16 ((rev + 1) % 65536)) t
      ∧ t.part.portals.get q = { (f (renewed .plant s)).portals.get q with revision := (rev + 1) % 65536 }
      ∧ othersKept (renewed .plant s).portals t.part.portals q ∧ Within [.portals, .ports] (renewed .plant s) t.part := by
  subst current
  have get := trackPortal_moved (portalMoved_iff.mpr (.inr (.inl other)))
  rw [keeps] at get
  exact k.portal (P := (· = _)) (hh.trans (okPortalRevision_eq (congrArg Portal.revision get))) (trackPortal_only only rfl) rfl
    (onePortal_trackPortal one) get

end Requests

/-- Settles O34: at a dock door and at a portal, by the revision and the claim. -/
theorem holdAndUnholdSetThePlantHold : Obligations.HoldAndUnholdSetThePlantHold := by
  intro s tag body x rev ht hb ins
  have hold := reaches_holdDoor (tag := tag) ht hb ins
  have unhold := reaches_unholdDoor (tag := tag) ht hb ins
  refine ⟨fun d hx => ?dock, fun q hx => ?portal⟩ <;> subst hx
  case dock =>
    refine ⟨fun stale => ⟨hold.reads (revisionOr_stale stale), unhold.reads (revisionOr_stale stale)⟩,
      fun current claimed => ⟨hold.reads ((revisionOr_current current).trans (holdDock_claimed claimed).1),
        unhold.reads ((revisionOr_current current).trans (holdDock_claimed claimed).2)⟩,
      fun current held => ⟨hold.reads ?_, unhold.setsHold current (by rw [held]; exact Claim.noConfusion) ?_⟩,
      fun current free => ⟨unhold.reads ?_, hold.setsHold current (by rw [free]; exact Claim.noConfusion) ?_⟩⟩
    · exact (revisionOr_current current).trans ((holdDock_plantHold held).1.trans (okDockRevision_eq current))
    · exact (revisionOr_current current).trans (holdDock_plantHold held).2
    · exact (revisionOr_current current).trans ((holdDock_none free).1.trans (okDockRevision_eq current))
    · exact (revisionOr_current current).trans (holdDock_none free).2
  case portal =>
    refine ⟨fun stale => ⟨hold.reads (revisionOr_stale stale), unhold.reads (revisionOr_stale stale)⟩,
      fun current free => ⟨unhold.reads ?_, ?_⟩, fun current held => ⟨hold.reads ?_, ?_⟩⟩
    · exact (revisionOr_current current).trans ((holdPortal_none free).1.trans (okPortalRevision_eq current))
    · obtain ⟨claim, revision, command, request⟩ := portalHeld_get q (renewed .plant s)
      obtain ⟨t, e, kept, ans, get, others, within⟩ := hold.setsPortalHold (q := q) current (portalHeld_only q _) (portalHeld_one q _)
        (by rw [free, claim]; exact Claim.noConfusion) revision ((revisionOr_current current).trans (holdPortal_none free).2)
      refine ⟨t, e, kept, ans, ?_⟩
      rw [get]
      exact ⟨claim, command, request, rfl, others, within⟩
    · exact (revisionOr_current current).trans ((holdPortal_plantHold held).1.trans (okPortalRevision_eq current))
    · obtain ⟨claim, revision, bulk⟩ := portalUnheld_get q (renewed .plant s)
      obtain ⟨t, e, kept, ans, get, others, within⟩ := unhold.setsPortalHold (q := q) current (portalUnheld_only q _) (portalUnheld_one q _)
        (by rw [held, claim]; exact Claim.noConfusion) revision ((revisionOr_current current).trans (holdPortal_plantHold held).2)
      refine ⟨t, e, kept, ans, ?_⟩
      rw [get]
      exact ⟨claim, rfl, bulk, others, within⟩

end Sys2Proof.Machine
end

section
/-! The seal requests (O35: R63, O36: R64). -/

namespace Sys2Proof.Machine

open Sys2Proof

/-! ### SEAL and RESEAL (R63) -/

section Seals

variable {d : DoorId} {s : Part} {from_ : DockState}

theorem inflate_busy (hs : (s.docks.get d).state ≠ from_) : inflate from_ d s = refuse .busyState s := if_pos hs

theorem inflate_held (hs : (s.docks.get d).state = from_) (hc : (s.docks.get d).claim = .plantHold) :
    inflate from_ d s = refuse .held s := (if_neg (not_not.mpr hs)).trans (if_pos hc)

theorem inflate_starts (hs : (s.docks.get d).state = from_) (hc : (s.docks.get d).claim ≠ .plantHold) :
    inflate from_ d s = reply .ok [] (trackDock d (modDock d (enterInflating s.time (s.cfg.docks.get d).sealLimit)) s) :=
  (if_neg (not_not.mpr hs)).trans (if_neg hc)

/-- A door that enters another state loses the deadlines of the old one and its refusal mark (R81). -/
theorem dockEnter_other {st : DockState} {k : Dock} (h : k.state ≠ st) : dockEnter st k
    = { k with state := st, refusal := false, sealDl := none, travelDl := none, openDl := none, captureStart := none } := by
  rw [dockEnter, if_neg h]

theorem enterInflating_other {now limit : Nat} {k : Dock} (h : k.state ≠ .inflating) : enterInflating now limit k
    = { k with
        state := .inflating, refusal := false, sealDl := some (addTime now limit), travelDl := none, openDl := none
        captureStart := some now, capture := none, sealOut := .inflate } := by
  rw [enterInflating, dockEnter_other h]

end Seals

/-- Settles O35: SEAL and RESEAL are one handler, from ARRIVED and from SEAL_FAULT. -/
theorem sealStartsTheInflation : Obligations.SealStartsTheInflation := by
  intro s p tag body d ht hb ins r k inflates
  have starts {c : Instr} {code : Nat} {from_ : DockState} (reaches : Reaches c p code tag s (inflate from_ d)) (other : from_ ≠ .inflating)
      (hs : k.state = from_) (hc : k.claim ≠ .plantHold) : inflates c code := by
    refine reaches.tracks (inflate_starts hs hc) (dockMoved_iff.mpr (.inl ?_)) ?_
    · rw [show ((renewed p s).docks.get d).state = from_ from hs]; exact other
    · rw [enterInflating_other (k := (renewed p s).docks.get d) (by rw [show ((renewed p s).docks.get d).state = from_ from hs]; exact other),
        renewed_time, renewed_cfg]
      rfl
  have resealing : Reaches (.reseal p tag body) p 19 tag s (inflate .sealFault d) :=
    reaches_dock (f := id) (h := fun _ => inflate .sealFault) rfl ht nofun hb rfl ins
  refine ⟨fun hp => ?_, fun hs => resealing.reads (inflate_busy hs), fun hs hc => resealing.reads (inflate_held hs hc),
    fun hs hc => starts resealing DockState.noConfusion hs hc⟩
  have sealing : Reaches (.sealDoor p tag body) p 16 tag s (inflate .arrived d) :=
    reaches_dock (f := id) (h := fun _ => inflate .arrived) rfl ht (by rw [hp]; decide) hb rfl ins
  exact ⟨fun hs => sealing.reads (inflate_busy hs), fun hs hc => sealing.reads (inflate_held hs hc),
    fun hs hc => starts sealing DockState.noConfusion hs hc⟩

/-! ### RELEASE DOOR (R64) -/

section Release

variable {d : DoorId} {s : Part} {ret : Bool}

theorem waitingOnTrailer_iff : waitingOnTrailer s d = true ↔ ∃ x ∈ s.pallets, x.loc = .trailer d ∧ x.status = .waiting := by
  simp [waitingOnTrailer]

/-- What RELEASE DOOR does in SEALED: the seal deflates, the return mark is the one carried, a pending request ends. -/
def sealReleased (ret : Bool) (d : DoorId) (s : Part) : Part :=
  endPendingDock d .cancelled
    (modDock d (fun k => { k with returnMark := ret }) (modDock d (enterReleasing s.time (s.cfg.docks.get d).sealLimit) s))

theorem releaseDock_unloaded (h : (s.docks.get d).claim = .inbound ∧ ret = false ∧ waitingOnTrailer s d = true) :
    releaseDock ret d s = refuse .unloaded s := if_pos h

theorem releaseDock_sealed (h : ¬ ((s.docks.get d).claim = .inbound ∧ ret = false ∧ waitingOnTrailer s d = true))
    (hs : (s.docks.get d).state = .sealed) : releaseDock ret d s = reply .ok [] (trackDock d (sealReleased ret d) s) := by
  unfold releaseDock; dsimp only
  rw [if_neg h, hs]; rfl

theorem releaseDock_marks (h : ¬ ((s.docks.get d).claim = .inbound ∧ ret = false ∧ waitingOnTrailer s d = true))
    (hs : (s.docks.get d).state = .arrived ∨ (s.docks.get d).state = .sealFault) :
    releaseDock ret d s = reply .ok [] (trackDock d (modDock d fun k => { k with returnMark := ret }) s) := by
  unfold releaseDock; dsimp only
  rw [if_neg h]
  obtain hs | hs := hs <;> rw [hs]

theorem releaseDock_busy (h : ¬ ((s.docks.get d).claim = .inbound ∧ ret = false ∧ waitingOnTrailer s d = true))
    (sealed_ : (s.docks.get d).state ≠ .sealed) (arrived : (s.docks.get d).state ≠ .arrived)
    (fault : (s.docks.get d).state ≠ .sealFault) : releaseDock ret d s = refuse .busyState s := by
  unfold releaseDock; dsimp only
  rw [if_neg h]
  split
  · next hs => exact absurd hs sealed_
  · next hs => exact absurd hs arrived
  · next hs => exact absurd hs fault
  all_goals rfl

theorem sealReleased_get (hs : (s.docks.get d).state = .sealed) : (sealReleased ret d s).docks.get d
    = { s.docks.get d with
        state := .releasing, sealDl := some (addTime s.time (s.cfg.docks.get d).sealLimit), travelDl := none, openDl := none
        captureStart := none, refusal := false, sealOut := .deflate, returnMark := ret, pending := none } := by
  rw [sealReleased, endPendingDock_cancelled, modDock_get, modDock_get, enterReleasing, dockEnter_other (by rw [hs]; exact DockState.noConfusion)]

theorem sealReleased_only (ret : Bool) (d : DoorId) (s : Part) : Only [.docks, .ports] s (sealReleased ret d s) := by
  simp [sealReleased, covers]

theorem sealReleased_one (ret : Bool) (d : DoorId) (s : Part) : OneDock d s (sealReleased ret d s) :=
  ((oneDock_modDock _ s).trans (oneDock_modDock _ _)).trans (oneDock_endPendingDock _ _)

theorem sealReleased_placed (ret : Bool) (d : DoorId) (s : Part) : placed s (sealReleased ret d s) []
    ((s.docks.get d).pending.elim [] fun x => [.doorRequestEnd (.dock d) x.origin x.time .cancelled]) := by
  have told := endPendingDock_placed d .cancelled
    (modDock d (fun k => { k with returnMark := ret }) (modDock d (enterReleasing s.time (s.cfg.docks.get d).sealLimit) s))
  rw [modDock_get, modDock_get] at told
  exact told

end Release

/-- Settles O36: the unloaded check, then the state of the door. -/
theorem releaseDoorDeflatesTheSeal : Obligations.ReleaseDoorDeflatesTheSeal := by
  intro s tag body d ret ht hb ins r k c loaded
  have reaches : Reaches c .warehouse 17 tag s (releaseDock ret d) :=
    reaches_dock (f := Prod.fst) (h := fun x => releaseDock x.2) rfl ht (by decide) hb rfl ins
  have loaded_iff : loaded ↔ (r.docks.get d).claim = .inbound ∧ ret = false ∧ waitingOnTrailer r d = true := by rw [waitingOnTrailer_iff]
  refine ⟨fun h => reaches.reads (releaseDock_unloaded (loaded_iff.mp h)),
    fun h sealed_ arrived fault => reaches.reads (releaseDock_busy (h ∘ loaded_iff.mpr) sealed_ arrived fault),
    fun h hs => ?sealed, fun h hs => ?marks⟩
  case sealed =>
    have get := sealReleased_get (ret := ret) hs
    have moved : dockMoved (r.docks.get d) ((sealReleased ret d r).docks.get d) = true :=
      dockMoved_iff.mpr (.inl (by rw [get, show (r.docks.get d).state = .sealed from hs]; exact DockState.noConfusion))
    obtain ⟨t, e, kept, ans, same⟩ := reaches.answers (releaseDock_sealed (h ∘ loaded_iff.mpr) hs)
      (trackDock_only (sealReleased_only ret d r) rfl) rfl
    have docks := same .docks (by simp)
    refine ⟨t, e, kept, ans, ?_, ?_, ?_, (trackDock_only (sealReleased_only ret d r) rfl).within.trans (same.mono (by simp))⟩
    · rw [docks, trackDock_moved moved, get, show r.time = s.part.time from renewed_time _ s, show r.cfg = s.part.cfg from renewed_cfg _ s]
      rfl
    · have told := placed_within (sealReleased_placed ret d r) ((trackDock_within _ r).trans (same.mono (by simp))) rfl
      show placed r t.part [] (match (r.docks.get d).pending with | some x => _ | none => _)
      cases h : (r.docks.get d).pending <;> rw [h] at told <;> exact told
    · rw [docks]; exact (oneDock_trackDock (sealReleased_one ret d r)).docks
  case marks =>
    have hh := releaseDock_marks (h ∘ loaded_iff.mpr) hs
    have only := trackModDock_only (d := d) (fun k => { k with returnMark := ret }) r
    refine reaches.dock hh only rfl (trackModDock_one _ r) ?_
    by_cases same : k.returnMark = ret
    · have unmoved : dockMoved (r.docks.get d) ((modDock d (fun k => { k with returnMark := ret }) r).docks.get d) = false := by
        rw [modDock_get, ← same]; simp [dockMoved, k]
      rw [trackDock_unmoved unmoved, modDock_get, if_pos same]
    · rw [trackDock_modDock (dockMoved_iff.mpr (.inr (.inr (.inr (.inl same))))), if_neg same]
      rfl

end Sys2Proof.Machine
end

section
/-! CLOSE DOOR (O38: R66, R78, R84). -/

namespace Sys2Proof.Machine

open Sys2Proof

/-! ### Closing a dock door and ending a grant -/

section Closing

variable {d : DoorId} {q : PortalId} {s : Part}

theorem enterClosing_other {now : Nat} {k : Dock} (h : k.state ≠ .closing) : enterClosing now k
    = { k with
        state := .closing, refusal := false, sealDl := none, travelDl := some (addTime now travelTime), openDl := none
        captureStart := none } := by
  rw [enterClosing, dockEnter_other h]

/-- The end of a grant closes a portal that is reported CLOSED, and leaves another one OPEN with its travel time running (R84). -/
theorem grantEnded_get (now : Nat) (k : Portal) :
    (grantEnded now k).openCommand = false ∧ (grantEnded now k).grantDl = none
      ∧ (reportsClosed k = true → (grantEnded now k).state = .closed ∧ (grantEnded now k).travelDl = none)
      ∧ (reportsClosed k = false → (grantEnded now k).state = .open ∧ (grantEnded now k).travelDl = some (addTime now 30)) := by
  unfold grantEnded
  cases reportsClosed k
  · exact ⟨rfl, rfl, nofun, fun _ => ⟨rfl, rfl⟩⟩
  · exact ⟨rfl, rfl, fun _ => ⟨rfl, rfl⟩, nofun⟩

theorem endGrant_get (q : PortalId) (s : Part) :
    ∃ n, (endGrant q s).portals.get q = { grantEnded s.time (s.portals.get q) with revision := n } := by
  obtain ⟨n, e⟩ := trackPortal_get (q := q) (s := s) (modPortal q (grantEnded s.time))
  exact ⟨n, e.trans (by rw [modPortal_get])⟩

theorem endGrant_one (q : PortalId) (s : Part) : OnePortal q s (endGrant q s) := onePortal_trackPortal (onePortal_modPortal _ s)

/-! ### CLOSE DOOR by the state of the door (R78) -/

theorem closeDoor_closes (h : (s.docks.get d).state = .opening ∨ (s.docks.get d).state = .open) :
    closeDoor (.dock d) s = reply .ok [] (closeDock d s) := if_pos h

theorem closeDoor_cancels (h : (s.docks.get d).state = .sealed) :
    closeDoor (.dock d) s = reply .ok [] (trackDock d (endPendingDock d .cancelled) s) := by
  unfold closeDoor; dsimp only
  rw [h, if_neg (by decide), if_pos rfl]

theorem closeDoor_other (opening : (s.docks.get d).state ≠ .opening) (open_ : (s.docks.get d).state ≠ .open)
    (idle : (s.docks.get d).state ≠ .sealed ∨ (s.docks.get d).pending = none) : closeDoor (.dock d) s = reply .ok [] s := by
  by_cases sealed_ : (s.docks.get d).state = .sealed
  · have none_ := idle.resolve_left (not_not.mpr sealed_)
    rw [closeDoor_cancels sealed_, trackDock_unmoved] <;> rw [endPendingDock_none none_]
    simp [dockMoved]
  · unfold closeDoor; dsimp only
    rw [if_neg (not_or.mpr ⟨opening, open_⟩), if_neg sealed_]

theorem closeDoor_held (h : (s.portals.get q).state = .held) : closeDoor (.portal q) s = refuse .held s := if_pos h

theorem closeDoor_grant (h : (s.portals.get q).state = .granted ∨ ((s.portals.get q).state = .open ∧ (s.portals.get q).openCommand = true)) :
    closeDoor (.portal q) s = reply .ok [] (endGrant q s) := by
  have unheld : (s.portals.get q).state ≠ .held := by obtain h | ⟨h, -⟩ := h <;> rw [h] <;> exact PortalState.noConfusion
  exact (if_neg unheld).trans (if_pos h)

/-- A DEFERRED portal closed: its pending request ends. -/
def deferredClosed (q : PortalId) (s : Part) : Part :=
  endPendingPortal q .cancelled (modPortal q (fun k => { k with state := .closed }) s)

theorem closeDoor_deferred (h : (s.portals.get q).state = .deferred) :
    closeDoor (.portal q) s = reply .ok [] (trackPortal q (deferredClosed q) s) := by
  unfold closeDoor; dsimp only
  rw [h, if_neg (by decide), if_neg (by simp), if_pos rfl]; rfl

theorem closeDoor_rest (h : (s.portals.get q).state = .closed ∨ (s.portals.get q).state = .blocked ∨ (s.portals.get q).state = .fault
      ∨ (s.portals.get q).state = .lockedOut ∨ ((s.portals.get q).state = .open ∧ (s.portals.get q).openCommand = false)) :
    closeDoor (.portal q) s = reply .ok [] s := by
  unfold closeDoor; dsimp only
  obtain h | h | h | h | ⟨h, off⟩ := h
  on_goal 5 => rw [off]
  all_goals rw [h, if_neg (by decide), if_neg (by simp), if_neg (by decide)]

end Closing

/-- Settles O38: by the state of the dock door, and by the state of the portal. -/
theorem closeDoorClosesOrCancels : Obligations.CloseDoorClosesOrCancels := by
  intro s p tag body x ht hb ins r c
  have reaches : Reaches c p 20 tag s (closeDoor x) := reaches_door (f := id) rfl ht nofun hb ins
  have time : r.time = s.part.time := renewed_time p s
  refine ⟨fun d hx => ?dock, fun q hx => ?portal⟩ <;> subst hx
  case dock =>
    refine ⟨fun h => ?closes, fun y sealed_ pending => ?cancels, fun opening open_ idle => reaches.reads (closeDoor_other opening open_ idle)⟩
    case closes =>
      have other : (r.docks.get d).state ≠ .closing := by obtain h | h := h <;> rw [h] <;> exact DockState.noConfusion
      have enters := enterClosing_other (now := r.time) other
      refine reaches.tracks (closeDoor_closes h) (dockMoved_iff.mpr (.inl (by rw [enters]; exact other))) ?_
      rw [enters, time]; rfl
    case cancels =>
      have get := endPendingDock_cancelled d r
      have moved : dockMoved (r.docks.get d) ((endPendingDock d .cancelled r).docks.get d) = true :=
        dockMoved_iff.mpr (.inr (.inr (.inr (.inr (.inr (by rw [get, pending]; exact Option.some_ne_none y))))))
      have only : Only [.docks, .ports] r (trackDock d (endPendingDock d .cancelled) r) := trackDock_only (endPendingDock_only ..) rfl
      obtain ⟨t, e, kept, ans, same⟩ := reaches.answers (closeDoor_cancels sealed_) only rfl
      have docks := same .docks (by simp)
      have told := placed_within (endPendingDock_placed d .cancelled r) ((trackDock_within _ r).trans (same.mono (by simp))) rfl
      rw [pending] at told
      refine ⟨t, e, kept, ans, ?_, told, ?_, only.within.trans (same.mono (by simp))⟩
      · rw [docks, trackDock_moved moved, get]; rfl
      · rw [docks]; exact (oneDock_trackDock (oneDock_endPendingDock _ r)).docks
  case portal =>
    refine ⟨fun h => reaches.reads (closeDoor_held h), fun h => ?grant, fun h => ?deferred, fun h => reaches.reads (closeDoor_rest h)⟩
    case grant =>
      obtain ⟨n, get⟩ := endGrant_get q r
      obtain ⟨command, dl, closed, open_⟩ := grantEnded_get r.time (r.portals.get q)
      obtain ⟨t, e, kept, ans, portal, others, within⟩ :=
        reaches.portal (P := (· = _)) (closeDoor_grant h) (endGrant_only q r) rfl (endGrant_one q r) get
      refine ⟨t, e, kept, ans, ?_⟩
      rw [portal, ← time]
      exact ⟨command, dl, closed, open_, others, within⟩
    case deferred =>
      obtain ⟨n, get⟩ := trackPortal_get (q := q) (s := r) (deferredClosed q)
      have only : Only [.portals, .ports] r (deferredClosed q r) := by simp [deferredClosed, covers]
      obtain ⟨t, e, kept, ans, portal, others, within⟩ := reaches.portal (P := (· = _)) (closeDoor_deferred h) (trackPortal_only only rfl) rfl
        (onePortal_trackPortal ((onePortal_modPortal _ r).trans (onePortal_endPendingPortal _ _))) get
      refine ⟨t, e, kept, ans, ?_⟩
      rw [portal, deferredClosed, endPendingPortal_get, modPortal_get]
      exact ⟨rfl, rfl, others, within⟩

end Sys2Proof.Machine
end

section
/-! The deadlines of the doors (O39: R63 to R67, R79, R82, R84) and the settlement of open time (O47: R88). -/

namespace Sys2Proof.Machine

open Sys2Proof

/-! ### A part after an expiry that raises an alarm -/

section Raises

variable {k : AlarmKind} {x : Subject} {s t : Part} {gs : List Group}

/-- A raise after changes that left the alarm table alone finds the room there was. -/
theorem raisedNow_after (room : roomFor k x s) (only : Only gs s t) (c : gs.contains .alarms = false) : raisedNow k x (raiseAlarm k x t) := by
  refine raiseAlarm_raisedNow ?_
  rw [roomFor, only.within .alarms (by simpa using c)]; exact room

end Raises

section Deadlines

variable {d : DoorId} {q : PortalId} {s : Part}

/-! ### What the deadlines change -/

theorem sealTimeout_only (d : DoorId) (s : Part) : Only [.docks, .alarms, .ports] s (sealTimeout d s) := by simp [sealTimeout, covers]

theorem sealTimeout_one (d : DoorId) (s : Part) : OneDock d s (sealTimeout d s) :=
  (trackModDock_one enterSealFault s).trans (.of_only (raiseAlarm_only ..) rfl)

theorem sealTimeout_get (d : DoorId) (s : Part) :
    ∃ n, (sealTimeout d s).docks.get d = { enterSealFault (s.docks.get d) with revision := n } := by
  obtain ⟨n, e⟩ := trackDock_get (d := d) (s := s) (modDock d enterSealFault)
  refine ⟨n, ?_⟩
  rw [sealTimeout, (raiseAlarm_only ..).within .docks (by decide), e, modDock_get]

/-- A dock door that faults, but for the alarm (R67). -/
def dockFaulted (d : DoorId) (s : Part) : Part := trackDock d (fun s => endPendingDock d .cancelled (modDock d enterFault s)) s

theorem faultDock_known (h : (s.docks.get d).firstPending = false) :
    faultDock d s = raiseAlarm .doorFault (.door (.dock d)) (dockFaulted d s) := if_neg (by rw [h]; exact Bool.false_ne_true)

theorem dockFaulted_only (d : DoorId) (s : Part) : Only [.docks, .ports] s (dockFaulted d s) := by simp [dockFaulted, covers]

theorem dockFaulted_one (d : DoorId) (s : Part) : OneDock d s (dockFaulted d s) :=
  oneDock_trackDock ((oneDock_modDock _ s).trans (oneDock_endPendingDock _ _))

theorem dockFaulted_get (d : DoorId) (s : Part) :
    ∃ n, (dockFaulted d s).docks.get d = { enterFault (s.docks.get d) with pending := none, revision := n } := by
  obtain ⟨n, e⟩ := trackDock_get (d := d) (s := s) fun s => endPendingDock d .cancelled (modDock d enterFault s)
  exact ⟨n, e.trans (by rw [endPendingDock_cancelled, modDock_get])⟩

/-- A portal that faults, but for the alarm (R67, R82). -/
def portalFaulted (q : PortalId) (s : Part) : Part :=
  trackPortal q (fun s => endPendingPortal q .cancelled (modPortal q portalFault s)) s

theorem faultPortal_known (h : (s.portals.get q).firstPending = false) :
    faultPortal q s = raiseAlarm .doorFault (.door (.portal q)) (portalFaulted q s) := if_neg (by rw [h]; exact Bool.false_ne_true)

theorem portalFaulted_only (q : PortalId) (s : Part) : Only [.portals, .ports] s (portalFaulted q s) := by simp [portalFaulted, covers]

theorem portalFaulted_one (q : PortalId) (s : Part) : OnePortal q s (portalFaulted q s) :=
  onePortal_trackPortal ((onePortal_modPortal _ s).trans (onePortal_endPendingPortal _ _))

theorem portalFaulted_get (q : PortalId) (s : Part) :
    ∃ n, (portalFaulted q s).portals.get q = { portalFault (s.portals.get q) with pending := none, revision := n } := by
  obtain ⟨n, e⟩ := trackPortal_get (q := q) (s := s) fun s => endPendingPortal q .cancelled (modPortal q portalFault s)
  exact ⟨n, e.trans (by rw [endPendingPortal_get, modPortal_get])⟩

/-- The open deadline of a door that a move uses is put off, at most three times (R79). -/
theorem openTimeout_extends (uses : anyMoveUses s d = true) (few : (s.docks.get d).extensions < 3) :
    openTimeout d s = modDock d (fun k => { k with
      openDl := if (s.cfg.handling.get d).openLimit = 0 then none else some (addTime s.time (s.cfg.handling.get d).openLimit)
      extensions := k.extensions + 1 }) s := if_pos ⟨uses, few⟩

theorem openTimeout_closes (h : anyMoveUses s d = false ∨ 3 ≤ (s.docks.get d).extensions) :
    openTimeout d s = notifyBoth (.doorAutoClose (.dock d) .openLimit (some (s.docks.get d).extensions)) (closeDock d s) := by
  refine if_neg fun ⟨uses, few⟩ => ?_
  obtain idle | many := h
  · exact Bool.false_ne_true (idle.symm.trans uses)
  · omega

theorem openTimeout_one (d : DoorId) (s : Part) : OneDock d s (openTimeout d s) := by
  unfold openTimeout; dsimp only; split
  · exact oneDock_modDock _ s
  · exact (trackModDock_one _ s).trans (.of_only (notifyBoth_only ..) rfl)

theorem closeDock_get (d : DoorId) (s : Part) :
    ∃ n, (closeDock d s).docks.get d = { enterClosing s.time (s.docks.get d) with revision := n } := by
  obtain ⟨n, e⟩ := trackDock_get (d := d) (s := s) (modDock d (enterClosing s.time))
  exact ⟨n, e.trans (by rw [modDock_get])⟩

theorem notifyBoth_placed {gs : List Group} {t : Part} (b : NoticeBody) (only : Only gs s t)
    (c : (gs.contains .ports || gs.contains .time) = false) : placed s (notifyBoth b t) [b] [b] := by
  simp only [Bool.or_eq_false_iff, List.contains_eq_mem, decide_eq_false_iff_not] at c
  obtain ⟨plant, warehouse⟩ := only.within .ports c.1
  rw [placed, ← plant, ← warehouse, ← (only.within .time c.2 : t.time = s.time)]
  exact ⟨rfl, rfl⟩

end Deadlines

/-! ### The deadlines as commands -/

section Expiries

variable {s : State} {d : DoorId} {q : PortalId}

theorem exec_sealDeadlineExpiry (running : s.part.running = true) (due : reached (s.part.docks.get d).sealDl s.part.time = true) :
    exec (.sealDeadlineExpiry d) s = .next { s with part := sealTimeout d (cleared s) } :=
  (exec_running rfl running).trans (congrArg (fun x => Host.Outcome.next { s with part := x }) (if_pos due))

theorem exec_travelDeadlineExpiry (running : s.part.running = true) (due : reached (s.part.docks.get d).travelDl s.part.time = true) :
    exec (.travelDeadlineExpiry d) s = .next { s with part := faultDock d (cleared s) } :=
  (exec_running rfl running).trans (congrArg (fun x => Host.Outcome.next { s with part := x }) (if_pos due))

theorem exec_openDeadlineExpiry (running : s.part.running = true) (due : reached (s.part.docks.get d).openDl s.part.time = true) :
    exec (.openDeadlineExpiry d) s = .next { s with part := openTimeout d (cleared s) } :=
  (exec_running rfl running).trans (congrArg (fun x => Host.Outcome.next { s with part := x }) (if_pos due))

theorem exec_portalTravelDeadlineExpiry (running : s.part.running = true)
    (due : reached (s.part.portals.get q).travelDl s.part.time = true) :
    exec (.portalTravelDeadlineExpiry q) s = .next { s with part := faultPortal q (cleared s) } :=
  (exec_running rfl running).trans (congrArg (fun x => Host.Outcome.next { s with part := x }) (if_pos due))

theorem exec_grantDeadlineExpiry (running : s.part.running = true) (due : reached (s.part.portals.get q).grantDl s.part.time = true) :
    exec (.grantDeadlineExpiry q) s = .next { s with part := endGrant q (cleared s) } :=
  (exec_running rfl running).trans (congrArg (fun x => Host.Outcome.next { s with part := x }) (if_pos due))

end Expiries

/-- Settles O39: each deadline by its guard. -/
theorem doorDeadlinesActOnTheDoor : Obligations.DoorDeadlinesActOnTheDoor := by
  intro s running
  set r := cleared s with hr
  refine ⟨fun d => ⟨fun due => ?sealing, fun due known => ?travel, fun due => ?opened⟩, fun q => ⟨fun due known => ?portalTravel, fun due => ?grant⟩⟩
  case sealing =>
    have only := sealTimeout_only d r
    obtain ⟨n, get⟩ := sealTimeout_get d r
    refine ⟨_, exec_sealDeadlineExpiry running due, rfl, only.out, ?_⟩
    dsimp only
    rw [get]
    exact ⟨rfl, rfl, rfl, rfl, rfl, fun room => raisedNow_after (s := r) room (trackModDock_only enterSealFault r) rfl,
      (sealTimeout_one d r).docks, only.within⟩
  case travel =>
    have faults : faultDock d r = _ := faultDock_known known
    have only := faultDock_only d r
    obtain ⟨n, get⟩ := dockFaulted_get d r
    have docks : (faultDock d r).docks = (dockFaulted d r).docks := by rw [faults]; exact (raiseAlarm_only ..).within .docks (by decide)
    refine ⟨_, exec_travelDeadlineExpiry running due, rfl, only.out, ?_⟩
    dsimp only
    rw [docks, get]
    refine ⟨rfl, rfl, rfl, rfl, rfl, fun room => ?_, (dockFaulted_one d r).docks, only.within⟩
    rw [faults]; exact raisedNow_after (s := r) room (dockFaulted_only d r) rfl
  case opened =>
    refine ⟨_, exec_openDeadlineExpiry running due, rfl, ?_, fun uses few => ?_, fun h => ?_, (openTimeout_one d r).docks⟩
    · show (openTimeout d r).out = r.out
      unfold openTimeout; dsimp only; split
      · rfl
      · exact (notifyBoth_only ..).out.trans (closeDock_only d r).out
    · have extends_ : openTimeout d r = _ := openTimeout_extends uses few
      dsimp only
      rw [extends_, modDock_get]
      exact ⟨rfl, (modDock_only ..).within⟩
    · have closes : openTimeout d r = _ := openTimeout_closes h
      obtain ⟨n, get⟩ := closeDock_get d r
      dsimp only
      rw [closes]
      refine ⟨?_, ?_, ?_, notifyBoth_placed _ (closeDock_only d r) rfl⟩ <;>
        rw [(notifyBoth_only ..).within .docks (by decide), get] <;> rfl
  case portalTravel =>
    have faults : faultPortal q r = _ := faultPortal_known known
    have only := faultPortal_only q r
    obtain ⟨n, get⟩ := portalFaulted_get q r
    have portals : (faultPortal q r).portals = (portalFaulted q r).portals := by
      rw [faults]; exact (raiseAlarm_only ..).within .portals (by decide)
    refine ⟨_, exec_portalTravelDeadlineExpiry running due, rfl, only.out, ?_⟩
    dsimp only
    rw [portals, get]
    refine ⟨rfl, rfl, rfl, fun room => ?_, (portalFaulted_one q r).portals, only.within⟩
    rw [faults]; exact raisedNow_after (s := r) room (portalFaulted_only q r) rfl
  case grant =>
    have only := endGrant_only q r
    obtain ⟨n, get⟩ := endGrant_get q r
    obtain ⟨command, dl, closed, open_⟩ := grantEnded_get r.time (r.portals.get q)
    refine ⟨_, exec_grantDeadlineExpiry running due, rfl, only.out, ?_⟩
    dsimp only
    rw [get]
    exact ⟨command, dl, fun h => (closed h).1, open_, (endGrant_one q r).portals, only.within⟩

/-! ### The settlement of open time (R88) -/

section Settlement

variable {d : DoorId} {q : PortalId} {s : Part} {from_ : Nat}

theorem divideFrost_keeps_carry (z : ZoneId) (a c : Nat) (s : Part) :
    (divideFrost z a (modDock d (fun k => { k with carry := c }) s)).docks.get d = { s.docks.get d with carry := c }
      ∧ (divideFrost z a (modPortal q (fun k => { k with carry := c }) s)).portals.get q = { s.portals.get q with carry := c } := by
  rw [(divideFrost_only ..).within .docks (by decide), (divideFrost_only ..).within .portals (by decide), modDock_get, modPortal_get]
  exact ⟨rfl, rfl⟩

theorem settleDock_open (h : (s.docks.get d).settleFrom = some from_) (n : Nat) :
    settleDock d (from_ + n) s = onlyIf (0 < (n * (s.cfg.docks.get d).weight + (s.docks.get d).carry) / 10)
      (divideFrost 0 ((n * (s.cfg.docks.get d).weight + (s.docks.get d).carry) / 10))
      (modDock d (fun k => { k with carry := (n * (s.cfg.docks.get d).weight + (s.docks.get d).carry) % 10 }) s) := by
  unfold settleDock; dsimp only
  rw [h]; dsimp only
  rw [Nat.add_sub_cancel_left]

theorem settlePortal_open (h : (s.portals.get q).settleFrom = some from_) (n : Nat) :
    settlePortal q (from_ + n) s = onlyIf (0 < (n * (s.cfg.portals.get q).weight + (s.portals.get q).carry) / 10)
      (divideFrost (portalZone s q) ((n * (s.cfg.portals.get q).weight + (s.portals.get q).carry) / 10))
      (modPortal q (fun k => { k with carry := (n * (s.cfg.portals.get q).weight + (s.portals.get q).carry) % 10 }) s) := by
  unfold settlePortal; dsimp only
  rw [h]; dsimp only
  rw [Nat.add_sub_cancel_left]; rfl

/-- Two settlements of a time give the total of one: the first remainder is carried into the second. -/
theorem settlement_splits (g c a b : Nat) : (a * g + c) / 10 + (b * g + (a * g + c) % 10) / 10 = ((a + b) * g + c) / 10
    ∧ (b * g + (a * g + c) % 10) % 10 = ((a + b) * g + c) % 10 := by
  have total : (a + b) * g + c = b * g + (a * g + c) := by ring
  rw [total]
  generalize a * g + c = x
  generalize b * g = y
  omega

end Settlement

/-- Settles O47: the settlement of a dock door and of a portal, and the arithmetic of the carry. -/
theorem settlementDividesByTen : Obligations.SettlementDividesByTen := by
  refine ⟨fun s d from_ n h => ?dock, fun s q from_ n h => ?portal, settlement_splits⟩
  case dock =>
    dsimp only
    rw [settleDock_open h]
    generalize n * (s.cfg.docks.get d).weight + (s.docks.get d).carry = total
    refine ⟨?_, fun none => ?_, fun some => ?_⟩
    · unfold onlyIf; split
      · exact (divideFrost_keeps_carry (q := 0) 0 _ _ s).1
      · exact modDock_get d _ s
    · rw [none]; rfl
    · rw [onlyIf, if_pos (decide_eq_true some)]
  case portal =>
    dsimp only
    rw [settlePortal_open h]
    generalize n * (s.cfg.portals.get q).weight + (s.portals.get q).carry = total
    refine ⟨?_, fun none => ?_, fun some => ?_⟩
    · unfold onlyIf; split
      · exact (divideFrost_keeps_carry (d := 0) _ _ _ s).2
      · exact modPortal_get q _ s
    · rw [none]; rfl
    · rw [onlyIf, if_pos (decide_eq_true some)]

end Sys2Proof.Machine
end

section
/-! OPEN DOOR (O37: R74, R75, R167). -/

namespace Sys2Proof.Machine

open Sys2Proof

section Opening

variable {d : DoorId} {s : Part} {o : Origin} {st : Status} {sus : Bool}

/-! ### The checks of R74 in order -/

/-- The claim and the manifest of a door allow the exchange of pallets (R74, check 2). -/
def doorReady (s : Part) (d : DoorId) : Prop :=
  (s.docks.get d).claim = .outbound ∨ ((s.docks.get d).claim = .inbound ∧ (s.slots.get d).state = .committed)

/-- The last report of the door reads a trailer above the precool limit (R74, check 3). -/
def readsWarm (s : Part) (d : DoorId) : Prop :=
  ∃ l, (s.docks.get d).last = some l ∧ ∃ x, l.temp = some x ∧ (s.cfg.handling.get d).precool < x

theorem precooled_iff : precooled s d = true ↔ ¬ readsWarm s d := by
  unfold precooled readsWarm
  cases (s.docks.get d).last with
  | none => simp
  | some l => cases h : l.temp <;> simp [h]

theorem dockVerdict_busy (h : (s.docks.get d).state ≠ .sealed) : dockVerdict s d = .refused .busyState := if_pos h

section Sealed

variable (sealed_ : (s.docks.get d).state = .sealed)
include sealed_

theorem dockVerdict_notReady (h : ¬ doorReady s d) : dockVerdict s d = .refused .notReady :=
  (if_neg (not_not.mpr sealed_)).trans (if_pos h)

variable (ready : doorReady s d)
include ready

theorem dockVerdict_warm (h : (s.docks.get d).claim = .outbound ∧ readsWarm s d) : dockVerdict s d = .refused .trailerWarm :=
  (if_neg (not_not.mpr sealed_)).trans ((if_neg (not_not.mpr ready)).trans (if_pos ⟨h.1, fun cool => precooled_iff.mp cool h.2⟩))

variable (cool : ¬ ((s.docks.get d).claim = .outbound ∧ readsWarm s d))
include cool

theorem dockVerdict_precooled : dockVerdict s d
    = if (s.zones.get 0).mode = .draining ∨ (s.zones.get 0).mode = .pulldown then .refused .zoneClosed else (defrostAnswer s 0).verdict := by
  have pass : ¬ ((s.docks.get d).claim = .outbound ∧ ¬ precooled s d = true) := by rwa [precooled_iff, not_not]
  exact (if_neg (not_not.mpr sealed_)).trans ((if_neg (not_not.mpr ready)).trans (if_neg pass))

end Sealed

/-! ### OPEN DOOR by the verdict -/

theorem openDock_absorbed (h : (s.docks.get d).pending.isSome = true) : openDock d s = reply .deferred [0] s := if_pos h

section Asked

variable (idle : (s.docks.get d).pending = none)
include idle

theorem openDock_refused (v : dockVerdict s d = .refused st) :
    openDock d s = refuse st (modDock d (fun k => { k with refusal := true }) s) := by simp [openDock, askDock, idle, v]

theorem openDock_granted (v : dockVerdict s d = .granted sus) :
    openDock d s = reply .ok (putMark sus) (trackDock d (grantDock d) (onlyIf sus (suspendBatch 0) s)) := by simp [openDock, askDock, idle, v]

theorem openDock_deferred (v : dockVerdict s d = .deferred) :
    openDock d s = reply .deferred [0] (trackDock d (modDock d fun k => { k with pending := some ⟨.openDoor, s.time⟩ }) s) := by
  simp [openDock, askDock, idle, v, putMark, putU8]

theorem suspended_rests (sus : Bool) : (onlyIf sus (suspendBatch 0) s).docks.get d = s.docks.get d := by
  have rests : Rests s (onlyIf sus (suspendBatch 0) s) := rests_onlyIf fun _ =>
    Rests.trans (.of_only (suspendMembers_only 0 s) rfl) (rests_arbiterRounds 16 _)
  exact rests.docks d idle

end Asked

/-! ### The grant (R74, R75) -/

theorem enterOpening_other {now : Nat} {k : Dock} (h : k.state ≠ .opening) : enterOpening now k
    = { k with
        state := .opening, refusal := false, sealDl := none, travelDl := some (addTime now travelTime), openDl := none
        captureStart := none } := by
  rw [enterOpening, dockEnter_other h]

theorem grantDock_get (d : DoorId) (s : Part) :
    (grantDock d s).docks.get d = { enterOpening s.time (s.docks.get d) with pending := none } := by
  unfold grantDock; dsimp only
  rw [(onlyIf_only (notify_only ..)).within .docks (by decide), modDock_get]

theorem trackGrant_get (other : (s.docks.get d).state ≠ .opening) : (trackDock d (grantDock d) s).docks.get d
    = { s.docks.get d with
        state := .opening, travelDl := some (addTime s.time travelTime), sealDl := none, openDl := none, captureStart := none
        refusal := false, pending := none, revision := wrap16 (s.docks.get d).revision } := by
  have get := grantDock_get d s
  rw [enterOpening_other other] at get
  rw [trackDock_moved (dockMoved_iff.mpr (.inl (by rw [get]; exact other))), get]

theorem trackGrant_only (d : DoorId) (s : Part) : Only [.docks, .ports] s (trackDock d (grantDock d) s) :=
  trackDock_only (grantDock_only d s) rfl

/-- The groups that a suspension and the grant after it may change. -/
def grantGroups : List Group := [.zones, .docks, .portals, .evaps, .batches, .alarms, .ports]

theorem granted_only (d : DoorId) (sus : Bool) (s : Part) :
    Only grantGroups s (trackDock d (grantDock d) (onlyIf sus (suspendBatch 0) s)) := by
  refine Only.trans (onlyIf_only (suspendBatch_only 0 s)) ((trackGrant_only d _).mono ?_)
  decide

end Opening

/-- What follows a suspension and leaves the batches and the evaporators alone leaves it standing. -/
theorem suspendedNow_within {z : ZoneId} {s t u : Part} {gs : List Group} (h : suspendedNow z s t) (w : Within gs t u)
    (c : (gs.contains .batches || gs.contains .evaps) = false) : suspendedNow z s u := by
  simp only [Bool.or_eq_false_iff, List.contains_eq_mem, decide_eq_false_iff_not] at c
  have batches : u.batches = t.batches := w .batches c.1
  have evaps : u.evaps = t.evaps := w .evaps c.2
  unfold suspendedNow
  rw [batches, evaps]; exact h

/-- Settles O37: the checks of R74 in order, then the grant or the deferral by the answer of R75. -/
theorem openDoorIsGrantedByItsChecks : Obligations.OpenDoorIsGrantedByItsChecks := by
  intro s tag body d ht hb ins r k c refuses ready warm closed
  have reaches : Reaches c .warehouse 18 tag s (openDock d) :=
    reaches_dock (f := id) (h := fun _ => openDock) rfl ht (by decide) hb rfl ins
  have time : r.time = s.part.time := renewed_time .warehouse s
  refine ⟨fun h => reaches.reads (openDock_absorbed h), fun idle => ?_⟩
  have refused {st : Status} (v : dockVerdict r d = .refused st) : refuses st :=
    reaches.dock (openDock_refused idle v) (modDock_only ..) rfl (oneDock_modDock _ r) (modDock_get ..)
  have answered_ (sealed_ : k.state = .sealed) (hr : ready) (cool : ¬ warm) (open_ : ¬ closed) : dockVerdict r d = (defrostAnswer r 0).verdict :=
    (dockVerdict_precooled sealed_ hr cool).trans (if_neg open_)
  refine ⟨fun h => refused (dockVerdict_busy h), fun sealed_ h => refused (dockVerdict_notReady sealed_ h),
    fun sealed_ hr h => refused (dockVerdict_warm sealed_ hr h),
    fun sealed_ hr cool h => refused ((dockVerdict_precooled sealed_ hr cool).trans (if_pos h)),
    fun sealed_ hr cool open_ a => refused (by rw [answered_ sealed_ hr cool open_, a]; rfl),
    fun sealed_ hr cool open_ a => ?granted, fun sealed_ hr cool open_ a => ?deferred⟩
  case granted =>
    have asked := answered_ sealed_ hr cool open_
    have grants {sus : Bool} (h : (defrostAnswer r 0).verdict = .granted sus) :=
      reaches.answers (openDock_granted idle (asked.trans h)) (granted_only d sus r) rfl
    have rests (sus : Bool) : (onlyIf sus (suspendBatch 0) r).docks.get d = r.docks.get d := suspended_rests idle sus
    have get (sus : Bool) := trackGrant_get (d := d) (s := onlyIf sus (suspendBatch 0) r)
      (by rw [rests, show (r.docks.get d).state = .sealed from sealed_]; exact DockState.noConfusion)
    have clock (sus : Bool) : (onlyIf sus (suspendBatch 0) r).time = s.part.time :=
      ((onlyIf_only (suspendBatch_only 0 r)).within .time (by decide) : (onlyIf sus (suspendBatch 0) r).time = r.time).trans time
    obtain a | a := a <;> rw [a]
    · obtain ⟨t, e, kept, ans, same⟩ := grants (sus := false) (by rw [a]; rfl)
      have docks := same .docks (by simp)
      refine ⟨t, e, kept, ans, ?_, fun _ => ⟨?_, (trackGrant_only d r).within.trans (same.mono (by simp))⟩, nofun⟩
      · rw [docks, get false, rests, clock]; rfl
      · rw [docks]; exact (oneDock_trackDock (oneDock_grantDock r)).docks
    · obtain ⟨t, e, kept, ans, same⟩ := grants (sus := true) (by rw [a]; rfl)
      refine ⟨t, e, kept, ans, ?_, nofun, fun _ own => ?_⟩
      · rw [same .docks (by simp), get true, rests, clock]; rfl
      · have after := (trackGrant_only d (suspendBatch 0 r)).within.trans (same.mono (by simp))
        have suspended : suspendedNow 0 r (suspendBatch 0 r) := suspendBatch_suspended own
        exact suspendedNow_within suspended after rfl
  case deferred =>
    have v : dockVerdict r d = .deferred := by rw [answered_ sealed_ hr cool open_, a]; rfl
    refine reaches.tracks (openDock_deferred idle v) (dockMoved_iff.mpr (.inr (.inr (.inr (.inr (.inr ?_)))))) ?_
    · dsimp only; rw [show ((renewed .warehouse s).docks.get d).pending = none from idle]; nofun
    · rw [renewed_time]; rfl

end Sys2Proof.Machine
end

section
/-! What stands in the warehouse port's queue stays there (O24, R190, R191). -/

namespace Sys2Proof.Machine

open Sys2Proof

section Told

variable {I : Part → Prop} {s t : Part} {b : NoticeBody}

/-- A property of the queues and device time that one more notice keeps is kept by all that only talks. -/
theorem Talks.keeps_queues
    (still : ∀ s t : Part, t.portPlant.box = s.portPlant.box → t.portWarehouse.box = s.portWarehouse.box → t.time = s.time → I s → I t)
    (note : ∀ p b s, I s → I (Machine.notify p b s)) (h : Talks s t) (hs : I s) : I t := by
  have both (b : NoticeBody) {u : Part} (k : I u) : I (notifyBoth b u) := note _ b _ (note _ b _ k)
  have table (f : AlarmTable → AlarmTable) {u : Part} (k : I u) : I (modAlarms f u) := still u _ rfl rfl rfl k
  refine h.keeps (fun u v q => still u v q.plant q.warehouse q.time) note (fun a x u k => ?raised) (fun a x u k => ?ended) hs
  case raised =>
    obtain ⟨c, -, e⟩ | ⟨-, -, e⟩ | ⟨c, -, -, -, e⟩ | ⟨-, -, -, e⟩ := raiseAlarm_cases a x u <;> rw [e]
    · exact both _ (table _ k)
    · exact both _ (table _ k)
    · exact both _ (table _ (both _ (table _ k)))
    · exact both _ (table _ k)
  case ended =>
    obtain e | ⟨c, -, -, -, e⟩ | ⟨c, -, -, -, e⟩ := endCondition_cases a x u <;> rw [e]
    · exact k
    · exact both _ (table _ (table _ k))
    · exact both _ (table _ (table _ k))

theorem told_notify_warehouse (b : NoticeBody) (s : Part) : warehouseTold b (notify .warehouse b s) := by
  unfold warehouseTold notify modPort offer; dsimp only; split
  · exact fun _ => ⟨_, List.mem_append_right _ (List.mem_singleton_self _), rfl, rfl⟩
  · exact nofun

theorem told_notify (p : Port) (c : NoticeBody) (h : warehouseTold b s) : warehouseTold b (notify p c s) := by
  cases p with
  | plant => exact h
  | warehouse =>
    unfold warehouseTold notify modPort offer; dsimp only; split
    · intro room
      obtain ⟨n, mem, told⟩ := h room
      exact ⟨n, List.mem_append_left _ mem, told⟩
    · exact nofun

/-- A notice of now in the queue stays there: the queue only grows, time stands, and an overflow is not undone. -/
theorem Talks.told (k : Talks s t) (h : warehouseTold b s) : warehouseTold b t := by
  refine k.keeps_queues (I := warehouseTold b) (fun u v _ box time told => ?_) (fun p c _ => told_notify p c) h
  obtain ⟨queue, overflow, -⟩ : v.portWarehouse.queue = u.portWarehouse.queue ∧ v.portWarehouse.overflow = u.portWarehouse.overflow ∧ _ := by
    simpa [PortRec.box] using box
  rwa [warehouseTold, queue, overflow, time]

/-- A notice in no order with what only talks is told in either order. -/
theorem told_eitherOrder {c : Bool} {g : Part → Part} (hg : ∀ t, Talks t (g t)) :
    warehouseTold b (eitherOrder c (notify .warehouse b) g s) := by
  unfold eitherOrder; split
  · unfold unordered; dsimp only; split
    · exact (hg _).told (told_notify_warehouse b _)
    · exact told_notify_warehouse b _
  · exact (hg _).told (told_notify_warehouse b _)

end Told

end Sys2Proof.Machine
end

section
/-! The drain check (O24: R53): what it leaves alone, and that it leaves none undone. -/

namespace Sys2Proof.Machine

open Sys2Proof

section Drain

variable {q : PortalId} {x z : ZoneId} {s t : Part}

theorem drainCheck_due (h : drainDue s z = true) :
    drainCheck z s = modeNotice z .draining .drained (portalsBlock z (setMode z .pulldown none s)) := if_pos h

theorem drainCheck_idle (h : drainDue s z = false) : drainCheck z s = s := if_neg (by rw [h]; exact Bool.false_ne_true)

theorem drainCheck_self (z : ZoneId) (s : Part) : drainDue (drainCheck z s) z = false := by
  cases h : drainDue s z with
  | false => rw [drainCheck_idle h, h]
  | true =>
    have mode : ((drainCheck z s).zones.get z).mode = .pulldown := by
      rw [drainCheck_due h, (modeNotice_only ..).within .zones (by decide), (portalsBlock_only ..).within .zones (by decide), setMode_get]
    rw [drainDue, mode]; rfl

theorem drainCheck_zone (hx : z ≠ x) (s : Part) : (drainCheck x s).zones.get z = s.zones.get z := by
  cases h : drainDue s x with
  | false => rw [drainCheck_idle h]
  | true =>
    rw [drainCheck_due h, (modeNotice_only ..).within .zones (by decide), (portalsBlock_only ..).within .zones (by decide)]
    exact modZone_get_ne _ s hx

theorem portalsBlock_other (h : portalOf s z q = false) : (portalsBlock z s).portals.get q = s.portals.get q := by
  unfold portalsBlock
  refine forEach_portal (P := (· = s.portals.get q)) (gs := [.portals, .ports])
    (fun i t => onePortal_onlyIf (onePortal_trackPortal ((onePortal_modPortal _ t).trans (onePortal_endPendingPortal _ _))))
    (fun i t => onlyIf_only (by simp [covers])) rfl fun t portal cfg _ => ?_
  rw [portalOf_of_cfg cfg, h]; exact portal

/-- A drain check changes the portals of its own zone only, and these only where it completes. -/
theorem drainCheck_portal (h : drainDue s z = true → portalOf s z q = false) : (drainCheck z s).portals.get q = s.portals.get q := by
  cases due : drainDue s z with
  | false => rw [drainCheck_idle due]
  | true =>
    rw [drainCheck_due due, (modeNotice_only ..).within .portals (by decide)]
    exact portalsBlock_other (s := setMode z .pulldown none s) (h due)

theorem portalOf_ne (hx : z ≠ x) (h : portalOf s z q = true) : portalOf s x q = false := by
  refine Bool.eq_false_iff.mpr fun other => hx ?_
  exact Option.some_inj.mp ((portalOf_zone h).symm.trans (portalOf_zone other))

/-- The doors of a zone are closed or not whatever becomes of the portals of others. -/
theorem zoneDoorsClosed_congr (hd : t.docks = s.docks) (hc : t.cfg = s.cfg)
    (hp : ∀ q, portalOf s z q = true → t.portals.get q = s.portals.get q) : zoneDoorsClosed t z = zoneDoorsClosed s z := by
  unfold zoneDoorsClosed; split
  · simp only [dockInService, dockClosed, hd, hc]
  · refine List.all_congr rfl fun q => ?_
    rw [portalOf_of_cfg hc]
    cases h : portalOf s z q with
    | false => rfl
    | true => rw [portalClosed, portalClosed, hp q h]

/-- The check of one zone makes none due in another. -/
theorem drainDue_drainCheck (h : drainDue s z = false) (x : ZoneId) : drainDue (drainCheck x s) z = false := by
  by_cases hx : z = x
  · subst hx; exact drainCheck_self z s
  · have only := drainCheck_only x s
    have doors : zoneDoorsClosed (drainCheck x s) z = zoneDoorsClosed s z :=
      zoneDoorsClosed_congr (only.within .docks (by decide)) (only.within .cfg (by decide)) fun q of =>
        drainCheck_portal fun _ => portalOf_ne hx of
    rw [drainDue, drainCheck_zone hx, anyMoveTouches, only.within .pallets (by decide), doors]
    exact h

/-- Two drain checks, in either order, leave neither undone. -/
theorem drainDue_eitherOrder (b : Bool) (z x : ZoneId) (s : Part) :
    drainDue (eitherOrder b (drainCheck z) (drainCheck x) s) z = false
      ∧ drainDue (eitherOrder b (drainCheck z) (drainCheck x) s) x = false := by
  have done (z x : ZoneId) (t : Part) : drainDue (drainCheck x (drainCheck z t)) z = false ∧ drainDue (drainCheck x (drainCheck z t)) x = false :=
    ⟨drainDue_drainCheck (drainCheck_self z t) x, drainCheck_self x _⟩
  unfold eitherOrder; split
  · unfold unordered; dsimp only; split
    · exact done z x _
    · exact (done x z _).symm
  · exact done z x s

end Drain

/-! ### A portal in use stands (R53, R83) -/

/-- The portal is granted or open, and is none of the hall's. -/
def inUse (q : PortalId) (s : Part) : Prop :=
  (s.cfg.portals.get q).zone ≠ some 0 ∧ ((s.portals.get q).state = .granted ∨ (s.portals.get q).state = .open)

/-- The configuration stands, and so does the portal while it is in use. -/
structure Stands (q : PortalId) (s t : Part) : Prop where
  cfg : t.cfg = s.cfg
  portal : inUse q s → t.portals.get q = s.portals.get q

section Stands

variable {q : PortalId} {z : ZoneId} {s t u : Part}

theorem Stands.refl (q : PortalId) (s : Part) : Stands q s s := ⟨rfl, fun _ => rfl⟩

theorem Stands.inUse (h : Stands q s t) (use : inUse q s) : Machine.inUse q t := by
  rwa [Machine.inUse, h.cfg, h.portal use]

theorem Stands.trans (h : Stands q s t) (h' : Stands q t u) : Stands q s u :=
  ⟨h'.cfg.trans h.cfg, fun use => (h'.portal (h.inUse use)).trans (h.portal use)⟩

theorem Stands.of_eq (hc : t.cfg = s.cfg) (hp : t.portals = s.portals) : Stands q s t := ⟨hc, fun _ => by rw [hp]⟩

theorem Stands.of_only {gs : List Group} (h : Only gs s t) (c : (gs.contains .cfg || gs.contains .portals) = false) : Stands q s t := by
  simp only [Bool.or_eq_false_iff, List.contains_eq_mem, decide_eq_false_iff_not] at c
  exact .of_eq (h.within .cfg c.1) (h.within .portals c.2)

/-- A portal in use keeps its zone's doors from being closed. -/
theorem inUse_undue (use : inUse q s) (of : portalOf s z q = true) : drainDue s z = false := by
  obtain ⟨zone, state⟩ := use
  have hz : z ≠ 0 := fun zero => zone (zero ▸ portalOf_zone of)
  have open_ : portalClosed s q = false := by obtain h | h := state <;> simp [portalClosed, h]
  have doors : zoneDoorsClosed s z = false := by
    rw [zoneDoorsClosed, if_neg hz]
    exact List.all_eq_false.mpr ⟨q, List.mem_finRange q, by simp [of, open_]⟩
  rw [drainDue, doors, Bool.and_false]

theorem stands_drainCheck (z : ZoneId) (s : Part) : Stands q s (drainCheck z s) := by
  refine ⟨(drainCheck_only z s).within .cfg (by decide), fun use => drainCheck_portal fun due => Bool.eq_false_iff.mpr fun of => ?_⟩
  exact Bool.false_ne_true ((inUse_undue use of).symm.trans due)

theorem stands_forList {α : Type} {f : α → Part → Part} (h : ∀ a t, Stands q t (f a t)) (l : List α) (s : Part) :
    Stands q s (forList l f s) := by
  induction l generalizing s with
  | nil => exact .refl q s
  | cons a l ih => exact (h a s).trans (ih _)

theorem stands_onlyIf {b : Bool} {f : Part → Part} (h : Stands q s (f s)) : Stands q s (onlyIf b f s) := by
  unfold onlyIf; split
  · exact h
  · exact .refl q s

theorem stands_eitherOrder {b : Bool} {f g : Part → Part} (hf : ∀ t, Stands q t (f t)) (hg : ∀ t, Stands q t (g t)) (s : Part) :
    Stands q s (eitherOrder b f g s) := by
  have drawn : Stands q s { s with draws := s.draws + 1 } := .of_eq rfl rfl
  unfold eitherOrder; split
  · unfold unordered; dsimp only; split
    · exact (drawn.trans (hf _)).trans (hg _)
    · exact (drawn.trans (hg _)).trans (hf _)
  · exact (hf _).trans (hg _)

theorem stands_endMove (id : Nat) (note : Option (MoveEnd → NoticeBody)) (s : Part) : Stands q s (endMove id note s) := by
  unfold endMove; split
  · exact .refl q s
  · split
    · exact .refl q s
    · dsimp only
      set t := modPallet id _ _ with ht
      have moved : Stands q s t := by rw [ht]; split <;> exact .of_eq rfl rfl
      split
      · exact moved.trans (stands_forList stands_drainCheck _ t)
      · exact moved.trans (stands_eitherOrder (fun _ => .of_only (notify_only ..) rfl) (fun _ => stands_forList stands_drainCheck _ _) t)

theorem stands_holdCheck (id : Nat) (s : Part) : Stands q s (holdCheck id s) := by
  unfold holdCheck; split
  · exact .refl q s
  · dsimp only; split
    · refine Stands.trans ?_ (stands_onlyIf (stands_endMove ..))
      refine Stands.trans ?_ (.of_only (raiseAlarm_only ..) rfl)
      exact Stands.trans (.of_only (modPallet_only ..) rfl) (.of_only (notify_only ..) rfl)
    · exact .refl q s

theorem stands_updatePallet (id : Nat) (s : Part) : Stands q s (updatePallet id s) := by
  unfold updatePallet; split
  · exact .refl q s
  · split
    · exact .refl q s
    · refine Stands.trans ?_ (.of_only (dwellCheck_only ..) rfl)
      refine Stands.trans ?_ (stands_holdCheck id _)
      exact Stands.trans (.of_only (modPallet_only ..) rfl) (.of_only (warnCheck_only ..) rfl)

theorem stands_passMove (id : Nat) (door : DoorRef) (dir : Direction) (s : Part) : Stands q s (passMove id door dir s) := by
  unfold passMove; split
  · exact .refl q s
  · split
    · exact Stands.trans (.of_only (modPallet_only ..) rfl) (.of_only (notify_only ..) rfl)
    · split
      · exact stands_endMove ..
      · split
        · exact .refl q s
        · exact .of_only (notify_only ..) rfl

end Stands

end Sys2Proof.Machine
end

section
/-! The pallet table under a pass (O24: R115, R122 to R125). -/

namespace Sys2Proof.Machine

open Sys2Proof

/-- The table is the list with the record of the identifier replaced; the list holds such a record. -/
structure Carries (l : List Pallet) (id : Nat) (p : Pallet) (s : Part) : Prop where
  own : p.id = id
  table : s.pallets = l.map fun w => if w.id = id then p else w
  mem : ∃ w ∈ l, w.id = id

section Carries

variable {l : List Pallet} {id : Nat} {p : Pallet} {s t : Part}

theorem Carries.find (h : Carries l id p s) : findPallet s id = some p := by
  obtain ⟨own, table, mem⟩ := h
  rw [findPallet, table]
  clear table
  induction l with
  | nil => obtain ⟨w, hw, -⟩ := mem; cases hw
  | cons a l ih =>
    by_cases ha : a.id = id
    · simp [ha, own]
    · obtain ⟨w, hw, hid⟩ := mem
      have rest : w ∈ l := (List.mem_cons.mp hw).resolve_left fun e => ha (e ▸ hid)
      simpa [ha] using ih ⟨w, rest, hid⟩

theorem Carries.of_eq (h : Carries l id p s) (e : t.pallets = s.pallets) : Carries l id p t := ⟨h.own, e.trans h.table, h.mem⟩

theorem Carries.of_only {gs : List Group} (h : Carries l id p s) (only : Only gs s t) (c : gs.contains .pallets = false) :
    Carries l id p t := h.of_eq (only.within .pallets (by simpa using c))

theorem Carries.mod (h : Carries l id p s) (f : Pallet → Pallet) (keeps : (f p).id = p.id) : Carries l id (f p) (modPallet id f s) := by
  refine ⟨keeps.trans h.own, ?_, h.mem⟩
  simp only [modPallet, h.table, List.map_map]
  refine List.map_congr_left fun w _ => ?_
  by_cases hw : w.id = id
  · simp [hw, h.own]
  · simp [hw]

/-- The records of a table whose identifiers are distinct: one that is found stands for its identifier. -/
theorem carries_found (unique : palletsUnique s) (found : findPallet s id = some p) : Carries s.pallets id p s := by
  obtain ⟨mem, hid⟩ := findPallet_id found
  refine ⟨hid, ?_, p, mem, hid⟩
  have same (w : Pallet) (hw : w ∈ s.pallets) : (if w.id = id then p else w) = w := by
    split
    · next h => exact List.inj_on_of_nodup_map (unique.imp Nat.ne_of_lt) mem hw (hid.trans h.symm)
    · rfl
  exact (List.map_id' s.pallets).symm.trans (List.map_congr_left fun w hw => (same w hw).symm)

theorem Touches.carries (h : Touches id s t) (c : Carries l id p s) : ∃ q, heat q = heat p ∧ Carries l id q t := by
  obtain ⟨g, keeps, e⟩ := h
  exact ⟨g p, keeps p, (c.mod g (heat_id (keeps p))).of_eq e⟩

/-- An update of a pallet changes neither its identifier nor its place. -/
theorem updatePallet_carries (c : Carries l id p s) : ∃ q, q.loc = p.loc ∧ Carries l id q (updatePallet id s) := by
  unfold updatePallet
  rw [c.find]; dsimp only; split
  · exact ⟨p, rfl, c⟩
  · have updated := c.mod (fun _ => updatedPallet s p) rfl
    have checks := ((touches_warnCheck id _).trans (touches_holdCheck id _)).trans (touches_dwellCheck id (holdCheck id (warnCheck id
      (modPallet id (fun _ => updatedPallet s p) s))))
    obtain ⟨q, same, carried⟩ := checks.carries updated
    exact ⟨q, congrArg (·.2.1) same, carried⟩

theorem updatePallet_unfound (h : findPallet s id = none) : updatePallet id s = s := by unfold updatePallet; rw [h]

/-- The record with the updated fields, in the table the update leaves, and where it stood before the update (R122). -/
theorem updatePallet_found (unique : palletsUnique s) (found : findPallet (updatePallet id s) id = some p) :
    ∃ p', findPallet s id = some p' ∧ p'.loc = p.loc ∧ Carries (updatePallet id s).pallets id p (updatePallet id s) := by
  cases before : findPallet s id with
  | none => rw [updatePallet_unfound before, before] at found; cases found
  | some p' =>
    have start := carries_found unique before
    obtain ⟨q, loc, carried⟩ := updatePallet_carries start
    obtain rfl : q = p := Option.some_inj.mp (carried.find.symm.trans found)
    refine ⟨p', rfl, loc.symm, carries_found ?_ found⟩
    rw [palletsUnique, carried.table, List.map_map]
    have ids : (fun w : Pallet => w.id) ∘ (fun w => if w.id = id then q else w) = (·.id) := by
      funext w
      by_cases hw : w.id = id
      · simp [hw, carried.own]
      · simp [hw]
    rw [ids]; exact unique

end Carries

/-! ### The steps of a pass -/

section Pass

variable {l : List Pallet} {id : Nat} {p : Pallet} {s t : Part} {door : DoorRef} {dir : Direction} {m : Move}

theorem restingStatus_eq (hd : t.docks = s.docks) (x : Loc) : restingStatus t x = restingStatus s x := by
  unfold restingStatus; rw [hd]

theorem passLocs_eq (hc : t.cfg = s.cfg) (door : DoorRef) (dir : Direction) : passLocs t door dir = passLocs s door dir := by
  unfold passLocs portalZone; rw [hc]

theorem moveUses_eq (hc : t.cfg = s.cfg) (m : Move) (door : DoorRef) : moveUses t m door = moveUses s m door := by
  cases door <;> simp only [moveUses, moveUsesPortal, hc]

/-- Step 3 (R123). -/
theorem passLocation_carries (c : Carries l id p s) : Carries l id { p with loc := (passLocs s door dir).2 } (passLocation id door dir s) := by
  unfold passLocation
  rw [c.find]
  exact (c.mod (fun p => { p with loc := (passLocs s door dir).2 }) rfl).of_only (onlyIf_only (notify_only ..)) rfl

theorem told_passLocation (c : Carries l id p s) (jumps : p.loc ≠ (passLocs s door dir).1) :
    warehouseTold (.locationJump id door dir p.loc (passLocs s door dir).2) (passLocation id door dir s) := by
  unfold passLocation
  rw [c.find]; dsimp only
  rw [onlyIf, if_pos (bne_iff_ne.mpr jumps)]
  exact told_notify_warehouse _ _

/-- A record whose move has ended (R115). -/
def moveEnded (s : Part) (p : Pallet) : Pallet := { p with move := none, status := restingStatus s p.loc }

/-- A move ends: the table and the credits (R115). -/
theorem endMove_carries (c : Carries l id p s) (moves : p.move = some m) (note : Option (MoveEnd → NoticeBody)) :
    Carries l id (moveEnded s p) (endMove id note s) ∧ (endMove id note s).credits = s.credits - (if m.reserved then 1 else 0) := by
  unfold endMove
  rw [c.find]; dsimp only
  rw [moves]; dsimp only
  set freed : Part := if m.reserved then { s with credits := s.credits - 1 } else s with hfreed
  set t := modPallet id (fun p => { p with move := none, status := restingStatus s p.loc }) freed with ht
  have ended : Carries l id (moveEnded s p) t :=
    (c.of_eq (by rw [hfreed]; split <;> rfl)).mod (fun p => { p with move := none, status := restingStatus s p.loc }) rfl
  have credits : t.credits = s.credits - (if m.reserved then 1 else 0) := by
    rw [ht, modPallet_credits, hfreed]; split <;> rfl
  have rest {u : Part} (only : Only [.zones, .portals, .ports] t u) :
      Carries l id (moveEnded s p) u ∧ u.credits = s.credits - (if m.reserved then 1 else 0) :=
    ⟨ended.of_only only rfl, (only.within .credits (by decide)).trans credits⟩
  have drains (l : List ZoneId) (t : Part) : Only [.zones, .portals, .ports] t (forList l drainCheck t) := forList_only drainCheck_only l t
  cases note with
  | none => exact rest (drains _ t)
  | some f => exact rest (eitherOrder_only (fun _ => (notify_only ..).mono rfl) (fun _ => drains _ _) t)

theorem told_endMove (c : Carries l id p s) (moves : p.move = some m) (f : MoveEnd → NoticeBody) :
    warehouseTold (f ⟨id, m.origin, m.dest, m.granted, p.loc⟩) (endMove id (some f) s) := by
  unfold endMove
  rw [c.find]; dsimp only
  rw [moves]
  exact told_eitherOrder fun t => talks_forList (fun _ _ => talks_drainCheck (.refl _)) (.refl t)

/-- The pallet stands where its move ends. -/
def arrived (p : Pallet) : Prop := ∃ m, p.move = some m ∧ p.loc = destOf m.dest

/-- Step 4 (R124) of a record without a move: it rests, and the warehouse is told of it. -/
theorem passMove_unplanned (c : Carries l id p s) (none_ : p.move = none) :
    Carries l id (moveEnded s p) (passMove id door dir s) ∧ (passMove id door dir s).credits = s.credits
      ∧ warehouseTold (.passUnplanned id door dir p.loc) (passMove id door dir s) := by
  unfold passMove
  rw [c.find]; dsimp only
  rw [none_]; dsimp only
  have ended : ({ p with status := restingStatus s p.loc } : Pallet) = moveEnded s p := by rw [moveEnded, ← none_]
  have rests := c.mod (fun p => { p with status := restingStatus s p.loc }) rfl
  have only := notify_only .warehouse (.passUnplanned id door dir p.loc) (modPallet id (fun p => { p with status := restingStatus s p.loc }) s)
  exact ⟨ended ▸ rests.of_only only rfl, only.within .credits (by decide), told_notify_warehouse _ _⟩

theorem passMove_arrives (c : Carries l id p s) (moves : p.move = some m) (here : p.loc = destOf m.dest) :
    passMove id door dir s = endMove id (some .moveDone) s := by
  unfold passMove
  rw [c.find]; dsimp only
  rw [moves]; exact if_pos here

/-- A move that does not end here goes on: only a notice may follow, where its path does not use the door (R124). -/
theorem passMove_goesOn (c : Carries l id p s) (moves : p.move = some m) (other : p.loc ≠ destOf m.dest) :
    Only [.ports] s (passMove id door dir s)
      ∧ (moveUses s m door = false → warehouseTold (.passOffPath id door dir p.loc m.dest) (passMove id door dir s)) := by
  unfold passMove
  rw [c.find]; dsimp only
  rw [moves]; dsimp only
  rw [if_neg other]; split
  · next uses => exact ⟨.refl _ s, fun off => absurd (off.symm.trans uses) Bool.false_ne_true⟩
  · exact ⟨notify_only .., fun _ => told_notify_warehouse _ _⟩

/-- The record with its hall entry time, dwell mark and reservation after a change of place from `old` at time `now` (R125). -/
def hallMarked (now : Nat) (old : Loc) (p : Pallet) : Pallet :=
  if p.loc = .hall ∧ old ≠ .hall then
    { p with hallEntry := some now, dwellRaised := false, move := p.move.map fun m => { m with reserved := false } }
  else if old = .hall ∧ p.loc ≠ .hall then { p with hallEntry := none, dwellRaised := false }
  else p

/-- The credit taken by a pallet that enters the hall: none if its move holds one. -/
def entryCredit (p : Pallet) : Nat := p.move.elim 1 fun m => if m.reserved then 0 else 1

/-- Step 5 (R125): the record and the credits. -/
theorem passHall_carries (c : Carries l id p s) (old : Loc) :
    Carries l id (hallMarked s.time old p) (passHall id old s)
      ∧ (passHall id old s).credits = s.credits + (if p.loc = .hall ∧ old ≠ .hall then entryCredit p else 0)
          - (if old = .hall ∧ p.loc ≠ .hall then 1 else 0) := by
  unfold passHall
  rw [c.find]; dsimp only
  by_cases same : p.loc = old
  · have outside : ¬ (p.loc = .hall ∧ old ≠ .hall) := fun ⟨h, k⟩ => k (same ▸ h)
    have inside : ¬ (old = .hall ∧ p.loc ≠ .hall) := fun ⟨h, k⟩ => k (same ▸ h)
    rw [if_pos same, hallMarked, if_neg outside, if_neg outside, if_neg inside, if_neg inside]
    exact ⟨c, rfl⟩
  · rw [if_neg same]
    by_cases here : p.loc = .hall
    · have enters : p.loc = .hall ∧ old ≠ .hall := ⟨here, fun h => same (here.trans h.symm)⟩
      have stays : ¬ (old = .hall ∧ p.loc ≠ .hall) := fun h => h.2 here
      rw [if_pos here, hallMarked, if_pos enters, if_pos enters, if_neg stays]
      have marked := c.mod (fun p => { p with
        hallEntry := some s.time, dwellRaised := false, move := p.move.map fun m => { m with reserved := false } }) rfl
      refine ⟨?_, ?_⟩
      · (repeat' split) <;> exact marked.of_eq rfl
      · unfold entryCredit
        cases p.move with
        | none => rfl
        | some m => cases h : m.reserved <;> simp [h]
    · have outside : ¬ (p.loc = .hall ∧ old ≠ .hall) := fun h => here h.1
      rw [if_neg here, hallMarked, if_neg outside, if_neg outside]
      by_cases there : old = .hall
      · have leaves : old = .hall ∧ p.loc ≠ .hall := ⟨there, here⟩
        rw [if_pos there, if_pos leaves, if_pos leaves]
        exact ⟨(c.mod (fun p => { p with hallEntry := none, dwellRaised := false }) rfl).of_eq rfl, rfl⟩
      · have beyond : ¬ (old = .hall ∧ p.loc ≠ .hall) := fun h => there h.1
        rw [if_neg there, if_neg beyond, if_neg beyond]
        exact ⟨c, rfl⟩

end Pass

end Sys2Proof.Machine
end

section
/-! A pass from its processing to its hand-on (O24: R79, R83, R122 to R125). -/

namespace Sys2Proof.Machine

open Sys2Proof

/-! ### The record after a pass -/

/-- The record's move ends at the place. -/
abbrev endsAt (p : Pallet) (x : Loc) : Prop := ∃ m, p.move = some m ∧ x = destOf m.dest

/-- The record's move holds a credit. -/
abbrev holdsCredit (p : Pallet) : Prop := ∃ m, p.move = some m ∧ m.reserved = true

/-- The record after step 4 (R124): at rest if it has no move left. -/
def movedOn (s : Part) (p : Pallet) : Pallet := if p.move = none ∨ endsAt p p.loc then moveEnded s p else p

/-- The record after a pass that takes it to `new` at time `now`. -/
def passedTo (now : Nat) (s : Part) (new : Loc) (p : Pallet) : Pallet :=
  { (if new = .hall ∧ p.loc ≠ .hall then { p with hallEntry := some now, dwellRaised := false }
      else if p.loc = .hall ∧ new ≠ .hall then (if p.loc = new then p else { p with hallEntry := none, dwellRaised := false })
      else p) with
    loc := new
    status := if p.move = none ∨ endsAt p new then restingStatus s new else p.status
    move := if endsAt p new then none
      else p.move.map fun m => if new = .hall ∧ p.loc ≠ .hall then { m with reserved := false } else m }

section Record

variable {l : List Pallet} {id : Nat} {p : Pallet} {s : Part} {door : DoorRef} {dir : Direction} {m : Move} {x : Loc}

theorem endsAt_iff (moves : p.move = some m) : endsAt p x ↔ x = destOf m.dest := by simp [endsAt, moves]

theorem holdsCredit_iff (moves : p.move = some m) : holdsCredit p ↔ m.reserved = true := by simp [holdsCredit, moves]

theorem not_endsAt (none_ : p.move = none) : ¬ endsAt p x := by simp [endsAt, none_]

theorem not_holdsCredit (none_ : p.move = none) : ¬ holdsCredit p := by simp [holdsCredit, none_]

/-- Step 4 (R124): the record and the credits. -/
theorem passMove_carries (c : Carries l id p s) : Carries l id (movedOn s p) (passMove id door dir s)
    ∧ (passMove id door dir s).credits = s.credits - (if endsAt p p.loc ∧ holdsCredit p then 1 else 0) := by
  obtain none_ | ⟨m, moves⟩ := Option.eq_none_or_eq_some p.move
  · obtain ⟨rests, credits, -⟩ := passMove_unplanned (door := door) (dir := dir) c none_
    rw [movedOn, if_pos (.inl none_), if_neg fun h => not_endsAt none_ h.1]
    exact ⟨rests, credits⟩
  · by_cases here : p.loc = destOf m.dest
    · have ends : endsAt p p.loc := ⟨m, moves, here⟩
      rw [passMove_arrives c moves here, movedOn, if_pos (.inr ends)]
      simpa only [ends, true_and, holdsCredit_iff moves] using endMove_carries c moves (some .moveDone)
    · have goes : ¬ endsAt p p.loc := fun h => here ((endsAt_iff moves).mp h)
      obtain ⟨only, -⟩ := passMove_goesOn (door := door) (dir := dir) c moves here
      rw [movedOn, if_neg (not_or.mpr ⟨by rw [moves]; exact Option.some_ne_none m, goes⟩), if_neg fun h => goes h.1]
      exact ⟨c.of_only only rfl, only.within .credits (by decide)⟩

theorem movedOn_at (s : Part) (new : Loc) (p : Pallet) : movedOn s { p with loc := new } = { p with
    loc := new, status := if p.move = none ∨ endsAt p new then restingStatus s new else p.status
    move := if endsAt p new then none else p.move } := by
  unfold movedOn
  by_cases rests : p.move = none ∨ endsAt p new
  · have move : (if endsAt p new then none else p.move) = none := by
      split
      · rfl
      · next goes => exact rests.resolve_right goes
    rw [if_pos rests, if_pos rests, move]; rfl
  · rw [if_neg rests, if_neg rests, if_neg fun h => rests (.inr h)]

/-- The steps together make the record that the pass leaves. -/
theorem hallMarked_movedOn (now : Nat) (s : Part) (new : Loc) (p : Pallet) :
    hallMarked now p.loc (movedOn s { p with loc := new }) = passedTo now s new p := by
  rw [movedOn_at, hallMarked, passedTo]
  by_cases enters : new = .hall ∧ p.loc ≠ .hall
  · simp only [enters, and_self, if_true, ne_eq, not_false_eq_true]
    rw [apply_ite (Option.map _), Option.map_none]
  · simp only [enters, if_false, Option.map_id']
    by_cases leaves : p.loc = .hall ∧ new ≠ .hall
    · have moved : p.loc ≠ new := fun same => leaves.2 (same ▸ leaves.1)
      simp only [if_pos leaves, if_neg moved]
    · simp only [if_neg leaves]

/-- The credits after steps 4 and 5. -/
theorem entryCredit_movedOn (s : Part) (new : Loc) (p : Pallet) :
    entryCredit (movedOn s { p with loc := new }) = if endsAt p new ∨ ¬ holdsCredit p then 1 else 0 := by
  rw [movedOn_at, entryCredit]
  by_cases ends : endsAt p new
  · simp only [ends, if_true, true_or]; rfl
  · simp only [ends, if_false, false_or]
    obtain none_ | ⟨m, moves⟩ := Option.eq_none_or_eq_some p.move
    · rw [if_pos (not_holdsCredit none_), none_]; rfl
    · simp only [holdsCredit_iff moves]
      rw [moves, Option.elim_some]
      cases m.reserved <;> rfl

end Record

/-! ### The pass up to its hand-on -/

/-- A pass but for its hand-on (R122, steps 1 to 5). -/
def passTracked (door : DoorRef) (x : Pass) (s : Part) : Part :=
  match findPallet s x.id with
  | none => notify .warehouse (.unknownPallet x.id x.dir door) s
  | some p => passHall x.id p.loc (passMove x.id door x.dir (passLocation x.id door x.dir (updatePallet x.id s)))

section Tracked

variable {door : DoorRef} {x : Pass} {s : Part} {p : Pallet} {m : Move} {q : PortalId} {d : DoorId}

theorem processPass_eq (door : DoorRef) (x : Pass) (s : Part) : processPass door x s = passHandOn door (passTracked door x s) := by
  unfold processPass passTracked
  cases findPallet s x.id <;> rfl

theorem passTracked_unknown (h : findPallet s x.id = none) :
    passTracked door x s = notify .warehouse (.unknownPallet x.id x.dir door) s := by unfold passTracked; rw [h]

theorem passTracked_only (door : DoorRef) (x : Pass) (s : Part) :
    Only [.zones, .portals, .pallets, .credits, .alarms, .ports] s (passTracked door x s) := by
  unfold passTracked; split <;> simp [covers]

theorem stands_passTracked (door : DoorRef) (x : Pass) (s : Part) : Stands q s (passTracked door x s) := by
  unfold passTracked; split
  · exact .of_only (notify_only ..) rfl
  · refine Stands.trans ?_ (.of_only (passHall_only ..) rfl)
    refine Stands.trans ?_ (stands_passMove ..)
    exact (stands_updatePallet ..).trans (.of_only (passLocation_only ..) rfl)

/-- The pass of a pallet that has a record: the table, the credits, and what the warehouse is told. -/
structure Tracked (door : DoorRef) (x : Pass) (v : Part) (p : Pallet) (new : Loc) (t : Part) : Prop where
  pallets : t.pallets = v.pallets.map fun w => if w.id = x.id then passedTo v.time v new p else w
  credits : t.credits = v.credits - (if endsAt p new ∧ holdsCredit p then 1 else 0)
    + (if (new = .hall ∧ p.loc ≠ .hall) ∧ (endsAt p new ∨ ¬ holdsCredit p) then 1 else 0)
    - (if p.loc = .hall ∧ new ≠ .hall then 1 else 0)
  jump : p.loc ≠ (passLocs v door x.dir).1 → warehouseTold (.locationJump x.id door x.dir p.loc new) t
  unplanned : p.move = none → warehouseTold (.passUnplanned x.id door x.dir new) t
  done : ∀ m, p.move = some m → new = destOf m.dest → warehouseTold (.moveDone ⟨x.id, m.origin, m.dest, m.granted, new⟩) t
  offPath : ∀ m, p.move = some m → new ≠ destOf m.dest → moveUses v m door = false →
    warehouseTold (.passOffPath x.id door x.dir new m.dest) t

theorem passTracked_known (unique : palletsUnique s) (found : findPallet (updatePallet x.id s) x.id = some p) :
    Tracked door x (updatePallet x.id s) p (passLocs (updatePallet x.id s) door x.dir).2 (passTracked door x s) := by
  obtain ⟨p', before, place, start⟩ := updatePallet_found unique found
  set v := updatePallet x.id s
  set new := (passLocs v door x.dir).2
  set w := passLocation x.id door x.dir v with hw
  set u := passMove x.id door x.dir w with hu
  have tracked : passTracked door x s = passHall x.id p.loc u := by rw [passTracked, before, ← place]
  have located : Carries v.pallets x.id { p with loc := new } w := passLocation_carries start
  have onlyW : Only [.pallets, .ports] v w := passLocation_only ..
  have onlyU : Only [.zones, .portals, .pallets, .credits, .ports] w u := passMove_only ..
  have resting : movedOn w { p with loc := new } = movedOn v { p with loc := new } := by
    rw [movedOn, movedOn, moveEnded, moveEnded, restingStatus_eq (onlyW.within .docks (by decide))]
  obtain ⟨moved, freed⟩ := passMove_carries (door := door) (dir := x.dir) located
  obtain ⟨marked, taken⟩ := passHall_carries moved p.loc
  rw [resting] at marked taken
  have toldU {b : NoticeBody} (h : warehouseTold b u) : warehouseTold b (passHall x.id p.loc u) := (talks_passHall (.refl u)).told h
  rw [tracked]
  refine ⟨?_, ?_, ?_, ?_, ?_, ?_⟩
  · rw [marked.table, hallMarked_movedOn, onlyU.within .time (by decide), onlyW.within .time (by decide)]
  · have place : (movedOn v { p with loc := new }).loc = new := by rw [movedOn_at]
    rw [taken, freed, place, entryCredit_movedOn, onlyW.within .credits (by decide)]
    simp only [ite_and]
  · exact fun jumps => toldU ((talks_passMove (.refl w)).told (told_passLocation start jumps))
  · exact fun none_ => toldU (passMove_unplanned located none_).2.2
  · intro m moves here
    refine toldU ?_
    rw [hu, passMove_arrives located moves here]
    exact told_endMove located moves _
  · intro m moves other off
    refine toldU ((passMove_goesOn located moves other).2 ?_)
    rw [moveUses_eq (onlyW.within .cfg (by decide))]; exact off

end Tracked

end Sys2Proof.Machine
end

section
/-! The hand-on of a pass (O24: R79, R83, R122), and O24. -/

namespace Sys2Proof.Machine

open Sys2Proof

section HandOn

variable {door : DoorRef} {x : Pass} {s : Part} {q : PortalId} {d : DoorId}

/-- A pass restarts the open deadline of an OPEN dock door (R79). -/
theorem dockPassed_get (d : DoorId) (s : Part) : (dockPassed d s).docks.get d
    = if (s.docks.get d).state = .open then { s.docks.get d with
        openDl := if (s.cfg.handling.get d).openLimit = 0 then none else some (addTime s.time (s.cfg.handling.get d).openLimit)
        extensions := 0 }
      else s.docks.get d := by
  unfold dockPassed onlyIf; dsimp only
  by_cases open_ : (s.docks.get d).state = .open
  · rw [if_pos (beq_iff_eq.mpr open_), if_pos open_, modDock_get]
  · rw [if_neg (by simpa using open_), if_neg open_]

theorem dockPassed_one (d : DoorId) (s : Part) : OneDock d s (dockPassed d s) := by
  unfold dockPassed onlyIf; dsimp only; split
  · exact oneDock_modDock _ s
  · exact .refl d s

/-- A pass restarts the grant deadline of a portal whose grant stands (R83). -/
theorem portalPassed_get (h : (s.portals.get q).state = .granted ∨ ((s.portals.get q).state = .open ∧ (s.portals.get q).openCommand = true)) :
    (portalPassed q s).portals.get q
      = { s.portals.get q with grantDl := some (addTime s.time (s.cfg.portals.get q).grantTime) } := by
  unfold portalPassed onlyIf; dsimp only
  rw [if_pos (by simpa using h), modPortal_get]

/-- The drain checks that end the hand-on at a portal. -/
def drainBoth (q : PortalId) (t : Part) : Part :=
  eitherOrder (drainDue t 0 && drainDue t (portalZone t q)) (drainCheck 0) (drainCheck (portalZone t q)) t

theorem passHandOn_portal (q : PortalId) (s : Part) : passHandOn (.portal q) s = drainBoth q (portalPassed q s) := by
  have cfg : (portalPassed q s).cfg = s.cfg := (portalPassed_only q s).within .cfg (by decide)
  have zone : portalZone (portalPassed q s) q = portalZone s q := by rw [portalZone, cfg]; rfl
  rw [drainBoth, zone]; rfl

theorem passHandOn_drained (door : DoorRef) (s : Part) : drainDue (passHandOn door s) 0 = false := by
  cases door with
  | dock d => exact drainCheck_self 0 _
  | portal q => rw [passHandOn_portal]; exact (drainDue_eitherOrder ..).1

end HandOn

/-- Settles O24: the steps of the pass up to its hand-on, then the hand-on by the door. -/
theorem passesMoveThePallet : Obligations.PassesMoveThePallet := by
  intro s door x unique t v places new
  set u := passTracked door x s with hu
  have handed : t = passHandOn door u := processPass_eq door x s
  have only : Only [.zones, .docks, .portals, .ports] u t := by rw [handed]; exact passHandOn_only door u
  have before : Only _ s u := passTracked_only door x s
  have talks : Talks u t := by rw [handed]; exact talks_passHandOn (.refl u)
  have pallets : t.pallets = u.pallets := only.within .pallets (by decide)
  have credits : t.credits = u.credits := only.within .credits (by decide)
  have cfg : u.cfg = s.cfg := before.within .cfg (by decide)
  have time : u.time = s.time := before.within .time (by decide)
  have vOnly : Only _ s v := updatePallet_only x.id s
  have locs : passLocs v door x.dir = places := by
    rw [passLocs_eq (vOnly.within .cfg (by decide))]; rfl
  refine ⟨fun none_ => ?unknown, fun p found => ?known, fun d hd => ?dock, fun q hq zone => ?portal, ?drained⟩
  case unknown =>
    have told : u = notify .warehouse (.unknownPallet x.id x.dir door) s := passTracked_unknown none_
    refine ⟨pallets.trans ?_, credits.trans ?_, talks.told ?_⟩ <;> rw [told]
    · rfl
    · rfl
    · exact told_notify_warehouse _ _
  case known =>
    have k : Tracked door x v p (passLocs v door x.dir).2 u := passTracked_known unique found
    rw [locs] at k
    have clock : v.time = s.time := updatePallet_time x.id s
    refine ⟨pallets.trans ?_, credits.trans k.credits, fun jumps => talks.told (k.jump (by rw [locs]; exact jumps)),
      fun none_ => talks.told (k.unplanned none_), fun m moves => ⟨fun here => talks.told (k.done m moves here),
      fun other off => talks.told (k.offPath m moves other ?_)⟩⟩
    · rw [k.pallets, clock]; rfl
    · rw [moveUses_eq (vOnly.within .cfg (by decide))]; exact off
  case dock =>
    subst hd
    have after : t.docks = (dockPassed d u).docks := by
      rw [handed]; exact (drainCheck_only 0 (dockPassed d u)).within .docks (by decide)
    have docks : u.docks = s.docks := before.within .docks (by decide)
    rw [after, dockPassed_get, docks, cfg, time, ← docks]
    exact ⟨rfl, (dockPassed_one d u).docks⟩
  case portal =>
    subst hq
    have both : t = drainBoth q (portalPassed q u) := handed.trans (passHandOn_portal q u)
    have stands : Stands q s u := stands_passTracked (.portal q) x s
    have zones : portalZone s q = portalZone (portalPassed q u) q := by
      rw [portalZone, portalZone, (portalPassed_only q u).within .cfg (by decide), cfg]
    refine ⟨fun live => ?_, by rw [both, zones]; exact (drainDue_eitherOrder ..).2⟩
    have use : inUse q s := ⟨zone, live.imp id (·.1)⟩
    have same := stands.portal use
    have passed := portalPassed_get (q := q) (s := u) (by rw [same]; exact live)
    have still : inUse q (portalPassed q u) := by
      rw [inUse, passed, (portalPassed_only q u).within .cfg (by decide)]
      exact stands.inUse use
    have kept : Stands q (portalPassed q u) t := by rw [both]; exact stands_eitherOrder (stands_drainCheck _) (stands_drainCheck _) _
    rw [kept.portal still, passed, same, time, cfg]
  case drained => rw [handed]; exact passHandOn_drained door u

end Sys2Proof.Machine
end

section
/-! Manifest slots: what a change of a slot does to it and to the revision of its door (R92), the load faults (R97), and the requests that
name a slot by its dock door (Section 5.1). -/

namespace Sys2Proof.Machine

open Sys2Proof

/-! ### A change of a slot (R92) -/

section Change

variable {d : DoorId} {f : Slot → Slot} {w : Slot} {s t u : Part} {gs : List Group}

theorem changeSlot_slot (d : DoorId) (f : Slot → Slot) (s : Part) : (changeSlot d f s).slots.get d = f (s.slots.get d) := by
  unfold changeSlot onlyIf; dsimp only; split <;> exact modSlot_get d f s

/-- The revision of the door moves where the state of the slot does. -/
theorem changeSlot_dock (d : DoorId) (f : Slot → Slot) (s : Part) : (changeSlot d f s).docks.get d
    = if (f (s.slots.get d)).state = (s.slots.get d).state then s.docks.get d
      else { s.docks.get d with revision := wrap16 (s.docks.get d).revision } := by
  unfold changeSlot onlyIf; dsimp only
  rw [modSlot_get]
  by_cases h : (f (s.slots.get d)).state = (s.slots.get d).state
  · rw [h, if_pos rfl, if_neg (by simp)]; rfl
  · rw [if_neg h, if_pos (bne_iff_ne.mpr (Ne.symm h)), bumpDock, modDock_get]; rfl

theorem changeSlot_others (d : DoorId) (f : Slot → Slot) (s : Part) :
    othersKept s.slots (changeSlot d f s).slots d ∧ othersKept s.docks (changeSlot d f s).docks d := by
  unfold changeSlot onlyIf; dsimp only; split
  · exact ⟨fun _ hx => modSlot_get_ne f s hx, fun _ hx => modDock_get_ne _ _ hx⟩
  · exact ⟨fun _ hx => modSlot_get_ne f s hx, fun _ _ => rfl⟩

/-- The slot of the door became `w`, the revision of the door moved once, and no other slot and no other dock door changed. -/
structure SlotMoves (d : DoorId) (w : Slot) (s t : Part) : Prop where
  slot : t.slots.get d = w
  dock : t.docks.get d = { s.docks.get d with revision := wrap16 (s.docks.get d).revision }
  slots : othersKept s.slots t.slots d
  docks : othersKept s.docks t.docks d

theorem changeSlot_moves (h : (f (s.slots.get d)).state ≠ (s.slots.get d).state) :
    SlotMoves d (f (s.slots.get d)) s (changeSlot d f s) :=
  have ⟨slots, docks⟩ := changeSlot_others d f s
  ⟨changeSlot_slot d f s, (changeSlot_dock d f s).trans (if_neg h), slots, docks⟩

theorem SlotMoves.within (m : SlotMoves d w s t) (h : Within gs t u) (c : (gs.contains .slots || gs.contains .docks) = false) :
    SlotMoves d w s u := by
  simp only [Bool.or_eq_false_iff, List.contains_eq_mem, decide_eq_false_iff_not] at c
  have slots : u.slots = t.slots := h .slots c.1
  have docks : u.docks = t.docks := h .docks c.2
  exact ⟨by rw [slots]; exact m.slot, by rw [docks]; exact m.dock, by rw [slots]; exact m.slots, by rw [docks]; exact m.docks⟩

end Change

/-! ### The load faults (R97) -/

section Faults

variable {d : DoorId} {cause : LoadCause} {detail now : Nat} {r t u : Part}

/-- A notice to the warehouse after changes that left the ports and the time alone. -/
theorem notify_placed {gs : List Group} {s t : Part} (b : NoticeBody) (only : Only gs s t)
    (c : (gs.contains .ports || gs.contains .time) = false) : placed s (notify .warehouse b t) [] [b] := by
  simp only [Bool.or_eq_false_iff, List.contains_eq_mem, decide_eq_false_iff_not] at c
  obtain ⟨plant, warehouse⟩ := only.within .ports c.1
  rw [placed, ← plant, ← warehouse, ← (only.within .time c.2 : t.time = s.time)]
  exact ⟨rfl, rfl⟩

/-- A slot that enters LOAD_FAULT, as `faultSlot` leaves it. -/
def enterLoadFault (cause : LoadCause) (detail now : Nat) (w : Slot) : Slot :=
  { w with state := .loadFault, fault := some ⟨cause, detail, now⟩, deadline := none }

theorem faultSlot_eq (d : DoorId) (cause : LoadCause) (detail : Nat) (s : Part) : faultSlot d cause detail s
    = notify .warehouse (.manifestFault d (s.docks.get d).trailer cause detail (s.slots.get d).entries.length)
        (changeSlot d (enterLoadFault cause detail s.time) s) := rfl

/-- The load of the door's slot faulted: the slot with its fault record, and the warehouse told of it once. -/
structure LoadFaulted (d : DoorId) (cause : LoadCause) (detail now : Nat) (r t : Part) : Prop where
  moves : SlotMoves d (enterLoadFault cause detail now (r.slots.get d)) r t
  told : placed r t [] [.manifestFault d (r.docks.get d).trailer cause detail (r.slots.get d).entries.length]
  within : Within [.docks, .slots, .ports] r t

theorem faultSlot_faulted (live : (r.slots.get d).state ≠ .loadFault) :
    LoadFaulted d cause detail r.time r (faultSlot d cause detail r) := by
  rw [faultSlot_eq]
  have moves := changeSlot_moves (f := enterLoadFault cause detail r.time) (Ne.symm live)
  exact ⟨moves.within (notify_only ..).within rfl, notify_placed _ (changeSlot_only ..) rfl,
    (faultSlot_only d cause detail r).within⟩

theorem LoadFaulted.same (h : LoadFaulted d cause detail now r t) (same : Within [] t u) : LoadFaulted d cause detail now r u :=
  ⟨h.moves.within same rfl, placed_within h.told same rfl, h.within.trans (same.mono (by simp))⟩

end Faults

/-! ### Requests that name a slot -/

section Requests

variable {α : Type} {c : Instr} {p : Port} {code : Nat} {tag : Byte} {s : State} {g : Part → Reply} {st : Status} {b : List Byte}
  {t : Part} {gs : List Group} {d : DoorId} {w : Slot} {role : Option Port} {x : Option α} {f : α → DoorRef} {a : α}
  {cause : LoadCause} {detail : Nat}

theorem reaches_slot {h : α → DoorId → Part → Reply} (e : exec c s = command (serve code role p tag (manifestRequest x f h)) s)
    (ht : takes p s) (hp : role ≠ some p.other) (hx : x = some a) (hd : f a = .dock d) (ins : dockInService s.part d = true) :
    Reaches c p code tag s (h a d) := by
  refine ⟨ht, role, _, hp, e, ?_⟩
  rw [manifestRequest, hx, withBody, hd, dockOnly]
  exact inServiceOr_in ((renewed_doorInService p s (.dock d)).trans ins)

/-- An answered request that moves one slot. -/
theorem Reaches.slot (k : Reaches c p code tag s g) (hh : g (renewed p s) = reply st b t) (only : Only gs (renewed p s) t)
    (keeps : (gs.contains .time || gs.contains .cfg) = false) (moves : SlotMoves d w (renewed p s) t) :
    ∃ u, exec c s = .next u ∧ u.pending = s.pending ∧ answered p code tag st b u ∧ u.part.slots.get d = w
      ∧ u.part.docks.get d
          = { (renewed p s).docks.get d with revision := wrap16 ((renewed p s).docks.get d).revision }
      ∧ othersKept (renewed p s).slots u.part.slots d ∧ othersKept (renewed p s).docks u.part.docks d
      ∧ Within gs (renewed p s) u.part := by
  obtain ⟨u, e, kept, ans, same⟩ := k.answers hh only keeps
  obtain ⟨slot, dock, slots, docks⟩ := moves.within same rfl
  exact ⟨u, e, kept, ans, slot, dock, slots, docks, only.within.trans (same.mono (by simp))⟩

/-- A request that faults the load. -/
theorem Reaches.faults (k : Reaches c p code tag s g) (hh : g (renewed p s) = loadFaults d cause detail (renewed p s))
    (live : ((renewed p s).slots.get d).state ≠ .loadFault) :
    ∃ u, exec c s = .next u ∧ u.pending = s.pending ∧ answered p code tag .loadFault [] u
      ∧ LoadFaulted d cause detail s.part.time (renewed p s) u.part := by
  obtain ⟨u, e, kept, ans, same⟩ := k.answers hh (faultSlot_only d cause detail _) rfl
  have faulted := faultSlot_faulted (cause := cause) (detail := detail) live
  rw [renewed_time] at faulted
  exact ⟨u, e, kept, ans, faulted.same same⟩

end Requests

end Sys2Proof.Machine
end

section
/-! MANIFEST BEGIN and MANIFEST CLEAR (O40: R93, R100). -/

namespace Sys2Proof.Machine

open Sys2Proof

/-! ### MANIFEST BEGIN (R93): its checks in order -/

section Begin

variable {d : DoorId} {s : Part} {count rev : Nat}

theorem mayBegin_iff {st : DockState} : mayBegin st = true ↔ st = .arrived ∨ st = .inflating ∨ st = .sealed := by
  cases st <;> simp [mayBegin]

theorem beginManifest_badCount (h : ¬ (1 ≤ count ∧ count ≤ 36)) : beginManifest count rev d s = refuse .badRequest s := if_pos h

variable (counts : 1 ≤ count ∧ count ≤ 36)
include counts

theorem beginManifest_stale (h : (s.docks.get d).revision ≠ rev) :
    beginManifest count rev d s = reply .stale (putU16 (s.docks.get d).revision) s :=
  (if_neg (not_not.mpr counts)).trans (if_pos h)

variable (current : (s.docks.get d).revision = rev)
include current

theorem beginManifest_loadFault (h : (s.slots.get d).state = .loadFault) : beginManifest count rev d s = refuse .loadFault s := by
  simp [beginManifest, counts, current, h]

theorem beginManifest_taken (fault : (s.slots.get d).state ≠ .loadFault) (h : (s.slots.get d).state ≠ .empty) :
    beginManifest count rev d s = refuse .busyState s := by
  simp [beginManifest, counts, current, fault, h]

variable (empty : (s.slots.get d).state = .empty)
include empty

theorem beginManifest_unclaimed (h : (s.docks.get d).claim ≠ .inbound) : beginManifest count rev d s = refuse .notReady s := by
  simp [beginManifest, counts, current, empty, h]

variable (claimed : (s.docks.get d).claim = .inbound)
include claimed

theorem beginManifest_busy (h : mayBegin (s.docks.get d).state = false) : beginManifest count rev d s = refuse .busyState s := by
  simp [beginManifest, counts, current, empty, claimed, h]

theorem beginManifest_begins (h : mayBegin (s.docks.get d).state = true) : beginManifest count rev d s
    = okDockRevision d (changeSlot d (fun _ => loadingSlot count s.time s.cfg.staging.entryDeadline) s) := by
  simp [beginManifest, counts, current, empty, claimed, h]

end Begin

/-! ### MANIFEST CLEAR (R100): by the state of the slot -/

section Clear

variable {d : DoorId} {s : Part}

theorem clearManifest_empty (h : (s.slots.get d).state = .empty) : clearManifest d s = reply .ok [] s := by
  rw [clearManifest, h]

theorem clearManifest_committed (h : (s.slots.get d).state = .committed) : clearManifest d s = refuse .busyState s := by
  rw [clearManifest, h]

theorem clearManifest_clears
    (h : (s.slots.get d).state = .loading ∨ (s.slots.get d).state = .loaded ∨ (s.slots.get d).state = .loadFault) :
    clearManifest d s = reply .ok [] (emptySlotAt d s) := by
  rw [clearManifest]
  obtain h | h | h := h <;> rw [h]

theorem emptySlotAt_moves (h : (s.slots.get d).state ≠ .empty) : SlotMoves d emptySlot s (emptySlotAt d s) := by
  rw [emptySlotAt, onlyIf, if_pos (bne_iff_ne.mpr h)]
  exact changeSlot_moves (f := fun _ => emptySlot) (Ne.symm h)

end Clear

/-- Settles O40: the checks of R93 in order, then the slot in LOADING; MANIFEST CLEAR by the state of the slot. -/
theorem manifestBeginsAndClears : Obligations.ManifestBeginsAndClears := by
  intro s tag body d ht ins r k w
  refine ⟨?begins, ?clears⟩
  case begins =>
    intro count rev hb c may
    have reaches : Reaches c .warehouse 21 tag s (beginManifest count rev d) :=
      reaches_slot (f := Prod.fst) (h := fun x => beginManifest x.2.1 x.2.2) rfl ht (by decide) hb rfl ins
    refine ⟨fun bad => reaches.reads (beginManifest_badCount bad),
      fun lo hi stale => reaches.reads (beginManifest_stale ⟨lo, hi⟩ stale),
      fun lo hi current fault => reaches.reads (beginManifest_loadFault ⟨lo, hi⟩ current fault),
      fun lo hi current fault taken => reaches.reads (beginManifest_taken ⟨lo, hi⟩ current fault taken),
      fun lo hi current empty unclaimed => reaches.reads (beginManifest_unclaimed ⟨lo, hi⟩ current empty unclaimed),
      fun lo hi current empty claimed early =>
        reaches.reads (beginManifest_busy ⟨lo, hi⟩ current empty claimed (Bool.eq_false_iff.mpr (early ∘ mayBegin_iff.mp))),
      fun lo hi current empty claimed ready => ?_⟩
    have moves : SlotMoves d (loadingSlot count r.time r.cfg.staging.entryDeadline) r
        (changeSlot d (fun _ => loadingSlot count r.time r.cfg.staging.entryDeadline) r) :=
      changeSlot_moves (f := fun _ => loadingSlot ..) (by rw [show (r.slots.get d).state = .empty from empty]; exact SlotState.noConfusion)
    have hh := (beginManifest_begins ⟨lo, hi⟩ current empty claimed (mayBegin_iff.mpr ready)).trans
      (okDockRevision_eq (congrArg Dock.revision moves.dock))
    have done := reaches.slot hh (changeSlot_only ..) rfl moves
    rw [renewed_time, renewed_cfg] at done
    rw [← current]
    exact done
  case clears =>
    intro hb c
    have reaches : Reaches c .warehouse 24 tag s (clearManifest d) :=
      reaches_slot (f := id) (h := fun _ => clearManifest) rfl ht (by decide) hb rfl ins
    refine ⟨fun empty => reaches.reads (clearManifest_empty empty),
      fun committed => reaches.reads (clearManifest_committed committed), fun filled => ?_⟩
    have filled' : (r.slots.get d).state ≠ .empty := by
      obtain h | h | h := filled <;> rw [show (r.slots.get d).state = _ from h] <;> exact SlotState.noConfusion
    exact reaches.slot (clearManifest_clears filled) (emptySlotAt_only d r) rfl (emptySlotAt_moves filled')

end Sys2Proof.Machine
end

section
/-! MANIFEST ENTRY and the entry deadline (O41: R94 to R97). -/

namespace Sys2Proof.Machine

open Sys2Proof

/-! ### The field checks (R94) -/

section Fields

variable {x : EntryReq} {e : Entry}

/-- An ENTRY whose fields lie in their ranges is the entry of its fields. -/
theorem entryOf_some (seq : e.seq = x.seq) (id : e.id = x.id) (consignee : e.consignee = x.consignee) (cls : e.cls.val = x.cls)
    (temp : e.temp = x.temp)
    (fits : 1 ≤ x.seq ∧ x.seq ≤ 36 ∧ x.id ≠ 0 ∧ x.consignee ≤ 4095 ∧ x.cls < 8 ∧ -500 ≤ x.temp ∧ x.temp ≤ 500) :
    entryOf x = some e := by
  obtain ⟨lo, hi, named, consignees, classes, cold, warm⟩ := fits
  have made : (⟨x.seq, x.id, x.consignee, ⟨x.cls, classes⟩, x.temp⟩ : Entry) = e := by
    cases e; simp_all [Fin.ext_iff]
  rw [entryOf, dif_pos classes, if_pos ⟨lo, hi, named, consignees, cold, warm⟩, made]

theorem entryOf_none
    (h : ¬ (1 ≤ x.seq ∧ x.seq ≤ 36 ∧ x.id ≠ 0 ∧ x.consignee ≤ 4095 ∧ x.cls < 8 ∧ -500 ≤ x.temp ∧ x.temp ≤ 500)) :
    entryOf x = none := by
  unfold entryOf
  split
  · next classes =>
    exact if_neg fun ⟨lo, hi, named, consignees, cold, warm⟩ => h ⟨lo, hi, named, consignees, classes, cold, warm⟩
  · rfl

end Fields

/-! ### A well-formed ENTRY by the state of the slot (R94, R95) -/

/-- An accepted entry stands last in the list of its slot. -/
def appendEntry (e : Entry) (d : DoorId) (s : Part) : Part := changeSlot d (addEntry e s.time s.cfg.staging.entryDeadline) s

section Entries

variable {d : DoorId} {s : Part} {e : Entry}

theorem takeEntry_empty (h : (s.slots.get d).state = .empty) : takeEntry e d s = refuse .notReady s := by
  unfold takeEntry; dsimp only; rw [h]

theorem takeEntry_committed (h : (s.slots.get d).state = .committed) : takeEntry e d s = refuse .busyState s := by
  unfold takeEntry; dsimp only; rw [h]

theorem takeEntry_loadFault (h : (s.slots.get d).state = .loadFault) : takeEntry e d s = refuse .loadFault s := by
  unfold takeEntry; dsimp only; rw [h]

theorem takeEntry_repeat (h : (s.slots.get d).state = .loading ∨ (s.slots.get d).state = .loaded)
    (again : (s.slots.get d).entries.getLast? = some e) : takeEntry e d s = entryReply d s := by
  unfold takeEntry; dsimp only
  obtain h | h := h <;> rw [h] <;> exact if_pos again

theorem takeEntry_excess (h : (s.slots.get d).state = .loaded) (other : (s.slots.get d).entries.getLast? ≠ some e) :
    takeEntry e d s = loadFaults d .excessEntry e.seq s := by
  unfold takeEntry; dsimp only; rw [h]; exact if_neg other

variable (loading : (s.slots.get d).state = .loading) (other : (s.slots.get d).entries.getLast? ≠ some e)
include loading other

theorem takeEntry_sequence (h : (s.slots.get d).next ≠ some e.seq) : takeEntry e d s = loadFaults d .sequence e.seq s := by
  unfold takeEntry; dsimp only; rw [loading]
  exact (if_neg other).trans (if_pos h)

theorem takeEntry_duplicate (expected : (s.slots.get d).next = some e.seq) (known : ∃ y ∈ (s.slots.get d).entries, y.id = e.id) :
    takeEntry e d s = loadFaults d .duplicateId e.id s := by
  unfold takeEntry; dsimp only; rw [loading]
  exact (if_neg other).trans ((if_neg (not_not.mpr expected)).trans (if_pos (by simpa using known)))

theorem takeEntry_appends (expected : (s.slots.get d).next = some e.seq) (new : ¬ ∃ y ∈ (s.slots.get d).entries, y.id = e.id) :
    takeEntry e d s = entryReply d (appendEntry e d s) := by
  unfold takeEntry; dsimp only; rw [loading]
  exact (if_neg other).trans ((if_neg (not_not.mpr expected)).trans (if_neg (by simpa using new)))

end Entries

/-! ### The entry appended (R94) -/

section Append

variable {d : DoorId} {s : Part} {e : Entry} (loading : (s.slots.get d).state = .loading) (expected : (s.slots.get d).next = some e.seq)
include loading expected

/-- The list is complete, and the slot LOADED, at the count. -/
theorem appendEntry_slot : (appendEntry e d s).slots.get d
    = { s.slots.get d with
        entries := (s.slots.get d).entries ++ [e], next := some (e.seq + 1)
        state := if (s.slots.get d).count = some ((s.slots.get d).entries.length + 1) then .loaded else .loading
        deadline := if (s.slots.get d).count = some ((s.slots.get d).entries.length + 1) then none
          else some (addTime s.time s.cfg.staging.entryDeadline) } := by
  rw [appendEntry, changeSlot_slot]
  simp [addEntry, loading, expected]

theorem appendEntry_revision : ((appendEntry e d s).docks.get d).revision
    = if (s.slots.get d).count = some ((s.slots.get d).entries.length + 1) then wrap16 (s.docks.get d).revision
      else (s.docks.get d).revision := by
  have slot := appendEntry_slot loading expected
  rw [appendEntry, changeSlot_slot] at slot
  rw [appendEntry, changeSlot_dock, slot, loading]
  by_cases full : (s.slots.get d).count = some ((s.slots.get d).entries.length + 1) <;> simp [full]

theorem entryReply_appendEntry : entryReply d (appendEntry e d s) = reply .ok
    (putU8 (e.seq + 1) ++ putU8 (if (s.slots.get d).count = some ((s.slots.get d).entries.length + 1) then 3 else 2))
    (appendEntry e d s) := by
  rw [entryReply, appendEntry_slot loading expected]
  by_cases full : (s.slots.get d).count = some ((s.slots.get d).entries.length + 1) <;> simp [full, SlotState.code]

end Append

/-! ### The requests and the deadline -/

/-- MANIFEST ENTRY with its door read: its field checks, then the entry. -/
def entryTaken (x : EntryReq) (d : DoorId) (s : Part) : Reply :=
  match entryOf x with
  | some e => takeEntry e d s
  | none => refuse .badRequest s

section EntryRequest

variable {s : State} {tag : Byte} {body : List Byte} {x : EntryReq} {d : DoorId} {e : Entry}

theorem reaches_entryTaken (ht : takes .warehouse s) (hb : readEntry body = some x) (hd : x.door = .dock d)
    (ins : dockInService s.part d = true) : Reaches (.manifestEntry .warehouse tag body) .warehouse 22 tag s (entryTaken x d) :=
  reaches_slot (f := (·.door)) (h := entryTaken) rfl ht (by decide) hb hd ins

theorem entryTaken_some (h : entryOf x = some e) : entryTaken x d = takeEntry e d := by
  funext s; rw [entryTaken, h]

theorem entryTaken_none (h : entryOf x = none) : entryTaken x d = refuse .badRequest := by
  funext s; rw [entryTaken, h]

theorem exec_entryDeadlineExpiry (running : s.part.running = true) (loading : (s.part.slots.get d).state = .loading)
    (due : reached (s.part.slots.get d).deadline s.part.time = true) : exec (.entryDeadlineExpiry d) s
      = .next { s with part := faultSlot d .deadline ((s.part.slots.get d).next.getD 0) (cleared s) } :=
  (exec_running rfl running).trans (congrArg (fun x => Host.Outcome.next { s with part := x }) (if_pos ⟨loading, due⟩))

end EntryRequest

/-- Settles O41: the field checks, then the entry by the state of the slot; the deadline is one more load fault. -/
theorem manifestEntryBuildsTheList : Obligations.ManifestEntryBuildsTheList := by
  intro s tag body d faulted
  have conj {r t cause detail} (h : LoadFaulted d cause detail s.part.time r t.part) : faulted r cause detail t :=
    ⟨h.moves.slot, h.moves.dock, h.told, h.moves.slots, h.moves.docks, h.within⟩
  refine ⟨?entry, fun running loading due => ?deadline⟩
  case entry =>
    intro x ht hb hd ins r w c fits
    have taken := reaches_entryTaken (tag := tag) ht hb hd ins
    refine ⟨fun bad => (entryTaken_none (d := d) (entryOf_none bad) ▸ taken).reads rfl, ?_⟩
    intro e seq id consignee cls temp inRange again known same faults
    have reaches : Reaches c .warehouse 22 tag s (takeEntry e d) :=
      entryTaken_some (d := d) (entryOf_some seq id consignee cls temp inRange) ▸ taken
    have faults_of {cause detail} (hh : takeEntry e d r = loadFaults d cause detail r) (live : w.state ≠ .loadFault) :
        faults cause detail := by
      obtain ⟨t, run, kept, ans, h⟩ := reaches.faults hh live
      exact ⟨t, run, kept, ans, conj h⟩
    have live_of {st : SlotState} (h : w.state = st) (ne : st ≠ .loadFault) : w.state ≠ .loadFault := h ▸ ne
    refine ⟨fun h => reaches.reads (takeEntry_empty h), fun h => reaches.reads (takeEntry_committed h),
      fun h => reaches.reads (takeEntry_loadFault h), fun h again => reaches.reads (takeEntry_repeat h again),
      fun h other => faults_of (takeEntry_excess h other) (live_of h nofun),
      fun h other skips => faults_of (takeEntry_sequence h other skips) (live_of h nofun),
      fun h other expected known => faults_of (takeEntry_duplicate h other expected known) (live_of h nofun),
      fun loading other expected new => ?_⟩
    have only : Only [.docks, .slots] r (appendEntry e d r) := changeSlot_only ..
    have others := (changeSlot_others d (addEntry e r.time r.cfg.staging.entryDeadline) r).1
    obtain ⟨t, run, kept, ans, unchanged⟩ := reaches.answers
      ((takeEntry_appends loading other expected new).trans (entryReply_appendEntry loading expected)) only rfl
    have slots : t.part.slots = (appendEntry e d r).slots := unchanged .slots (by simp)
    have docks : t.part.docks = (appendEntry e d r).docks := unchanged .docks (by simp)
    refine ⟨t, run, kept, ans, ?_, ?_, by rw [slots]; exact others, only.within.trans (unchanged.mono (by simp))⟩
    · rw [slots, appendEntry_slot loading expected, show r.time = s.part.time from renewed_time _ s,
        show r.cfg = s.part.cfg from renewed_cfg _ s]
    · rw [docks, appendEntry_revision loading expected]; rfl
  case deadline =>
    have enters := faultSlot_faulted (r := cleared s) (cause := .deadline) (detail := (s.part.slots.get d).next.getD 0)
      (show (s.part.slots.get d).state ≠ .loadFault by rw [loading]; exact SlotState.noConfusion)
    exact ⟨_, exec_entryDeadlineExpiry running loading due, rfl, (faultSlot_only ..).out, conj enters⟩

end Sys2Proof.Machine
end

section
/-! MANIFEST COMMIT (O42: R98, R99). -/

namespace Sys2Proof.Machine

open Sys2Proof

/-! ### Records entered in the table (R99) -/

section Records

variable {α : Type} {g : α → Pallet}

theorem insertPallet_length (p : Pallet) (l : List Pallet) : (insertPallet p l).length = l.length + 1 := by
  induction l with
  | nil => rfl
  | cons q l ih =>
    unfold insertPallet; split
    · rfl
    · exact congrArg Nat.succ ih

theorem mem_insertAll {x : Pallet} (es : List α) (l : List Pallet) :
    x ∈ es.foldl (fun l e => insertPallet (g e) l) l ↔ x ∈ l ∨ ∃ e ∈ es, x = g e := by
  induction es generalizing l with
  | nil => simp
  | cons e es ih =>
    rw [List.foldl_cons, ih, mem_insertPallet, List.exists_mem_cons_iff]
    tauto

theorem insertAll_length (es : List α) (l : List Pallet) :
    (es.foldl (fun l e => insertPallet (g e) l) l).length = l.length + es.length := by
  induction es generalizing l with
  | nil => rfl
  | cons e es ih => rw [List.foldl_cons, ih, insertPallet_length, List.length_cons]; omega

end Records

/-- The identifier of the entry is in the table. -/
theorem findPallet_isSome {s : Part} {id : Nat} : (findPallet s id).isSome = true ↔ ∃ x ∈ s.pallets, x.id = id := by
  simp [findPallet]

/-! ### MANIFEST COMMIT by the state of the slot (R98) -/

section Commit

variable {d : DoorId} {s : Part} {n : Nat}

theorem commitManifest_empty (h : (s.slots.get d).state = .empty) : commitManifest d s = refuse .notReady s := by
  unfold commitManifest; dsimp only; rw [h]

theorem commitManifest_loadFault (h : (s.slots.get d).state = .loadFault) : commitManifest d s = refuse .loadFault s := by
  unfold commitManifest; dsimp only; rw [h]

theorem commitManifest_committed (h : (s.slots.get d).state = .committed) : commitManifest d s = commitReply d s := by
  unfold commitManifest; dsimp only; rw [h]

theorem commitManifest_short (h : (s.slots.get d).state = .loading) :
    commitManifest d s = loadFaults d .shortCommit ((s.slots.get d).next.getD 0) s := by
  unfold commitManifest; dsimp only; rw [h]

variable (loaded : (s.slots.get d).state = .loaded)
include loaded

/-- The first entry of the list whose identifier is in the table faults the load. -/
theorem commitManifest_known {pre post : List Entry} {e : Entry} (entries : (s.slots.get d).entries = pre ++ e :: post)
    (first : ∀ y ∈ pre, ¬ ∃ x ∈ s.pallets, x.id = y.id) (known : ∃ x ∈ s.pallets, x.id = e.id) :
    commitManifest d s = loadFaults d .idInTable e.id s := by
  have found : (s.slots.get d).entries.find? (fun e => (findPallet s e.id).isSome) = some e :=
    List.find?_eq_some_iff_append.mpr ⟨findPallet_isSome.mpr known, pre, post, entries, fun y hy =>
      by simpa using fun h => first y hy (findPallet_isSome.mp h)⟩
  unfold commitManifest; dsimp only; rw [loaded]; dsimp only; rw [found]

variable (new : ∀ y ∈ (s.slots.get d).entries, ¬ ∃ x ∈ s.pallets, x.id = y.id) (count : (s.slots.get d).count = some n)
include new count

/-- A list of identifiers that are not in the table is committed where there is room for its count. -/
theorem commitManifest_new : commitManifest d s
    = if freeRecords s < n then reply .tableFull (putU16 (freeRecords s)) s else commitReply d (createRecords d s) := by
  have absent : (s.slots.get d).entries.find? (fun e => (findPallet s e.id).isSome) = none :=
    List.find?_eq_none.mpr fun y hy known => new y hy (findPallet_isSome.mp known)
  unfold commitManifest; dsimp only; rw [loaded]; dsimp only; rw [absent, count]; rfl

end Commit

/-! ### The records of a manifest (R98 step 3, R99) -/

section Create

variable {d : DoorId} {s : Part} {n : Nat}

/-- The part with a record for every entry of the slot, before the slot changes. -/
def recordsEntered (d : DoorId) (s : Part) : Part :=
  { s with pallets := (s.slots.get d).entries.foldl (fun l e => insertPallet (committedPallet s d e) l) s.pallets }

/-- A slot that enters COMMITTED. -/
def enterCommitted (w : Slot) : Slot := { w with state := .committed, committed := w.count.getD 0 }

theorem createRecords_eq (d : DoorId) (s : Part) : createRecords d s = changeSlot d enterCommitted (recordsEntered d s) := rfl

theorem createRecords_only (d : DoorId) (s : Part) : Only [.docks, .slots, .pallets] s (createRecords d s) := by
  have entered : Only [.pallets] s (recordsEntered d s) :=
    ⟨fun g hg => by cases g <;> simp_all [Group.same, recordsEntered], rfl, rfl, rfl⟩
  rw [createRecords_eq]
  exact (entered.mono rfl).trans ((changeSlot_only ..).mono rfl)

theorem createRecords_pallets (d : DoorId) (s : Part) : (createRecords d s).pallets
    = (s.slots.get d).entries.foldl (fun l e => insertPallet (committedPallet s d e) l) s.pallets := by
  rw [createRecords_eq]
  exact (changeSlot_only d enterCommitted (recordsEntered d s)).within .pallets (by decide)

theorem createRecords_moves (loaded : (s.slots.get d).state = .loaded) (count : (s.slots.get d).count = some n) :
    SlotMoves d { s.slots.get d with state := .committed, committed := n } s (createRecords d s) := by
  have slot : enterCommitted (s.slots.get d) = { s.slots.get d with state := .committed, committed := n } := by
    simp [enterCommitted, count]
  have differs : (enterCommitted ((recordsEntered d s).slots.get d)).state ≠ ((recordsEntered d s).slots.get d).state := by
    show SlotState.committed ≠ (s.slots.get d).state
    rw [loaded]; exact SlotState.noConfusion
  obtain ⟨own, dock, slots, docks⟩ := changeSlot_moves differs
  rw [createRecords_eq, ← slot]
  exact ⟨own, dock, slots, docks⟩

end Create

/-- Settles O42: the state of the slot, then the identifiers and the room, then one record for every entry. -/
theorem manifestCommitCreatesEveryRecord : Obligations.ManifestCommitCreatesEveryRecord := by
  intro s tag body d ht hb ins r w c known record
  have reaches : Reaches c .warehouse 23 tag s (commitManifest d) :=
    reaches_slot (f := id) (h := fun _ => commitManifest) rfl ht (by decide) hb rfl ins
  have faults {cause detail} (hh : commitManifest d r = loadFaults d cause detail r) (live : w.state ≠ .loadFault) :
      ∃ t, exec c s = .next t ∧ t.pending = s.pending ∧ answered .warehouse 23 tag .loadFault [] t
        ∧ (t.part.slots.get d).state = .loadFault ∧ (t.part.slots.get d).fault = some ⟨cause, detail, s.part.time⟩
        ∧ t.part.pallets = r.pallets := by
    obtain ⟨t, run, kept, ans, faulted⟩ := reaches.faults hh live
    refine ⟨t, run, kept, ans, ?_, ?_, faulted.within .pallets (by decide)⟩ <;> rw [faulted.moves.slot] <;> rfl
  have record_eq (e : Entry) : committedPallet r d e = record e := by
    rw [committedPallet, show r.time = s.part.time from renewed_time _ s]
  refine ⟨fun h => reaches.reads (commitManifest_empty h), fun h => reaches.reads (commitManifest_loadFault h),
    fun h => reaches.reads (commitManifest_committed h), fun h => faults (commitManifest_short h) ?_,
    fun pre e post loaded entries first inTable => faults (commitManifest_known loaded entries first inTable) ?_,
    fun n loaded count new full => reaches.reads ((commitManifest_new loaded new count).trans (if_pos full)),
    fun n loaded count new room => ?creates⟩
  · rw [h]; exact SlotState.noConfusion
  · rw [loaded]; exact SlotState.noConfusion
  case creates =>
    have moves := createRecords_moves loaded count
    have hh : commitManifest d r
        = reply .ok (putU8 n ++ putU16 (((r.docks.get d).revision + 1) % 65536)) (createRecords d r) := by
      refine (commitManifest_new loaded new count).trans ((if_neg (Nat.not_lt.mpr room)).trans ?_)
      rw [commitReply, moves.slot, moves.dock]; rfl
    obtain ⟨t, run, kept, ans, same⟩ := reaches.answers hh (createRecords_only d r) rfl
    have slot := (moves.within same rfl).slot
    have pallets : t.part.pallets = w.entries.foldl (fun l e => insertPallet (committedPallet r d e) l) r.pallets :=
      (same .pallets (by simp)).trans (createRecords_pallets d r)
    have mem {x : Pallet} : x ∈ t.part.pallets ↔ x ∈ r.pallets ∨ ∃ e ∈ w.entries, x = record e := by
      simp only [pallets, mem_insertAll, record_eq]
    exact ⟨t, run, kept, ans, slot, fun x hx => mem.mpr (.inl hx), fun e he => mem.mpr (.inr ⟨e, he, rfl⟩),
      fun x hx => mem.mp hx, by rw [pallets, insertAll_length],
      (createRecords_only d r).within.trans (same.mono (by simp))⟩

end Sys2Proof.Machine
end

section
/-! The pallet table as a ledger (O54, O57: R107, R112, R119, R139): what one record holds of the staging credits, and what the table makes
of a record replaced, entered or taken out. -/

namespace Sys2Proof.Machine

open Sys2Proof

/-! ### One record -/

/-- The credits a record stands for: one in the hall, one for a move that holds a reservation (R119). -/
def creditsHeld (p : Pallet) : Nat := (if p.loc = .hall then 1 else 0) + (if p.move.any (·.reserved) then 1 else 0)

/-- Status MOVING and a move in flight go together (R107). -/
def moveMarked (p : Pallet) : Prop := p.status = .moving ↔ p.move.isSome = true

/-- A quarantined pallet has no move toward a dock door (R112, R139). -/
def keptFromDoors (p : Pallet) : Prop := p.quarantined = true → movesToDoor p = false

/-- The credits that the records of a table stand for. -/
def ledger (l : List Pallet) : Nat := (l.map creditsHeld).sum

section Record

variable {p : Pallet}

theorem movesToDoor_idle (h : p.move = none) : movesToDoor p = false := by rw [movesToDoor, h]

/-- A quarantined pallet's move, if it has one, has another destination than a dock door. -/
theorem keptFromDoors_iff : keptFromDoors p ↔ (p.quarantined = true → ∀ m, p.move = some m → ∀ d, m.dest ≠ .door d) := by
  refine imp_congr_right fun _ => ?_
  unfold movesToDoor
  cases p.move with
  | none => simp
  | some m => cases hd : m.dest <;> simp [hd]

theorem keptFromDoors_idle (h : p.move = none) : keptFromDoors p := fun _ => movesToDoor_idle h

theorem moveMarked_idle (h : p.move = none) (rests : p.status ≠ .moving) : moveMarked p := by simp [moveMarked, h, rests]

theorem moveMarked.idle (h : moveMarked p) (rests : p.status ≠ .moving) : p.move = none := by simpa [moveMarked, rests] using h

theorem creditsHeld_idle (h : p.move = none) (outside : p.loc ≠ .hall) : creditsHeld p = 0 := by simp [creditsHeld, h, outside]

theorem restingStatus_ne_moving (s : Part) (x : Loc) : restingStatus s x ≠ .moving := by
  cases x with
  | trailer d => unfold restingStatus; dsimp only; split <;> exact PalletStatus.noConfusion
  | hall | zone _ => exact PalletStatus.noConfusion

end Record

/-! ### The credits in use -/

theorem ledger_cons (p : Pallet) (l : List Pallet) : ledger (p :: l) = creditsHeld p + ledger l := rfl

theorem reservedCount_eq (s : Part) : reservedCount s = (s.pallets.filter fun p => p.move.any (·.reserved)).length := by
  unfold reservedCount
  congr 2
  funext p
  cases p.move <;> rfl

/-- R119: the credits in use are those the records stand for. -/
theorem creditsRight_iff {s : Part} : creditsRight s ↔ s.credits = ledger s.pallets := by
  have counted (l : List Pallet) :
      (l.filter fun p => p.loc == .hall).length + (l.filter fun p => p.move.any (·.reserved)).length = ledger l := by
    induction l with
    | nil => rfl
    | cons p l ih =>
      rw [ledger_cons, ← ih, creditsHeld]
      by_cases hall : p.loc = .hall <;> cases moves : p.move.any (·.reserved) <;> simp [hall, moves] <;> omega
  rw [creditsRight, hallCount, reservedCount_eq, counted]

theorem creditsHeld_le_ledger {p : Pallet} {l : List Pallet} (h : p ∈ l) : creditsHeld p ≤ ledger l :=
  List.single_le_sum (fun _ _ => Nat.zero_le _) _ (List.mem_map_of_mem h)

/-! ### A record replaced -/

section Replaced

variable {l : List Pallet} {id : Nat} {p q : Pallet} {s t : Part}

theorem palletsUnique.nodup (h : palletsUnique s) : (s.pallets.map (·.id)).Nodup := h.imp Nat.ne_of_lt

/-- The one record of an identifier. -/
theorem palletsUnique.eq_of_id (h : palletsUnique s) (hp : p ∈ s.pallets) (hq : q ∈ s.pallets) (same : p.id = q.id) : p = q :=
  List.inj_on_of_nodup_map h.nodup hp hq same

theorem Carries.ids (c : Carries l id q t) : t.pallets.map (·.id) = l.map (·.id) := by
  rw [c.table, List.map_map]
  refine List.map_congr_left fun w _ => ?_
  by_cases hw : w.id = id <;> simp [hw, c.own]

theorem Carries.unique (c : Carries s.pallets id q t) (h : palletsUnique s) : palletsUnique t := by rw [palletsUnique, c.ids]; exact h

theorem Carries.all {P : Pallet → Prop} (c : Carries l id q t) (own : P q) (h : ∀ w ∈ l, P w) : ∀ w ∈ t.pallets, P w := by
  intro w hw
  rw [c.table] at hw
  obtain ⟨v, hv, rfl⟩ := List.mem_map.mp hw
  split
  · exact own
  · exact h v hv

/-- A record of another identifier is as it was. -/
theorem Carries.others (c : Carries l id q t) : ∀ w ∈ t.pallets, w.id ≠ id → w ∈ l := by
  intro w hw other
  rw [c.table] at hw
  obtain ⟨v, hv, rfl⟩ := List.mem_map.mp hw
  split at other
  · exact absurd c.own other
  · next h => rw [if_neg h]; exact hv

theorem ledger_replaced (distinct : (l.map (·.id)).Nodup) (hp : p ∈ l) :
    ledger (l.map fun w => if w.id = p.id then q else w) + creditsHeld p = ledger l + creditsHeld q := by
  have stands {l : List Pallet} (h : p.id ∉ l.map (·.id)) : l.map (fun w => if w.id = p.id then q else w) = l :=
    (List.map_congr_left fun w hw => if_neg fun same => h (List.mem_map.mpr ⟨w, hw, same⟩)).trans (List.map_id _)
  induction l with
  | nil => cases hp
  | cons a l ih =>
    obtain ⟨first, distinct⟩ := List.nodup_cons.mp distinct
    rw [List.map_cons, ledger_cons, ledger_cons]
    obtain rfl | hp := List.mem_cons.mp hp
    · rw [if_pos rfl, stands first]; omega
    · rw [if_neg fun same => first (List.mem_map.mpr ⟨p, hp, same.symm⟩)]
      have := ih distinct hp
      omega

theorem Carries.ledger (c : Carries s.pallets id q t) (unique : palletsUnique s) (found : findPallet s id = some p) :
    ledger t.pallets + creditsHeld p = Machine.ledger s.pallets + creditsHeld q := by
  obtain ⟨hp, rfl⟩ := findPallet_id found
  rw [c.table, ledger_replaced unique.nodup hp]

end Replaced

/-! ### A record taken out, and one entered -/

section Entered

variable {id : Nat} {p q : Pallet} {l : List Pallet} {s : Part}

theorem dropPallet_pallets (id : Nat) (s : Part) : (dropPallet id s).pallets = s.pallets.filter fun p => p.id != id := rfl

theorem dropPallet_unique (id : Nat) (h : palletsUnique s) : palletsUnique (dropPallet id s) :=
  List.Pairwise.sublist (List.filter_sublist.map _) h

theorem dropPallet_mem {w : Pallet} (h : w ∈ (dropPallet id s).pallets) : w ∈ s.pallets ∧ w.id ≠ id := by
  obtain ⟨mem, other⟩ := List.mem_filter.mp h
  exact ⟨mem, bne_iff_ne.mp other⟩

theorem dropPallet_absent (h : findPallet s id = none) : (dropPallet id s).pallets = s.pallets :=
  List.filter_eq_self.mpr fun w hw => by simpa using List.find?_eq_none.mp h w hw

theorem ledger_dropped (distinct : (l.map (·.id)).Nodup) (hp : p ∈ l) :
    ledger (l.filter fun w => w.id != p.id) + creditsHeld p = ledger l := by
  induction l with
  | nil => cases hp
  | cons a l ih =>
    obtain ⟨first, distinct⟩ := List.nodup_cons.mp distinct
    obtain rfl | hp := List.mem_cons.mp hp
    · have rest : l.filter (fun w => w.id != p.id) = l :=
        List.filter_eq_self.mpr fun w hw => bne_iff_ne.mpr fun same => first (List.mem_map.mpr ⟨w, hw, same⟩)
      rw [List.filter_cons, if_neg (by simp), rest, ledger_cons, Nat.add_comm]
    · rw [List.filter_cons, if_pos (bne_iff_ne.mpr fun same => first (List.mem_map.mpr ⟨p, hp, same.symm⟩)), ledger_cons, ledger_cons,
        ← ih distinct hp, Nat.add_assoc]

theorem insertPallet_perm (p : Pallet) (l : List Pallet) : (insertPallet p l).Perm (p :: l) := by
  induction l with
  | nil => exact .refl _
  | cons q l ih =>
    unfold insertPallet; split
    · exact .refl _
    · exact (ih.cons q).trans (.swap p q l)

/-- A new identifier finds its place among ascending ones. -/
theorem insertPallet_ascending (h : (l.map (·.id)).Pairwise (· < ·)) (new : ∀ w ∈ l, w.id ≠ p.id) :
    ((insertPallet p l).map (·.id)).Pairwise (· < ·) := by
  induction l with
  | nil => simp [insertPallet]
  | cons q l ih =>
    obtain ⟨first, rest⟩ := List.pairwise_cons.mp h
    unfold insertPallet; split
    · next below =>
      refine List.pairwise_cons.mpr ⟨fun n hn => ?_, h⟩
      obtain rfl | hn := List.mem_cons.mp hn
      · exact below
      · exact below.trans (first n hn)
    · next above =>
      have other : q.id ≠ p.id := new q List.mem_cons_self
      refine List.pairwise_cons.mpr ⟨fun n hn => ?_, ih rest fun w hw => new w (List.mem_cons_of_mem q hw)⟩
      obtain ⟨w, hw, rfl⟩ := List.mem_map.mp hn
      obtain rfl | hw := mem_insertPallet.mp hw
      · show q.id < w.id
        omega
      · exact first _ (List.mem_map_of_mem hw)

end Entered

end Sys2Proof.Machine
end

section
/-! What the tracker and the Exposure Unit make of one record: the end of a move (R115), the update with its checks (R135 to R140), and the
pass (R122 to R125). Each keeps the record's marks and the credits it stands for (O54, O57). -/

namespace Sys2Proof.Machine

open Sys2Proof

/-- Between the parts the record `p` has become `q`: its marks stay right, and the credits follow what the record stands for. -/
structure Rebooks (s t : Part) (p q : Pallet) : Prop where
  marked : moveMarked p → moveMarked q
  kept : keptFromDoors p → keptFromDoors q
  credits : moveMarked p → creditsHeld p ≤ s.credits → t.credits + creditsHeld p = s.credits + creditsHeld q

/-- The record stays where it is besides, and a record without a move gets none. -/
structure Settles (s t : Part) (p q : Pallet) : Prop extends Rebooks s t p q where
  place : q.loc = p.loc
  idle : p.move = none → q.move = none ∧ t.credits = s.credits

/-- The record of the identifier, if there is one, is settled; every other record stands. -/
def SettlesAt (id : Nat) (s t : Part) : Prop := ∀ l p, Carries l id p s → ∃ q, Carries l id q t ∧ Settles s t p q

section Settles

variable {id : Nat} {s t u : Part} {p q r : Pallet} {l : List Pallet}

theorem Settles.of_same (loc : q.loc = p.loc) (status : q.status = p.status) (move : q.move = p.move)
    (quarantined : q.quarantined = p.quarantined) (credits : t.credits = s.credits) : Settles s t p q := by
  refine ⟨⟨fun h => ?_, fun h => ?_, fun _ _ => ?_⟩, loc, fun h => ⟨move.trans h, credits⟩⟩
  · rwa [moveMarked, status, move]
  · rwa [keptFromDoors, movesToDoor, quarantined, move]
  · rw [credits, creditsHeld, creditsHeld, loc, move]

theorem Rebooks.trans (h : Rebooks s t p q) (h' : Rebooks t u q r) : Rebooks s u p r := by
  refine ⟨fun m => h'.marked (h.marked m), fun k => h'.kept (h.kept k), fun m covered => ?_⟩
  have first := h.credits m covered
  have second := h'.credits (h.marked m) (by omega)
  omega

theorem Settles.trans (h : Settles s t p q) (h' : Settles t u q r) : Settles s u p r :=
  ⟨h.toRebooks.trans h'.toRebooks, h'.place.trans h.place, fun k => by
    obtain ⟨idle, credits⟩ := h.idle k
    obtain ⟨idle', credits'⟩ := h'.idle idle
    exact ⟨idle', credits'.trans credits⟩⟩

theorem SettlesAt.trans (h : SettlesAt id s t) (h' : SettlesAt id t u) : SettlesAt id s u := fun l p c => by
  obtain ⟨q, cq, hq⟩ := h l p c
  obtain ⟨r, cr, hr⟩ := h' l q cq
  exact ⟨r, cr, hq.trans hr⟩

theorem SettlesAt.of_eq (pallets : t.pallets = s.pallets) (credits : t.credits = s.credits) : SettlesAt id s t :=
  fun _ p c => ⟨p, c.of_eq pallets, .of_same rfl rfl rfl rfl credits⟩

theorem SettlesAt.of_only {gs : List Group} (h : Only gs s t) (c : (gs.contains .pallets || gs.contains .credits) = false) :
    SettlesAt id s t := by
  simp only [Bool.or_eq_false_iff, List.contains_eq_mem, decide_eq_false_iff_not] at c
  exact .of_eq (h.within .pallets c.1) (h.within .credits c.2)

/-- A record changed in its thermal fields and marks alone. -/
theorem settlesAt_modPallet {f : Pallet → Pallet} (s : Part)
    (h : ∀ p, findPallet s id = some p → (f p).id = p.id ∧ (f p).loc = p.loc ∧ (f p).status = p.status ∧ (f p).move = p.move
      ∧ (f p).quarantined = p.quarantined) : SettlesAt id s (modPallet id f s) := fun _ p c => by
  obtain ⟨same, loc, status, move, quarantined⟩ := h p c.find
  exact ⟨f p, c.mod f same, .of_same loc status move quarantined rfl⟩

/-! ### The end of a move (R115) -/

theorem endMove_unfound (h : findPallet s id = none) (note : Option (MoveEnd → NoticeBody)) : endMove id note s = s := by
  unfold endMove; rw [h]

theorem endMove_idle (h : findPallet s id = some p) (idle : p.move = none) (note : Option (MoveEnd → NoticeBody)) :
    endMove id note s = s := by
  unfold endMove; rw [h]; dsimp only; rw [idle]

/-- The credits of a record whose move has ended. -/
theorem creditsHeld_moveEnded {m : Move} (moves : p.move = some m) :
    creditsHeld p = creditsHeld (moveEnded s p) + (if m.reserved then 1 else 0) := by
  simp only [creditsHeld, moveEnded, moves, Option.any_some, Option.any_none]; rfl

theorem endMove_settles (c : Carries l id p s) (note : Option (MoveEnd → NoticeBody)) :
    ∃ q, Carries l id q (endMove id note s) ∧ Settles s (endMove id note s) p q ∧ q.move = none := by
  cases moves : p.move with
  | none =>
    rw [endMove_idle c.find moves]
    exact ⟨p, c, .of_same rfl rfl rfl rfl rfl, moves⟩
  | some m =>
    obtain ⟨carried, credits⟩ := endMove_carries c moves note
    refine ⟨moveEnded s p, carried, ⟨⟨fun _ => ?_, fun _ => keptFromDoors_idle rfl, fun _ covered => ?_⟩, rfl, fun idle => ?_⟩, rfl⟩
    · exact moveMarked_idle rfl (restingStatus_ne_moving s p.loc)
    · have held := creditsHeld_moveEnded (s := s) moves
      omega
    · rw [moves] at idle; cases idle

theorem settlesAt_endMove (id : Nat) (note : Option (MoveEnd → NoticeBody)) (s : Part) : SettlesAt id s (endMove id note s) :=
  fun _ _ c => by
    obtain ⟨q, cq, hq, -⟩ := endMove_settles c note
    exact ⟨q, cq, hq⟩

/-! ### The update (R135 to R140) -/

theorem settlesAt_warnCheck (id : Nat) (s : Part) : SettlesAt id s (warnCheck id s) := by
  unfold warnCheck; split
  · exact .of_eq rfl rfl
  · dsimp only; split
    · refine SettlesAt.trans ?_ (.of_only (raiseAlarm_only ..) rfl)
      refine SettlesAt.trans (settlesAt_modPallet s ?_) (.of_only (notify_only ..) rfl)
      exact fun _ _ => ⟨rfl, rfl, rfl, rfl, rfl⟩
    · exact .of_eq rfl rfl

theorem settlesAt_dwellCheck (id : Nat) (s : Part) : SettlesAt id s (dwellCheck id s) := by
  unfold dwellCheck; split
  · exact .of_eq rfl rfl
  · split
    · refine SettlesAt.trans (settlesAt_modPallet s ?_) (.of_only (raiseAlarm_only ..) rfl)
      exact fun _ _ => ⟨rfl, rfl, rfl, rfl, rfl⟩
    · exact .of_eq rfl rfl

/-- A record that becomes quarantined loses a move toward a door with it (R138, R139). -/
theorem settlesAt_holdCheck (id : Nat) (s : Part) : SettlesAt id s (holdCheck id s) := fun l p c => by
  unfold holdCheck
  rw [c.find]; dsimp only; split
  · have marked : Carries l id { p with quarantined := true } (modPallet id (fun p => { p with quarantined := true }) s) :=
      c.mod (fun p => { p with quarantined := true }) rfl
    set t := raiseAlarm .palletHold (.pallet id) _ with ht
    have only : Only [.alarms, .ports] (modPallet id (fun p => { p with quarantined := true }) s) t := by simp [ht, covers]
    have held : Carries l id { p with quarantined := true } t := marked.of_only only rfl
    have credits : t.credits = s.credits := only.within .credits (by decide)
    cases door : movesToDoor p with
    | false =>
      refine ⟨{ p with quarantined := true }, held, ⟨⟨fun h => h, fun _ _ => door, fun _ _ => ?_⟩, rfl, fun idle => ⟨idle, credits⟩⟩⟩
      show t.credits + creditsHeld p = s.credits + creditsHeld p
      rw [credits]
    | true =>
      obtain ⟨q, cq, settled, idle⟩ := endMove_settles held (some (NoticeBody.moveCancelled · .quarantine))
      refine ⟨q, cq, ⟨⟨fun h => settled.marked h, fun _ => keptFromDoors_idle idle, fun m covered => ?_⟩, settled.place, fun none_ => ?_⟩⟩
      · rw [← credits] at covered ⊢
        exact settled.credits m covered
      · exact absurd (movesToDoor_idle none_) (by simp [door])
  · exact ⟨p, c, .of_same rfl rfl rfl rfl rfl⟩

theorem settlesAt_updatePallet (id : Nat) (s : Part) : SettlesAt id s (updatePallet id s) := by
  unfold updatePallet; split
  · exact .of_eq rfl rfl
  · next p found =>
    split
    · exact .of_eq rfl rfl
    · refine SettlesAt.trans ?_ (settlesAt_dwellCheck id _)
      refine SettlesAt.trans ?_ (settlesAt_holdCheck id _)
      refine SettlesAt.trans (settlesAt_modPallet s fun q hq => ?_) (settlesAt_warnCheck id _)
      obtain rfl : p = q := Option.some_inj.mp (found.symm.trans hq)
      exact ⟨rfl, rfl, rfl, rfl, rfl⟩

end Settles

/-! ### The pass (R122 to R125) -/

section Pass

variable {door : DoorRef} {x : Pass} {v t : Part} {p : Pallet} {new : Loc}

theorem passedTo_loc (now : Nat) (s : Part) (new : Loc) (p : Pallet) : (passedTo now s new p).loc = new := rfl

theorem passedTo_status (now : Nat) (s : Part) (new : Loc) (p : Pallet) :
    (passedTo now s new p).status = if p.move = none ∨ endsAt p new then restingStatus s new else p.status := rfl

theorem passedTo_move (now : Nat) (s : Part) (new : Loc) (p : Pallet) : (passedTo now s new p).move
    = if endsAt p new then none else p.move.map fun m => if new = .hall ∧ p.loc ≠ .hall then { m with reserved := false } else m := rfl

theorem passedTo_id (now : Nat) (s : Part) (new : Loc) (p : Pallet) : (passedTo now s new p).id = p.id := by
  unfold passedTo; dsimp only; (repeat' split) <;> rfl

theorem passedTo_quarantined (now : Nat) (s : Part) (new : Loc) (p : Pallet) : (passedTo now s new p).quarantined = p.quarantined := by
  unfold passedTo; dsimp only; (repeat' split) <;> rfl

theorem passedTo_marked (now : Nat) (s : Part) (new : Loc) (h : moveMarked p) : moveMarked (passedTo now s new p) := by
  rw [moveMarked, passedTo_status, passedTo_move]
  by_cases ends : endsAt p new
  · rw [if_pos (.inr ends), if_pos ends]
    simp [restingStatus_ne_moving]
  · obtain idle | ⟨m, moves⟩ := Option.eq_none_or_eq_some p.move
    · rw [if_pos (.inl idle), if_neg ends, idle]
      simp [restingStatus_ne_moving]
    · have live : ¬ (p.move = none ∨ endsAt p new) := not_or.mpr ⟨by rw [moves]; exact Option.some_ne_none m, ends⟩
      rw [if_neg live, if_neg ends, Option.isSome_map]
      exact h

theorem passedTo_kept (now : Nat) (s : Part) (new : Loc) (h : keptFromDoors p) : keptFromDoors (passedTo now s new p) := by
  rw [keptFromDoors_iff] at h ⊢
  rw [passedTo_quarantined, passedTo_move]
  intro quarantined m hm d
  split at hm
  · cases hm
  · obtain ⟨m', moves, rfl⟩ := Option.map_eq_some_iff.mp hm
    have kept := h quarantined m' moves d
    split <;> exact kept

theorem creditsHeld_eq (p : Pallet) : creditsHeld p = (if p.loc = .hall then 1 else 0) + (if holdsCredit p then 1 else 0) := by
  rw [creditsHeld]
  obtain idle | ⟨m, moves⟩ := Option.eq_none_or_eq_some p.move
  · rw [if_neg (not_holdsCredit idle), idle]; rfl
  · simp only [holdsCredit_iff moves, moves, Option.any_some]

/-- A reservation is left where it neither ended nor was taken up (R124, R125). -/
theorem holdsCredit_passedTo (now : Nat) (s : Part) (new : Loc) (p : Pallet) : holdsCredit (passedTo now s new p)
    ↔ holdsCredit p ∧ ¬ endsAt p new ∧ ¬ (new = .hall ∧ p.loc ≠ .hall) := by
  rw [holdsCredit, passedTo_move]
  by_cases ends : endsAt p new
  · rw [if_pos ends]
    exact ⟨fun ⟨_, gone, _⟩ => (nomatch gone), fun h => absurd ends h.2.1⟩
  · rw [if_neg ends]
    by_cases enters : new = .hall ∧ p.loc ≠ .hall <;> simp [ends, enters]

/-- What the record stands for after the pass. -/
theorem creditsHeld_passedTo (now : Nat) (s : Part) (new : Loc) (p : Pallet) : creditsHeld (passedTo now s new p)
    = (if new = .hall then 1 else 0)
      + (if holdsCredit p ∧ ¬ endsAt p new ∧ ¬ (new = .hall ∧ p.loc ≠ .hall) then 1 else 0) := by
  rw [creditsHeld_eq, passedTo_loc]
  exact congrArg _ (if_congr (holdsCredit_passedTo now s new p) rfl rfl)

/-- The credits of a pass balance: what a move's end frees, what an entry to the hall takes, and what a departure frees (R124, R125). -/
theorem passCredits_balance {ends holds here there : Prop} [Decidable ends] [Decidable holds] [Decidable here] [Decidable there] {c : Nat}
    (covered : (if here then 1 else 0) + (if holds then 1 else 0) ≤ c) :
    c - (if ends ∧ holds then 1 else 0) + (if (there ∧ ¬ here) ∧ (ends ∨ ¬ holds) then 1 else 0) - (if here ∧ ¬ there then 1 else 0)
        + ((if here then 1 else 0) + (if holds then 1 else 0))
      = c + ((if there then 1 else 0) + (if holds ∧ ¬ ends ∧ ¬ (there ∧ ¬ here) then 1 else 0)) := by
  grind

theorem Tracked.rebooks (h : Tracked door x v p new t) : Rebooks v t p (passedTo v.time v new p) := by
  refine ⟨passedTo_marked _ _ _, passedTo_kept _ _ _, fun _ covered => ?_⟩
  rw [h.credits, creditsHeld_passedTo]
  rw [creditsHeld_eq] at covered ⊢
  exact passCredits_balance covered

end Pass

end Sys2Proof.Machine
end

section
/-! What each operation on the pallet table keeps (O54, O57): the end of a move, an update, a pass, the records left on a trailer, a grant, a
removal, and the records of a manifest. -/

namespace Sys2Proof.Machine

open Sys2Proof

/-- Identifiers stay unique, a sound table stays sound, and quarantined pallets stay kept from the doors. -/
structure Tallies (s t : Part) : Prop where
  unique : palletsUnique s → palletsUnique t
  sound : tableSound s → tableSound t
  kept : palletsUnique s → quarantineKept s → quarantineKept t

/-- The pallets and the credits are the same, and entry lists that are unique stay so. -/
structure SameTable (s t : Part) : Prop where
  pallets : t.pallets = s.pallets
  credits : t.credits = s.credits
  lists : entriesUnique s → entriesUnique t

section Tallies

variable {id : Nat} {s t u : Part} {p q : Pallet} {gs : List Group}

theorem tableSound_iff : tableSound s
    ↔ palletsUnique s ∧ (∀ p ∈ s.pallets, moveMarked p) ∧ entriesUnique s ∧ s.credits = ledger s.pallets := by
  rw [tableSound, creditsRight_iff]; exact Iff.rfl

theorem entriesUnique_of_slots (slots : t.slots = s.slots) (h : entriesUnique s) : entriesUnique t := by
  rw [entriesUnique, slots]; exact h

theorem SameTable.of_slots (pallets : t.pallets = s.pallets) (credits : t.credits = s.credits) (slots : t.slots = s.slots) :
    SameTable s t := ⟨pallets, credits, entriesUnique_of_slots slots⟩

theorem SameTable.refl (s : Part) : SameTable s s := .of_slots rfl rfl rfl

theorem SameTable.trans (h : SameTable s t) (h' : SameTable t u) : SameTable s u :=
  ⟨h'.pallets.trans h.pallets, h'.credits.trans h.credits, fun k => h'.lists (h.lists k)⟩

/-- What changes no pallet, no credit and no slot. -/
theorem SameTable.of_only (h : Only gs s t) (c : (gs.contains .pallets || gs.contains .credits || gs.contains .slots) = false) :
    SameTable s t := by
  simp only [Bool.or_eq_false_iff, List.contains_eq_mem, decide_eq_false_iff_not] at c
  obtain ⟨⟨cp, cc⟩, cs⟩ := c
  exact .of_slots (h.within .pallets cp) (h.within .credits cc) (h.within .slots cs)

theorem SameTable.tallies (h : SameTable s t) : Tallies s t := by
  refine ⟨fun k => ?_, fun k => ?_, fun _ k => ?_⟩
  · rwa [palletsUnique, h.pallets]
  · obtain ⟨unique, marked, lists, credits⟩ := tableSound_iff.mp k
    exact tableSound_iff.mpr ⟨by rwa [palletsUnique, h.pallets], by rwa [h.pallets], h.lists lists, by rwa [h.credits, h.pallets]⟩
  · rwa [quarantineKept, h.pallets]

theorem Tallies.refl (s : Part) : Tallies s s := ⟨fun h => h, fun h => h, fun _ h => h⟩

theorem Tallies.trans (h : Tallies s t) (h' : Tallies t u) : Tallies s u :=
  ⟨fun k => h'.unique (h.unique k), fun k => h'.sound (h.sound k), fun k g => h'.kept (h.unique k) (h.kept k g)⟩

/-- What a step keeps may be shown where the identifiers are unique. -/
theorem Tallies.of_unique (h : palletsUnique s → Tallies s t) : Tallies s t :=
  ⟨fun k => (h k).unique k, fun k => (h k.1).sound k, fun k => (h k).kept k⟩

/-- One record rebooked. -/
theorem Tallies.of_rebooks (found : findPallet s id = some p) (c : Carries s.pallets id q t) (r : Rebooks s t p q)
    (slots : t.slots = s.slots) : Tallies s t := by
  have mem := (findPallet_id found).1
  refine ⟨c.unique, fun k => ?_, fun _ k => c.all (P := keptFromDoors) (r.kept (k p mem)) k⟩
  obtain ⟨unique, marked, lists, credits⟩ := tableSound_iff.mp k
  refine tableSound_iff.mpr ⟨c.unique unique, c.all (r.marked (marked p mem)) marked, entriesUnique_of_slots slots lists, ?_⟩
  have balance := r.credits (marked p mem) (credits ▸ creditsHeld_le_ledger mem)
  have total := c.ledger unique found
  omega

theorem Tallies.of_settles (h : SettlesAt id s t) (absent : findPallet s id = none → t = s) (slots : t.slots = s.slots) : Tallies s t := by
  refine .of_unique fun unique => ?_
  cases found : findPallet s id with
  | none => rw [absent found]; exact .refl s
  | some p =>
    obtain ⟨q, cq, settled⟩ := h _ p (carries_found unique found)
    exact .of_rebooks found cq settled.toRebooks slots

theorem tallies_endMove (id : Nat) (note : Option (MoveEnd → NoticeBody)) (s : Part) : Tallies s (endMove id note s) :=
  .of_settles (settlesAt_endMove id note s) (fun none_ => endMove_unfound none_ note) ((endMove_only ..).within .slots (by decide))

theorem tallies_updatePallet (id : Nat) (s : Part) : Tallies s (updatePallet id s) :=
  .of_settles (settlesAt_updatePallet id s) updatePallet_unfound ((updatePallet_only ..).within .slots (by decide))

theorem tallies_passTracked (door : DoorRef) (x : Pass) (s : Part) : Tallies s (passTracked door x s) := by
  refine .of_unique fun unique => ?_
  cases known : findPallet s x.id with
  | none => rw [passTracked_unknown known]; exact (SameTable.of_only (notify_only ..) rfl).tallies
  | some p =>
    obtain ⟨q, -, carried⟩ := updatePallet_carries (carries_found unique known)
    have found := carried.find
    have tracked := passTracked_known (door := door) unique found
    refine (tallies_updatePallet x.id s).trans (.of_rebooks found ⟨?_, tracked.pallets, ?_⟩ tracked.rebooks ?_)
    · rw [passedTo_id]; exact (findPallet_id found).2
    · exact ⟨q, findPallet_id found⟩
    · exact ((passTracked_only door x s).within .slots (by decide)).trans ((updatePallet_only x.id s).within .slots (by decide)).symm

/-! ### A record taken out (R127, R129) -/

/-- A record leaves the table with the credits it stands for. -/
theorem tableSound_dropped (h : tableSound s) (found : findPallet s id = some p) (pallets : t.pallets = (dropPallet id s).pallets)
    (credits : t.credits + creditsHeld p = s.credits) (slots : t.slots = s.slots) : tableSound t := by
  obtain ⟨unique, marked, lists, right⟩ := tableSound_iff.mp h
  obtain ⟨mem, rfl⟩ := findPallet_id found
  refine tableSound_iff.mpr ⟨?_, fun w hw => ?_, entriesUnique_of_slots slots lists, ?_⟩
  · rw [palletsUnique, pallets]; exact dropPallet_unique _ unique
  · rw [pallets] at hw; exact marked w (dropPallet_mem hw).1
  · have total := ledger_dropped unique.nodup mem
    rw [pallets, dropPallet_pallets]
    omega

theorem Tallies.dropped (h : Tallies s u) (pallets : t.pallets = (dropPallet id u).pallets) (sound : tableSound s → tableSound t) :
    Tallies s t := by
  refine ⟨fun k => ?_, sound, fun k g w hw => ?_⟩
  · rw [palletsUnique, pallets]; exact dropPallet_unique _ (h.unique k)
  · rw [pallets] at hw; exact h.kept k g w (dropPallet_mem hw).1

/-- The records located on the trailer leave with it (R127 step 2). -/
def unload (d : DoorId) (s : Part) : Part := ((idsAt s (.trailer d)).foldl leaveOnTrailer (s, [])).1

theorem leaveOnTrailer_part (x : Part × List LeftEntry) (id : Nat) :
    (leaveOnTrailer x id).1 = dropPallet id (endMove id none (updatePallet id x.1)) := rfl

/-- One record leaves with the trailer; no other changes. -/
theorem leaveOnTrailer_tallies {x : Part × List LeftEntry} (unique : palletsUnique x.1)
    (outside : ∀ w ∈ x.1.pallets, w.id = id → w.loc ≠ .hall) :
    Tallies x.1 (leaveOnTrailer x id).1 ∧ ∀ w ∈ (leaveOnTrailer x id).1.pallets, w ∈ x.1.pallets := by
  rw [leaveOnTrailer_part]
  cases found : findPallet x.1 id with
  | none =>
    rw [updatePallet_unfound found, endMove_unfound found]
    have same : (dropPallet id x.1).pallets = x.1.pallets := dropPallet_absent found
    exact ⟨(SameTable.of_slots same rfl rfl).tallies, fun w hw => same ▸ hw⟩
  | some p =>
    obtain ⟨mem, own⟩ := findPallet_id found
    obtain ⟨q, cq, settled⟩ := settlesAt_updatePallet id x.1 _ p (carries_found unique found)
    obtain ⟨r, cr, settled', idle⟩ := endMove_settles cq none
    have held : creditsHeld r = 0 := creditsHeld_idle idle (by rw [settled'.place, settled.place]; exact outside p mem own)
    refine ⟨?_, fun w hw => cr.others w (dropPallet_mem hw).1 (dropPallet_mem hw).2⟩
    have ended := (tallies_updatePallet id x.1).trans (tallies_endMove id none _)
    exact ended.dropped rfl fun k => tableSound_dropped (ended.sound k) cr.find rfl (by rw [held]; rfl) rfl

theorem leaveList_tallies (l : List Nat) {x : Part × List LeftEntry} (unique : palletsUnique x.1)
    (outside : ∀ w ∈ x.1.pallets, w.id ∈ l → w.loc ≠ .hall) : Tallies x.1 (l.foldl leaveOnTrailer x).1 := by
  induction l generalizing x with
  | nil => exact .refl _
  | cons id l ih =>
    obtain ⟨tallies, sub⟩ := leaveOnTrailer_tallies unique fun w hw own => outside w hw (own ▸ List.mem_cons_self)
    exact tallies.trans (ih (tallies.unique unique) fun w hw hm => outside w (sub w hw) (List.mem_cons_of_mem id hm))

theorem tallies_unload (d : DoorId) (s : Part) : Tallies s (unload d s) := by
  refine .of_unique fun unique => leaveList_tallies (x := (s, [])) _ unique fun w hw hm => ?_
  obtain ⟨v, hv, same⟩ := List.mem_map.mp hm
  obtain ⟨mem, loc⟩ := List.mem_filter.mp hv
  rw [← unique.eq_of_id mem hw same, eq_of_beq loc]
  exact Loc.noConfusion

/-- REMOVE PALLET refuses a record that moves or is loaded (R129). -/
theorem removeRecord_busy (h : p.status = .moving ∨ p.status = .loaded) (s : Part) : removeRecord p s = refuse .busyState s := if_pos h

/-- The part of a removal before the record leaves: the record settled, its place given up (R129). -/
def vacated (p : Pallet) (s : Part) : Part :=
  match p.loc with
  | .hall => { updatePallet p.id s with credits := (updatePallet p.id s).credits - 1 }
  | .zone z => drainCheck 0 (drainCheck z (updatePallet p.id s))
  | .trailer _ => updatePallet p.id s

theorem removeRecord_removes (h : ¬ (p.status = .moving ∨ p.status = .loaded)) (s : Part) :
    ∃ q, (findPallet (updatePallet p.id s) p.id = some q ∨ findPallet (updatePallet p.id s) p.id = none ∧ q = p)
      ∧ removeRecord p s = reply .ok (putLoc q.loc ++ putU32 (reported q.exposure) ++ putMark q.quarantined)
          (dropPallet p.id (vacated p s)) := by
  refine ⟨(findPallet (updatePallet p.id s) p.id).getD p, ?_, ?_⟩
  · cases findPallet (updatePallet p.id s) p.id with
    | none => exact .inr ⟨rfl, rfl⟩
    | some q => exact .inl rfl
  · unfold removeRecord vacated
    refine (if_neg h).trans ?_
    cases p.loc <;> rfl

theorem vacated_only (p : Pallet) (s : Part) : Only [.zones, .portals, .credits, .ports] (updatePallet p.id s) (vacated p s) := by
  unfold vacated; split <;> simp [covers]

theorem vacated_credits (p : Pallet) (s : Part) :
    (vacated p s).credits = (updatePallet p.id s).credits - (if p.loc = .hall then 1 else 0) := by
  unfold vacated
  cases p.loc with
  | hall => rfl
  | zone z =>
    exact ((drainCheck_only 0 _).within .credits (by decide)).trans ((drainCheck_only z _).within .credits (by decide))
  | trailer d => rfl

theorem tallies_removeRecord (found : findPallet s id = some p) : Tallies s (removeRecord p s).1 := by
  obtain ⟨mem, own⟩ := findPallet_id found
  by_cases busy : p.status = .moving ∨ p.status = .loaded
  · rw [removeRecord_busy busy]; exact .refl s
  · obtain ⟨_, _, removed⟩ := removeRecord_removes busy s
    rw [removed, reply_part]
    have only := vacated_only p s
    have pallets : (dropPallet p.id (vacated p s)).pallets = (dropPallet p.id (updatePallet p.id s)).pallets := by
      rw [dropPallet_pallets, dropPallet_pallets, only.within .pallets (by decide)]
    have start := tallies_updatePallet p.id s
    refine start.dropped pallets fun k => ?_
    obtain ⟨q, cq, settled⟩ := settlesAt_updatePallet p.id s _ p (carries_found k.1 (own ▸ found))
    have idle : p.move = none := ((tableSound_iff.mp k).2.1 p mem).idle fun moving => busy (.inl moving)
    have held : creditsHeld q = if p.loc = .hall then 1 else 0 := by
      simp [creditsHeld, (settled.idle idle).1, settled.place]
    have covered : creditsHeld q ≤ (updatePallet p.id s).credits := by
      obtain ⟨-, -, -, right⟩ := tableSound_iff.mp (start.sound k)
      exact right ▸ creditsHeld_le_ledger (findPallet_id cq.find).1
    refine tableSound_dropped (start.sound k) cq.find pallets ?_ (only.within .slots (by decide))
    show (vacated p s).credits + creditsHeld q = _
    rw [vacated_credits, ← held]
    omega

/-! ### A grant (R114) -/

/-- A move that is granted passes every check of R111. -/
theorem moveRefusal_eq_none {e : Dest} : moveRefusal s p e = none
    ↔ (p.status = .waiting ∨ p.status = .standing) ∧ destOf e ≠ p.loc ∧ routeAgrees p e = true
      ∧ (∀ z ∈ pathZones p.loc e, zoneTakesMoves s z = true) ∧ doorTakes s e = none ∧ creditFree s p.loc = true := by
  simp only [moveRefusal, firstSome_cons_eq_none, failing_eq_none]
  simp [firstSome, or_iff_not_imp_left]

/-- A quarantined pallet's route agrees with no dock door (R112). -/
theorem routeAgrees_quarantined {d : DoorId} (h : p.quarantined = true) : routeAgrees p (.door d) = false := by
  simp [routeAgrees, h]

theorem grantMove_carries {l : List Pallet} {e : Dest} (c : Carries l p.id p s) :
    Carries l p.id { p with move := some (newMove s p e), status := .moving } (grantMove p e s) :=
  (c.mod (fun p' => { p' with move := some (newMove s p e), status := .moving }) rfl).of_eq rfl

theorem grantMove_credits (p : Pallet) (e : Dest) (s : Part) :
    (grantMove p e s).credits = s.credits + (if p.loc = .hall then 0 else 1) := by
  by_cases hall : p.loc = .hall <;> simp [grantMove, newMove, reserves, hall]

theorem grantMove_rebooks {e : Dest} (granted : moveRefusal s p e = none) :
    Rebooks s (grantMove p e s) p { p with move := some (newMove s p e), status := .moving } := by
  obtain ⟨free, -, route, -⟩ := moveRefusal_eq_none.mp granted
  refine ⟨fun _ => ⟨fun _ => rfl, fun _ => rfl⟩, fun _ => keptFromDoors_iff.mpr fun quarantined m hm d hd => ?_, fun marked _ => ?_⟩
  · obtain rfl := Option.some_inj.mp hm
    have dest : e = .door d := hd
    rw [dest, routeAgrees_quarantined (p := p) quarantined] at route
    cases route
  · have idle : p.move = none := marked.idle fun moving => by obtain h | h := free <;> rw [moving] at h <;> cases h
    rw [grantMove_credits]
    by_cases hall : p.loc = .hall <;> simp [creditsHeld, idle, hall, newMove, reserves]

theorem tallies_grantMove {e : Dest} (found : findPallet s p.id = some p) (granted : moveRefusal s p e = none) :
    Tallies s (grantMove p e s) :=
  .of_unique fun unique =>
    .of_rebooks found (grantMove_carries (carries_found unique found)) (grantMove_rebooks granted) rfl

/-! ### The records of a manifest (R99) -/

/-- New records, on a trailer and without a move, take their places in the table. -/
theorem insertAll_sound {d : DoorId} (es : List Entry) {l : List Pallet} (ascending : (l.map (·.id)).Pairwise (· < ·))
    (distinct : (es.map (·.id)).Nodup) (new : ∀ e ∈ es, ∀ w ∈ l, w.id ≠ e.id) :
    ((es.foldl (fun l e => insertPallet (committedPallet s d e) l) l).map (·.id)).Pairwise (· < ·)
      ∧ ledger (es.foldl (fun l e => insertPallet (committedPallet s d e) l) l) = ledger l := by
  induction es generalizing l with
  | nil => exact ⟨ascending, rfl⟩
  | cons e es ih =>
    obtain ⟨first, distinct⟩ := List.nodup_cons.mp distinct
    have entered := insertPallet_ascending (p := committedPallet s d e) ascending fun w hw => new e List.mem_cons_self w hw
    have held : creditsHeld (committedPallet s d e) = 0 := creditsHeld_idle rfl Loc.noConfusion
    have same : ledger (insertPallet (committedPallet s d e) l) = ledger l := by
      rw [ledger, ((insertPallet_perm _ l).map creditsHeld).sum_eq]
      show creditsHeld (committedPallet s d e) + ledger l = ledger l
      rw [held, Nat.zero_add]
    rw [List.foldl_cons, ← same]
    refine ih entered distinct fun f hf w hw => ?_
    obtain rfl | hw := mem_insertPallet.mp hw
    · exact fun clash => first (List.mem_map.mpr ⟨f, hf, clash.symm⟩)
    · exact new f (List.mem_cons_of_mem e hf) w hw

theorem createRecords_credits (d : DoorId) (s : Part) : (createRecords d s).credits = s.credits :=
  (createRecords_only d s).within .credits (by decide)

end Tallies

/-! ### Entry lists (Section 5.1) -/

section Lists

variable {d : DoorId} {s : Part} {f : Slot → Slot}

theorem entriesUnique_changeSlot (h : ((s.slots.get d).entries.map (·.id)).Nodup → ((f (s.slots.get d)).entries.map (·.id)).Nodup)
    (k : entriesUnique s) : entriesUnique (changeSlot d f s) := by
  intro x
  by_cases hx : x = d
  · subst hx; rw [changeSlot_slot]; exact h (k x)
  · rw [(changeSlot_others d f s).1 x hx]; exact k x

/-- A slot whose list stays distinct. -/
theorem sameTable_changeSlot
    (h : ((s.slots.get d).entries.map (·.id)).Nodup → ((f (s.slots.get d)).entries.map (·.id)).Nodup) :
    SameTable s (changeSlot d f s) :=
  ⟨(changeSlot_only d f s).within .pallets (by decide), (changeSlot_only d f s).within .credits (by decide),
    entriesUnique_changeSlot h⟩

theorem sameTable_emptySlotAt (d : DoorId) (s : Part) : SameTable s (emptySlotAt d s) := by
  unfold emptySlotAt onlyIf; split
  · exact sameTable_changeSlot fun _ => List.nodup_nil
  · exact .refl s

theorem sameTable_faultSlot (d : DoorId) (c : LoadCause) (n : Nat) (s : Part) : SameTable s (faultSlot d c n s) := by
  rw [faultSlot_eq]
  exact (sameTable_changeSlot (f := enterLoadFault c n s.time) fun h => h).trans (.of_only (notify_only ..) rfl)

/-- MANIFEST ENTRY appends only an identifier that the list lacks (R94). -/
theorem sameTable_takeEntry (e : Entry) (d : DoorId) (s : Part) : SameTable s (takeEntry e d s).1 := by
  unfold takeEntry; dsimp only; split
  · exact .refl s
  · exact .refl s
  · exact .refl s
  · split
    · exact .refl s
    · split
      · exact sameTable_faultSlot ..
      · split
        · exact sameTable_faultSlot ..
        · next new =>
          refine sameTable_changeSlot fun distinct => ?_
          show ((((s.slots.get d).entries ++ [e]).map (·.id))).Nodup
          rw [List.map_append, List.map_singleton, ← List.concat_eq_append]
          refine distinct.concat fun known => new ?_
          obtain ⟨x, hx, same⟩ := List.mem_map.mp known
          exact List.any_eq_true.mpr ⟨x, hx, beq_iff_eq.mpr same⟩
  · split
    · exact .refl s
    · exact sameTable_faultSlot ..

theorem sameTable_beginManifest (n r : Nat) (d : DoorId) (s : Part) : SameTable s (beginManifest n r d s).1 := by
  unfold beginManifest; dsimp only
  repeat' split
  iterate 6 exact .refl s
  exact sameTable_changeSlot fun _ => List.nodup_nil

theorem sameTable_clearManifest (d : DoorId) (s : Part) : SameTable s (clearManifest d s).1 := by
  unfold clearManifest; split
  · exact .refl s
  · exact sameTable_emptySlotAt d s
  · exact sameTable_emptySlotAt d s
  · exact sameTable_emptySlotAt d s
  · exact .refl s

/-- MANIFEST COMMIT leaves the table, or enters the records of a list whose identifiers the table lacks (R98). -/
theorem commitManifest_cases (d : DoorId) (s : Part) : SameTable s (commitManifest d s).1
    ∨ ((∀ e ∈ (s.slots.get d).entries, ∀ w ∈ s.pallets, w.id ≠ e.id) ∧ (commitManifest d s).1 = createRecords d s) := by
  unfold commitManifest; dsimp only; split
  · exact .inl (.refl s)
  · exact .inl (sameTable_faultSlot ..)
  · exact .inl (.refl s)
  · exact .inl (.refl s)
  · split
    · exact .inl (sameTable_faultSlot ..)
    · next absent =>
      split
      · exact .inl (.refl s)
      · refine .inr ⟨fun e he w hw same => ?_, rfl⟩
        exact List.find?_eq_none.mp absent e he (findPallet_isSome.mpr ⟨w, hw, same⟩)

theorem commitManifest_sound (d : DoorId) (h : tableSound s) : tableSound (commitManifest d s).1 := by
  obtain same | ⟨new, created⟩ := commitManifest_cases d s
  · exact same.tallies.sound h
  · obtain ⟨unique, marked, lists, credits⟩ := tableSound_iff.mp h
    obtain ⟨ascending, held⟩ := insertAll_sound (s := s) (d := d) _ unique (lists d) new
    rw [created]
    refine tableSound_iff.mpr ⟨?_, fun w hw => ?_, ?_, ?_⟩
    · rw [palletsUnique, createRecords_pallets]; exact ascending
    · rw [createRecords_pallets] at hw
      obtain hw | ⟨e, -, rfl⟩ := (mem_insertAll _ _).mp hw
      · exact marked w hw
      · exact moveMarked_idle rfl PalletStatus.noConfusion
    · rw [createRecords_eq]
      exact entriesUnique_changeSlot (s := recordsEntered d s) (fun distinct => distinct) lists
    · rw [createRecords_credits, createRecords_pallets, held]; exact credits

theorem commitManifest_kept (d : DoorId) (h : quarantineKept s) : quarantineKept (commitManifest d s).1 := by
  obtain same | ⟨-, created⟩ := commitManifest_cases d s
  · rw [quarantineKept, same.pallets]; exact h
  · rw [created, quarantineKept, createRecords_pallets]
    intro w hw
    obtain hw | ⟨e, -, rfl⟩ := (mem_insertAll _ _).mp hw
    · exact h w hw
    · exact keptFromDoors_idle rfl

end Lists

end Sys2Proof.Machine
end

section
/-! How the commands reach the pallet table (O54, O57): by the tracker's own operations, in some order, and by changes that leave pallets,
credits and entry lists alone. A property that these keep is kept by every command; MANIFEST COMMIT and the starts stand apart. -/

namespace Sys2Proof.Machine

open Sys2Proof

/-- The second part follows from the first by the operations of the tracker and the Exposure Unit, and by changes beside the table. -/
inductive Tracks : Part → Part → Prop where
  | refl (s : Part) : Tracks s s
  | beside {s t u : Part} : Tracks s t → SameTable t u → Tracks s u
  | ended {s t : Part} (id : Nat) (note : Option (MoveEnd → NoticeBody)) : Tracks s t → Tracks s (endMove id note t)
  | updated {s t : Part} (id : Nat) : Tracks s t → Tracks s (updatePallet id t)
  | passed {s t : Part} (door : DoorRef) (x : Pass) : Tracks s t → Tracks s (passTracked door x t)
  | unloaded {s t : Part} (d : DoorId) : Tracks s t → Tracks s (unload d t)
  | granted {s t : Part} (p : Pallet) (e : Dest) : Tracks s t → findPallet t p.id = some p → moveRefusal t p e = none →
      Tracks s (grantMove p e t)
  | removed {s t : Part} (p : Pallet) : Tracks s t → findPallet t p.id = some p → Tracks s (removeRecord p t).1

section Tracks

variable {u s t : Part} {gs : List Group}

theorem Tracks.trans (h : Tracks s t) (h' : Tracks t u) : Tracks s u := by
  induction h' with
  | refl => exact h
  | beside _ same ih => exact ih.beside same
  | ended id note _ ih => exact ih.ended id note
  | updated id _ ih => exact ih.updated id
  | passed door x _ ih => exact ih.passed door x
  | unloaded d _ ih => exact ih.unloaded d
  | granted p e _ found granted ih => exact ih.granted p e found granted
  | removed p _ found ih => exact ih.removed p found

theorem Tracks.tallies (h : Tracks s t) : Tallies s t := by
  induction h with
  | refl => exact .refl _
  | beside _ same ih => exact ih.trans same.tallies
  | ended id note _ ih => exact ih.trans (tallies_endMove id note _)
  | updated id _ ih => exact ih.trans (tallies_updatePallet id _)
  | passed door x _ ih => exact ih.trans (tallies_passTracked door x _)
  | unloaded d _ ih => exact ih.trans (tallies_unload d _)
  | granted p e _ found granted ih => exact ih.trans (tallies_grantMove found granted)
  | removed p _ found ih => exact ih.trans (tallies_removeRecord found)

theorem Tracks.of_only (h : Only gs s t) (c : (gs.contains .pallets || gs.contains .credits || gs.contains .slots) = false)
    (k : Tracks u s) : Tracks u t := k.beside (.of_only h c)

/-! ### Combinators -/

theorem tracks_onlyIf {c : Bool} {f : Part → Part} (h : ∀ t, Tracks t (f t)) (k : Tracks u s) : Tracks u (onlyIf c f s) := by
  unfold onlyIf; split
  · exact k.trans (h s)
  · exact k

theorem tracks_forList {α : Type} {f : α → Part → Part} (h : ∀ a t, Tracks t (f a t)) (l : List α) (k : Tracks u s) :
    Tracks u (forList l f s) := by
  induction l generalizing s with
  | nil => exact k
  | cons a l ih => exact ih (k.trans (h a s))

theorem tracks_withSome {α : Type} {x : Option α} {f : α → Part → Part} (h : ∀ a t, Tracks t (f a t)) (k : Tracks u s) :
    Tracks u (withSome x f s) := by
  cases x with
  | none => exact k
  | some a => exact k.trans (h a s)

theorem tracks_trackDock {d : DoorId} {f : Part → Part} (h : Tracks u (f s)) : Tracks u (trackDock d f s) := by
  unfold trackDock; exact tracks_onlyIf (fun t => .of_only (bumpDock_only d t) rfl (.refl t)) h

/-! ### The tracker and the Exposure Unit (TrackerOps.lean) -/

theorem tracks_updateAt (l : Loc) (k : Tracks u s) : Tracks u (updateAt l s) :=
  tracks_forList (fun id t => (Tracks.refl t).updated id) _ k

theorem tracks_updateAll (k : Tracks u s) : Tracks u (updateAll s) := tracks_forList (fun id t => (Tracks.refl t).updated id) _ k

theorem tracks_processPass (door : DoorRef) (x : Pass) (k : Tracks u s) : Tracks u (processPass door x s) := by
  rw [processPass_eq]
  exact .of_only (passHandOn_only door _) rfl (k.passed door x)

theorem tracks_deliverPasses (door : DoorRef) (ps : List Pass) (k : Tracks u s) : Tracks u (deliverPasses door ps s) :=
  tracks_forList (fun x t => tracks_processPass door x (.refl t)) _ k

/-- The parts of a trailer end (R127, R128): the moves toward its door, the records on it, the notices, the slot. -/
theorem trailerEnded_eq (d : DoorId) (s : Part) :
    ∃ w, Only [.alarms, .ports]
        (unload d (forList (idsMovingTo s d) (fun id => endMove id (some (NoticeBody.moveCancelled · .trailerGone))) s)) w
      ∧ trailerEnded d s = emptySlotAt d w := by
  refine ⟨_, ?_, rfl⟩
  dsimp only [unload]
  repeat' split
  all_goals simp (maxDischargeDepth := 6) [covers]

theorem tracks_trailerEnded (d : DoorId) (k : Tracks u s) : Tracks u (trailerEnded d s) := by
  obtain ⟨w, only, e⟩ := trailerEnded_eq d s
  rw [e]
  have ended := tracks_forList (fun id t => (Tracks.refl t).ended id (some (NoticeBody.moveCancelled · .trailerGone))) (idsMovingTo s d) k
  exact (Tracks.of_only only rfl (ended.unloaded d)).beside (sameTable_emptySlotAt d w)

theorem tracks_finishVacant (d : DoorId) (k : Tracks u s) : Tracks u (finishVacant d s) :=
  .of_only (endPendingDock_only ..) rfl (.of_only (modDock_only ..) rfl (tracks_trailerEnded d k))

/-! ### Reports of doors (LoopOps.lean) -/

theorem tracks_takeDockState (d : DoorId) (r : DockReport) (k : Tracks u s) : Tracks u (takeDockState d r s) := by
  have taken : Tracks u (modDock d (takeDock s.time r s.time) s) := .of_only (modDock_only ..) rfl k
  refine .of_only (bumpDock_only ..) rfl ?_
  split
  · exact tracks_finishVacant d taken
  · exact .of_only (raiseAlarm_only ..) rfl taken
  · exact taken

theorem tracks_dockFaultReport (d : DoorId) (r : DockReport) (k : Tracks u s) : Tracks u (dockFaultReport d r s) := by
  unfold dockFaultReport; dsimp only
  repeat' split
  · exact .of_only (lockOutDock_only ..) rfl (.of_only (storeDockReport_only ..) rfl k)
  · exact tracks_takeDockState d r k
  · exact .of_only (endCondition_only ..) rfl (tracks_takeDockState d r (.of_only (modDock_only ..) rfl k))
  · exact .of_only (modDock_only ..) rfl k

/-- A row of R62 reaches the table where the trailer ends. -/
theorem tracks_applyRow (d : DoorId) (r : DockReport) (n : Nat) (k : Tracks u s) : Tracks u (applyRow d r n s) := by
  have arrives (f : Dock → Dock) : Tracks u (trackDock d (modDock d f) s) :=
    .of_only (trackDock_only (modDock_only d f s) rfl) rfl k
  unfold applyRow; split
  · exact .of_only (faultDock_only ..) rfl k
  · exact tracks_trackDock (tracks_finishVacant d (.of_only (modDock_only ..) rfl k))
  · exact .of_only (faultDock_only ..) rfl k
  · exact .of_only (breachDock_only ..) rfl k
  · exact arrives _
  · exact .of_only (sealProven_only ..) rfl k
  · exact arrives _
  · exact arrives _
  · exact .of_only (doorClosed_only ..) rfl k
  · exact arrives _
  · exact k

theorem tracks_dockReportState (d : DoorId) (r : DockReport) (k : Tracks u s) : Tracks u (dockReportState d r s) := by
  unfold dockReportState; split
  · exact .of_only (storeDockReport_only ..) rfl k
  · exact tracks_dockFaultReport d r k
  · exact .of_only (storeDockReport_only ..) rfl (tracks_applyRow d r _ k)

theorem tracks_dockReportEvent (d : DoorId) (r : DockReport) (k : Tracks u s) : Tracks u (dockReportEvent d r s) :=
  .of_only (handOn_only ..) rfl (.of_only (accrueDock_only ..) rfl (tracks_dockReportState d r k))

theorem tracks_deliverDock (a : StationId) (r : DockReport) (k : Tracks u s) : Tracks u (deliverDock a r s) := by
  refine tracks_withSome (fun d t => tracks_onlyIf (fun v => ?_) (tracks_dockReportEvent d _ (.refl t))) k
  exact tracks_onlyIf (fun w => .of_only (buttonEvent_only d w) rfl (.refl w)) (tracks_deliverPasses _ _ (.refl v))

theorem tracks_deliverPortal (a : StationId) (r : PortalReport) (k : Tracks u s) : Tracks u (deliverPortal a r s) := by
  refine tracks_withSome (fun q t => tracks_onlyIf (fun v => ?_) (.of_only (portalReportEvent_only ..) rfl (.refl t))) k
  exact tracks_onlyIf (fun w => .of_only (approach_only q w) rfl (.refl w)) (tracks_deliverPasses _ _ (.refl v))

theorem tracks_goodReport {α : Type} (kind : StationKind) (a : StationId) (r : Option α) {f : Image → α → Part → Part}
    (h : ∀ i x t, Tracks t (f i x t)) (s : Part) : Tracks s (goodReport kind a r f s) := by
  have cleared : Tracks s (clearFlight s) := .of_only (clearFlight_only s) rfl (.refl s)
  have missed : Tracks s (missInFlight s) := .of_only (missInFlight_only s) rfl (.refl s)
  unfold goodReport; dsimp only
  repeat' split
  · exact .refl s
  · exact cleared
  · exact tracks_onlyIf (h _ _) (.of_only (accountGood_only ..) rfl cleared)
  · exact missed
  · exact missed

theorem tracks_takeSection (a : StationId) (x : EventSection) (s : Part) : Tracks s (takeSection a x s) :=
  .of_only (takeSection_only a x s) rfl (.refl s)

theorem tracks_takeDockReport (a : StationId) (body : List Byte) (s : Part) : Tracks s (takeDockReport a body s) :=
  tracks_goodReport _ _ _ (fun _ r t => tracks_deliverDock a r (tracks_takeSection a r.events t)) s

theorem tracks_takePortalReport (a : StationId) (body : List Byte) (s : Part) : Tracks s (takePortalReport a body s) :=
  tracks_goodReport _ _ _ (fun _ r t => tracks_deliverPortal a r (tracks_takeSection a r.events t)) s

theorem tracks_takeEvapReport (a : StationId) (body : List Byte) (s : Part) : Tracks s (takeEvapReport a body s) :=
  tracks_goodReport _ _ _ (fun i r t => .of_only (deliverEvap_only a i r t) rfl (.refl t)) s

theorem tracks_takeProbeReport (a : StationId) (body : List Byte) (s : Part) : Tracks s (takeProbeReport a body s) :=
  tracks_goodReport _ _ _ (fun _ r t => .of_only (deliverProbe_only a r t) rfl (.refl t)) s

theorem tracks_takeReport (f : ReportFrame) (s : Part) : Tracks s (takeReport f s) := by
  obtain ⟨a, kind, body⟩ := f
  cases kind with
  | none => exact .of_only (missInFlight_only s) rfl (.refl s)
  | dock => exact tracks_takeDockReport a body s
  | portal => exact tracks_takePortalReport a body s
  | evap => exact tracks_takeEvapReport a body s
  | probe => exact tracks_takeProbeReport a body s

/-! ### Settings (StoreOps.lean) -/

theorem sameTable_modSlot_empty (d : DoorId) (s : Part) : SameTable s (modSlot d (fun _ => emptySlot) s) := by
  refine ⟨rfl, rfl, fun k x => ?_⟩
  by_cases hx : x = d
  · subst hx; rw [modSlot_get]; exact List.nodup_nil
  · rw [modSlot_get_ne _ _ hx]; exact k x

theorem sameTable_dockEnters (d : DoorId) (s : Part) : SameTable s (dockEnters d s) := by
  unfold dockEnters; dsimp only
  exact (SameTable.of_only (modDock_only d _ s) rfl).trans (sameTable_modSlot_empty d _)

theorem tracks_dockWritten (d : DoorId) (o x : DockCfg) (k : Tracks u s) : Tracks u (dockWritten d o x s) := by
  unfold dockWritten
  repeat' split
  · exact k.beside (sameTable_dockEnters d s)
  · exact .of_only (dockLeaves_only ..) rfl k
  · exact k

theorem tracks_applyRecord (r : Record) (s : Part) : Tracks s (applyRecord r s) := by
  have put : Tracks s (putCfg r s) := .of_only (putCfg_only r s) rfl (.refl s)
  unfold applyRecord; dsimp only; split
  · exact .of_only (stationWritten_only ..) rfl put
  · exact .of_only (zoneWritten_only ..) rfl put
  · exact .of_only (probeWritten_only ..) rfl put
  · exact tracks_dockWritten _ _ _ put
  · exact .of_only (portalWritten_only ..) rfl (.refl s)
  · exact .of_only (evapWritten_only ..) rfl put
  all_goals exact put

theorem tracks_takeWrite (p : Port) (tag : Byte) (w : Written) (s : Part) : Tracks s (takeWrite p tag w s).1 := by
  unfold takeWrite acceptRecord; split
  · exact .refl s
  · exact .of_only (acceptWrite_only ..) rfl (tracks_applyRecord _ s)

end Tracks

end Sys2Proof.Machine
end

section
/-! Requests and expiries that leave the pallet table alone (O54, O57): each changes groups of records other than pallets, credits and
slots, by what its shared operations may change. -/

namespace Sys2Proof.Machine

open Sys2Proof

/-- Every group but the slots, the pallets and the credits. -/
abbrev offTable : List Group :=
  [.supply, .cause, .time, .cfg, .store, .loop, .zones, .probes, .docks, .portals, .evaps, .batches, .heatSlots, .alarms, .ports]

section OffTable

variable {s t : Part}

theorem SameTable.of_within {gs : List Group} (h : Within gs s t)
    (c : (gs.contains .pallets || gs.contains .credits || gs.contains .slots) = false) : SameTable s t := by
  simp only [Bool.or_eq_false_iff, List.contains_eq_mem, decide_eq_false_iff_not] at c
  obtain ⟨⟨cp, cc⟩, cs⟩ := c
  exact .of_slots (h .pallets cp) (h .credits cc) (h .slots cs)

/-! ### Zones -/

theorem zoneBulk_only (z : ZoneId) (s : Part) : Only offTable s (zoneBulk z s).1 := by
  unfold zoneBulk enterBulk; (repeat' split) <;> simp (maxDischargeDepth := 12) [covers]

theorem zoneBulkRelease_only (z : ZoneId) (s : Part) : Only offTable s (zoneBulkRelease z s).1 := by
  unfold zoneBulkRelease; (repeat' split) <;> simp (maxDischargeDepth := 12) [covers]

theorem zonePulldown_only (z : ZoneId) (s : Part) : Only offTable s (zonePulldown z s).1 := by
  unfold zonePulldown enterDraining; split <;> simp (maxDischargeDepth := 12) [covers]

theorem zoneRelease_only (z : ZoneId) (s : Part) : Only offTable s (zoneRelease z s).1 := by
  unfold zoneRelease releaseZone; split <;> simp (maxDischargeDepth := 12) [covers]

/-! ### Doors -/

theorem claimDock_only (x : ClaimReq) (d : DoorId) (s : Part) : Only offTable s (claimDock x d s).1 := by
  refine revisionOr_part (.refl _ s) ?_
  split <;> simp (maxDischargeDepth := 12) [covers]

theorem sameTable_unclaimDock (n : Nat) (d : DoorId) (s : Part) : SameTable s (unclaimDock n d s).1 := by
  refine revisionOr_part (.refl s) ?_
  have ended : SameTable s (okDockRevision d (emptySlotAt d (claimEnded d s))).1 :=
    SameTable.trans (.of_only (claimEnded_only d s) rfl) (sameTable_emptySlotAt d _)
  repeat' split
  · exact .refl s
  · exact .refl s
  · exact .refl s
  · exact ended
  · exact .refl s
  · exact ended

theorem holdDoor_only (x : DoorRef × Nat) (s : Part) : Only offTable s (holdDoor x s).1 := by
  unfold holdDoor; split
  · refine revisionOr_part (.refl _ s) ?_
    unfold holdDock; split <;> simp (maxDischargeDepth := 12) [covers]
  · refine revisionOr_part (.refl _ s) ?_
    unfold holdPortal; split
    · exact .refl _ s
    · exact .refl _ s
    · exact .refl _ s
    · exact trackPortal_only (f := portalHeld _) ((portalHeld_only _ s).mono rfl) rfl

theorem unholdDoor_only (x : DoorRef × Nat) (s : Part) : Only offTable s (unholdDoor x s).1 := by
  unfold unholdDoor; split
  · refine revisionOr_part (.refl _ s) ?_
    unfold unholdDock; split <;> simp (maxDischargeDepth := 12) [covers]
  · refine revisionOr_part (.refl _ s) ?_
    unfold unholdPortal unholdBulk; split <;> simp (maxDischargeDepth := 12) [covers]

theorem inflate_only (x : DockState) (d : DoorId) (s : Part) : Only offTable s (inflate x d s).1 := by
  unfold inflate; dsimp only; (repeat' split) <;> simp (maxDischargeDepth := 12) [covers]

theorem releaseDock_only (b : Bool) (d : DoorId) (s : Part) : Only offTable s (releaseDock b d s).1 := by
  unfold releaseDock; dsimp only; (repeat' split) <;> simp (maxDischargeDepth := 12) [covers]

theorem openDock_only (d : DoorId) (s : Part) : Only offTable s (openDock d s).1 := by
  have asked : Only offTable s (askDock d .openDoor s).2 := by
    unfold askDock; dsimp only; split <;> simp (maxDischargeDepth := 12) [covers]
  unfold openDock; dsimp only; split
  · exact .refl _ s
  · split <;> exact asked

theorem closeDoor_only (x : DoorRef) (s : Part) : Only offTable s (closeDoor x s).1 := by
  unfold closeDoor; dsimp only; (repeat' split) <;> simp (maxDischargeDepth := 12) [covers]

theorem openTimeout_only (d : DoorId) (s : Part) : Only offTable s (openTimeout d s) := by
  unfold openTimeout; dsimp only; split <;> simp (maxDischargeDepth := 12) [covers]

/-! ### Defrost -/

theorem defrostRequest_only (es : List EvapId) (s : Part) : Only offTable s (defrostRequest es s).1 := by
  have joined (x : Part × Nat) (hx : Only offTable s x.1) : Only offTable s (es.foldl requestDefrost x).1 := by
    induction es generalizing x with
    | nil => exact hx
    | cons e es ih =>
      refine ih _ (hx.trans ?_)
      unfold requestDefrost; split <;> simp (maxDischargeDepth := 12) [covers]
  exact joined (s, 0) (.refl _ s)

theorem formForced_only (z : ZoneId) (s : Part) : Only offTable s (formForced z s) := by
  unfold formForced; dsimp only; split <;> simp (maxDischargeDepth := 12) [covers]

theorem forceDefrost_only (z : ZoneId) (s : Part) : Only offTable s (forceDefrost z s).1 := by
  have waits (t : Part) : Only offTable t (enterForceWait z (formForced z t)) := by
    refine (formForced_only z t).trans ?_
    unfold enterForceWait; simp (maxDischargeDepth := 12) [covers]
  unfold forceDefrost; dsimp only
  repeat' split
  · exact .refl _ s
  · exact .refl _ s
  · exact .refl _ s
  · exact .trans ((bulkToOpen_only ..).mono rfl) (waits _)
  · exact waits s

theorem cancelDefrost_only (z : ZoneId) (s : Part) : Only offTable s (cancelDefrost z s).1 := by
  unfold cancelDefrost; (repeat' split) <;> simp (maxDischargeDepth := 12) [covers]

theorem sameTable_setHeatSlots (n : Nat) (s : Part) : SameTable s (setHeatSlots n s).1 := by
  have commanded : SameTable s { s with heatCommanded := min n 8 } := .of_slots rfl rfl rfl
  unfold setHeatSlots; dsimp only [reply_part]; split
  · exact commanded
  · exact commanded.trans (.of_only (setInForce_only ..) rfl)

theorem heatTimeout_only (e : EvapId) (s : Part) : Only offTable s (heatTimeout e s) := by
  unfold heatTimeout; simp (maxDischargeDepth := 12) [covers]

theorem enterRefreeze_only (z : ZoneId) (s : Part) : Only offTable s (enterRefreeze z s) := by
  unfold enterRefreeze; split <;> simp (maxDischargeDepth := 12) [covers]

theorem refreezeTimeout_only (z : ZoneId) (s : Part) : Only offTable s (refreezeTimeout z s) := by
  unfold refreezeTimeout; split <;> simp (maxDischargeDepth := 12) [covers]

/-! ### Alarms, ports and the store -/

theorem ackAlarm_only (p : Port) (a : Alarm) (s : Part) : Only [.alarms, .ports] s (ackAlarm p a s) := by
  unfold ackAlarm; split <;> simp [covers]

theorem sameTable_ackOne (p : Port) (n r l : Nat) (s : Part) : SameTable s (ackOne p n r l s).1 := by
  unfold ackOne
  repeat' split
  · exact .refl s
  · exact .refl s
  · exact .refl s
  · rw [reply_part]
    exact .of_only (gs := [.alarms, .ports]) (onlyIf_only ((ackAlarm_only ..).trans ((countChange_only _).mono rfl))) rfl

theorem sameTable_ackAll (p : Port) (s : Part) : SameTable s (ackAll p s).1 := by
  refine .of_only (gs := [.alarms, .ports]) ?_ rfl
  exact (forList_only (ackAlarm_only p) _ s).trans (onlyIf_only ((countChange_only _).mono rfl))

theorem sameTable_fetchNotices (p : Port) (n : Nat) (s : Part) : SameTable s (fetchNotices p n s).1 := by
  unfold fetchNotices; split
  · exact .of_within (modPort_within p _ s) rfl
  · exact .refl s

theorem sameTable_bankWriteEnds (m : Bool) (s : Part) : SameTable s (bankWriteEnds m s) := by
  have completed (op : WriteOp) (st : Status) {t : Part} (h : SameTable s t) : SameTable s (startWaiting (completeOp op st t)) :=
    (h.trans (.of_within (completeOp_within op st t) rfl)).trans (.of_within (startWaiting_within _) rfl)
  unfold bankWriteEnds
  repeat' split
  · exact .refl s
  · exact .refl s
  · exact completed _ _ (.of_slots rfl rfl rfl)
  · exact completed _ _ (.of_slots rfl rfl rfl)
  · exact .of_slots rfl rfl rfl

theorem sameTable_takeLockout (p : Port) (tag : Byte) (x : LockTarget) (b : Bool) (s : Part) :
    SameTable s (takeLockout p tag x b s).1 := by
  unfold takeLockout; dsimp only; split
  · exact .refl s
  · exact SameTable.trans (.of_only (lockedPart_only x b s) rfl) (.of_only (acceptWrite_only ..) rfl)

end OffTable

end Sys2Proof.Machine
end

section
/-! Every step keeps the pallet table sound (O54: R107, R119) and the quarantined pallets from the doors (O57: R112, R118, R139). -/

namespace Sys2Proof.Machine

open Sys2Proof

/-- A sound table stays sound, and quarantined pallets stay kept from the doors. -/
structure TableKept (s t : Part) : Prop where
  sound : tableSound s → tableSound t
  kept : palletsUnique s → quarantineKept s → quarantineKept t

section Kept

variable {s t u : Part}

theorem Tallies.tableKept (h : Tallies s t) : TableKept s t := ⟨h.sound, h.kept⟩

theorem Tracks.tableKept (h : Tracks s t) : TableKept s t := h.tallies.tableKept

theorem SameTable.tableKept (h : SameTable s t) : TableKept s t := h.tallies.tableKept

theorem TableKept.refl (s : Part) : TableKept s s := (Tracks.refl s).tableKept

theorem TableKept.trans_same (h : TableKept s t) (same : SameTable t u) : TableKept s u :=
  ⟨fun k => same.tallies.sound (h.sound k), fun k g => by rw [quarantineKept, same.pallets]; exact h.kept k g⟩

theorem SameTable.trans_kept (same : SameTable s t) (h : TableKept t u) : TableKept s u :=
  ⟨fun k => h.sound (same.tallies.sound k), fun k g => h.kept (same.tallies.unique k) (same.tallies.kept k g)⟩

theorem TableKept.of_only {gs : List Group} (h : Only gs s t)
    (c : (gs.contains .pallets || gs.contains .credits || gs.contains .slots) = false) : TableKept s t :=
  (SameTable.of_only h c).tableKept

theorem TableKept.of_slots (pallets : t.pallets = s.pallets) (credits : t.credits = s.credits) (slots : t.slots = s.slots) :
    TableKept s t := (SameTable.of_slots pallets credits slots).tableKept

theorem tableKept_ite {c : Prop} [Decidable c] (h : TableKept s t) : TableKept s (if c then t else s) := by
  split
  · exact h
  · exact .refl s

/-! ### Requests (R185) -/

theorem sameTable_renew (p : Port) (s : Part) : SameTable s (renew p s) := .of_within (renew_within p s) rfl

theorem sameTable_modPort (p : Port) (f : PortRec → PortRec) (s : Part) : SameTable s (modPort p f s) :=
  .of_within (modPort_within p f s) rfl

theorem sameTable_respond (p : Port) (code : Nat) (tag : Byte) (st : Status) (body : List Byte) (s : Part) :
    SameTable s (respond p code tag st body s) := .of_within (respond_within p code tag st body s) rfl

theorem sameTable_answer (p : Port) (code : Nat) (tag : Byte) (r : Reply) : SameTable r.1 (answer p code tag r) := by
  unfold answer; split
  · exact sameTable_respond ..
  · exact sameTable_modPort ..

theorem tableKept_serve {code : Nat} {role : Option Port} {p : Port} {tag : Byte} {h : Part → Reply}
    (hh : ∀ t, TableKept t (h t).1) (s : Part) : TableKept s (serve code role p tag h s) := by
  have renewed := sameTable_renew p s
  unfold serve; dsimp only
  repeat' split
  · exact (renewed.trans (sameTable_respond ..)).tableKept
  · exact (renewed.trans (sameTable_respond ..)).tableKept
  · exact renewed.trans_kept ((hh _).trans_same (sameTable_answer ..))
  · exact .refl s

theorem tableKept_whileRunning {f : Part → Part} (h : ∀ t, TableKept t (f t)) (s : Part) : TableKept s (whileRunning f s) := by
  unfold whileRunning; split
  · exact h s
  · exact .refl s

/-- A request that names a pallet hands its handler the record of that identifier. -/
theorem palletRequest_found {P : Part → Prop} {body : List Byte} {h : Pallet → Part → Reply} (hs : P s)
    (hh : ∀ p, findPallet s p.id = some p → P (h p s).1) : P (palletRequest body h s).1 :=
  withBody_part hs fun id => by
    split
    · exact hs
    · split
      · next p found => exact hh p ((findPallet_id found).2 ▸ found)
      · exact hs

theorem tracks_moveRequest (id : Nat) (e : Dest) (s : Part) : Tracks s (moveRequest id e s).1 := by
  unfold moveRequest
  repeat' split
  · exact .refl s
  · exact .refl s
  · exact .refl s
  · exact .refl s
  · next p found _ granted => exact (Tracks.refl s).granted p e ((findPallet_id found).2 ▸ found) granted

theorem tracks_cancelMove (p : Pallet) (s : Part) : Tracks s (cancelMove p s).1 := by
  have ended := (Tracks.refl s).ended p.id (some (NoticeBody.moveCancelled · .request))
  unfold cancelMove; dsimp only; split
  · exact ended
  · exact ended

theorem tableKept_commitManifest (d : DoorId) (s : Part) : TableKept s (commitManifest d s).1 :=
  ⟨commitManifest_sound d, fun _ => commitManifest_kept d⟩

theorem sameTable_becomeSilent (p : Port) (s : Part) : SameTable s (becomeSilent p s) := by
  refine (sameTable_modPort p (fun r => { r with silent := true, supervisionDl := none }) s).trans (.of_only (gs := offTable) ?_ rfl)
  unfold becomeSilent; dsimp only; split <;> simp (maxDischargeDepth := 12) [covers]

/-! ### Commands -/

theorem tableKept_request {c : Instr} {s : State} {code : Nat} {role : Option Port} {p : Port} {tag : Byte} {h : Part → Reply}
    (e : exec c s = command (serve code role p tag h) s) (hh : ∀ t, TableKept t (h t).1) :
    ∃ t, exec c s = .next t ∧ TableKept (cleared s) t.part := ⟨_, e, tableKept_serve hh _⟩

theorem tableKept_event {c : Instr} {s : State} {f : Part → Part} (e : exec c s = command (whileRunning f) s)
    (h : ∀ t, TableKept t (f t)) : ∃ t, exec c s = .next t ∧ TableKept (cleared s) t.part := ⟨_, e, tableKept_whileRunning h _⟩

/-- Every request, report, poll and expiry keeps the table. -/
theorem exec_tableKept (c : Instr) (hc : isSupplyEvent c = false) (s : State) :
    ∃ t, exec c s = .next t ∧ TableKept (cleared s) t.part := by
  cases c with
  | supplyFall | supplyRise | dipFilterExpiry | rideThroughLimit | warmRestart | coldStart | resetAssert | resetRelease
  | deviceTimeTick => cases hc
  | unknownRequestCode p code tag body => exact tableKept_request rfl fun t => .refl t
  | ping p tag body | readSettings p tag body | readStation p tag body | readStaging p tag body | readAlarms p tag body =>
    exact tableKept_request rfl fun t => withBody_part (.refl t) fun _ => .refl t
  | readZone p tag body | readDefrost p tag body =>
    exact tableKept_request rfl fun t => zoneRequest_part (.refl t) fun _ => .refl t
  | readDoor p tag body =>
    exact tableKept_request rfl fun t => doorRequest_part (.refl t) fun _ => .refl t
  | readManifest p tag body =>
    exact tableKept_request rfl fun t => manifestRequest_part (.refl t) fun _ _ => .refl t
  | readPallet p tag body =>
    exact tableKept_request rfl fun t => palletRequest_part (.refl t) fun _ => .refl t
  | findPallets p tag body | readEvaporator p tag body =>
    exact tableKept_request rfl fun t => withBody_part (.refl t) fun _ => inServiceOr_part (.refl t) (.refl t)
  | ackAlarm p tag body =>
    refine tableKept_request rfl fun t => withBody_part (.refl t) fun x => ?_
    cases x with
    | one n r l => exact (sameTable_ackOne p n r l t).tableKept
    | all => exact (sameTable_ackAll p t).tableKept
  | fetchNotices p tag body =>
    exact tableKept_request rfl fun t => withBody_part (.refl t) fun n => (sameTable_fetchNotices p n t).tableKept
  | writeSettings p tag body =>
    exact tableKept_request rfl fun t => withBody_part (.refl t) fun w => (tracks_takeWrite p tag w t).tableKept
  | lockout p tag body =>
    exact tableKept_request rfl fun t => withBody_part (.refl t) fun x => (sameTable_takeLockout p tag x.1 x.2 t).tableKept
  | zoneBulk p tag body =>
    exact tableKept_request rfl fun t => zoneRequest_part (.refl t) fun z => .of_only (zoneBulk_only z t) rfl
  | zoneBulkRelease p tag body =>
    exact tableKept_request rfl fun t => zoneRequest_part (.refl t) fun z => .of_only (zoneBulkRelease_only z t) rfl
  | zonePulldown p tag body =>
    exact tableKept_request rfl fun t => zoneRequest_part (.refl t) fun z => .of_only (zonePulldown_only z t) rfl
  | zoneRelease p tag body =>
    exact tableKept_request rfl fun t => zoneRequest_part (.refl t) fun z => .of_only (zoneRelease_only z t) rfl
  | forceDefrost p tag body =>
    exact tableKept_request rfl fun t => zoneRequest_part (.refl t) fun z => .of_only (forceDefrost_only z t) rfl
  | cancelDefrost p tag body =>
    exact tableKept_request rfl fun t => zoneRequest_part (.refl t) fun z => .of_only (cancelDefrost_only z t) rfl
  | claimDoor p tag body =>
    exact tableKept_request rfl fun t => doorRequest_part (.refl t) fun x =>
      dockOnly_part (.refl t) fun d => .of_only (claimDock_only x d t) rfl
  | unclaimDoor p tag body =>
    exact tableKept_request rfl fun t => doorRequest_part (.refl t) fun x =>
      dockOnly_part (.refl t) fun d => (sameTable_unclaimDock x.2 d t).tableKept
  | holdDoor p tag body =>
    exact tableKept_request rfl fun t => doorRequest_part (.refl t) fun x => .of_only (holdDoor_only x t) rfl
  | unholdDoor p tag body =>
    exact tableKept_request rfl fun t => doorRequest_part (.refl t) fun x => .of_only (unholdDoor_only x t) rfl
  | sealDoor p tag body | reseal p tag body =>
    exact tableKept_request rfl fun t => doorRequest_part (.refl t) fun _ =>
      dockOnly_part (.refl t) fun d => .of_only (inflate_only _ d t) rfl
  | releaseDoor p tag body =>
    exact tableKept_request rfl fun t => doorRequest_part (.refl t) fun x =>
      dockOnly_part (.refl t) fun d => .of_only (releaseDock_only x.2 d t) rfl
  | openDoor p tag body =>
    exact tableKept_request rfl fun t => doorRequest_part (.refl t) fun _ =>
      dockOnly_part (.refl t) fun d => .of_only (openDock_only d t) rfl
  | closeDoor p tag body =>
    exact tableKept_request rfl fun t => doorRequest_part (.refl t) fun x => .of_only (closeDoor_only x t) rfl
  | manifestBegin p tag body =>
    exact tableKept_request rfl fun t => manifestRequest_part (.refl t) fun x d =>
      (sameTable_beginManifest x.2.1 x.2.2 d t).tableKept
  | manifestEntry p tag body =>
    refine tableKept_request rfl fun t => manifestRequest_part (.refl t) fun x d => ?_
    split
    · exact (sameTable_takeEntry _ d t).tableKept
    · exact .refl t
  | manifestCommit p tag body =>
    exact tableKept_request rfl fun t => manifestRequest_part (.refl t) fun _ d => tableKept_commitManifest d t
  | manifestClear p tag body =>
    exact tableKept_request rfl fun t => manifestRequest_part (.refl t) fun _ d => (sameTable_clearManifest d t).tableKept
  | move p tag body =>
    exact tableKept_request rfl fun t => withBody_part (.refl t) fun x => (tracks_moveRequest x.1 x.2 t).tableKept
  | cancelMove p tag body =>
    exact tableKept_request rfl fun t => palletRequest_part (.refl t) fun x => (tracks_cancelMove x t).tableKept
  | removePallet p tag body =>
    exact tableKept_request rfl fun t => palletRequest_found (.refl t) fun x found => ((Tracks.refl t).removed x found).tableKept
  | defrostRequest p tag body =>
    exact tableKept_request rfl fun t => withBody_part (.refl t) fun es => .of_only (defrostRequest_only es t) rfl
  | setHeatSlots p tag body =>
    exact tableKept_request rfl fun t => withBody_part (.refl t) fun n => (sameTable_setHeatSlots n t).tableKept
  | bankWriteComplete m => exact tableKept_event rfl fun t => (sameTable_bankWriteEnds m t).tableKept
  | frameDiscarded p arrived => exact tableKept_event rfl fun t => (sameTable_modPort ..).tableKept
  | receiverGapTimeout p arrived ms =>
    exact tableKept_event rfl fun t => ((sameTable_modPort ..).trans (sameTable_modPort ..)).tableKept
  | reportWindowExpiry => exact tableKept_event rfl fun t => .of_only (missInFlight_only t) rfl
  | badReport bytes =>
    refine tableKept_event rfl fun t => ?_
    cases readReport bytes with
    | some f => exact (tracks_takeReport f t).tableKept
    | none => exact .of_only (missInFlight_only t) rfl
  | poll =>
    refine tableKept_event rfl fun t => ?_
    split
    · exact .of_slots rfl rfl rfl
    · exact .refl t
  | dockReport a body => exact tableKept_event rfl fun t => (tracks_takeDockReport a body t).tableKept
  | portalReport a body => exact tableKept_event rfl fun t => (tracks_takePortalReport a body t).tableKept
  | evapReport a body => exact tableKept_event rfl fun t => (tracks_takeEvapReport a body t).tableKept
  | probeReport a body => exact tableKept_event rfl fun t => (tracks_takeProbeReport a body t).tableKept
  | supervisionDeadline p =>
    exact tableKept_event rfl fun t => tableKept_ite (sameTable_becomeSilent p t).tableKept
  | roundStart x =>
    exact tableKept_event rfl fun t => tableKept_ite (.of_slots rfl rfl rfl)
  | freshnessExpiry x | staleHoldOffExpiry x | warmDeadlineExpiry x | recoveryDeadlineExpiry x | bulkDeadlineExpiry x
  | travelDeadlineExpiry x | portalTravelDeadlineExpiry x | grantDeadlineExpiry x | backstopDeadlineExpiry x
  | overdueDeadlineExpiry x | gatherWindowExpiry x | pumpdownDeadlineExpiry x | suspensionDeadlineExpiry x =>
    exact tableKept_event rfl fun t => tableKept_ite (.of_only (gs := offTable) (by simp (maxDischargeDepth := 8) [covers]) rfl)
  | zoneExposureIntervalExpiry z =>
    exact tableKept_event rfl fun t => tableKept_ite (Tracks.tableKept
      (.of_only (settleZoneDoors_only ..) rfl (tracks_updateAt _ (.of_only (modZone_only ..) rfl (.refl t)))))
  | doorExposureIntervalExpiry d =>
    exact tableKept_event rfl fun t => tableKept_ite (Tracks.tableKept
      (tracks_updateAt _ (.of_only (modDock_only ..) rfl (.refl t))))
  | entryDeadlineExpiry d =>
    exact tableKept_event rfl fun t => tableKept_ite (sameTable_faultSlot ..).tableKept
  | moveExpiry id =>
    exact tableKept_event rfl fun t => tableKept_ite ((Tracks.refl t).ended id (some .moveExpired)).tableKept
  | sealDeadlineExpiry d => exact tableKept_event rfl fun t => tableKept_ite (.of_only (sealTimeout_only d t) rfl)
  | openDeadlineExpiry d => exact tableKept_event rfl fun t => tableKept_ite (.of_only (openTimeout_only d t) rfl)
  | heatDeadlineExpiry e => exact tableKept_event rfl fun t => tableKept_ite (.of_only (heatTimeout_only e t) rfl)
  | dripDeadlineExpiry z => exact tableKept_event rfl fun t => tableKept_ite (.of_only (enterRefreeze_only z t) rfl)
  | refreezeMaximumExpiry z => exact tableKept_event rfl fun t => tableKept_ite (.of_only (refreezeTimeout_only z t) rfl)

/-! ### The supply events -/

/-- A part without pallets and with empty slots is sound as it stands. -/
theorem tableSound_empty (pallets : s.pallets = []) (credits : s.credits = 0) (slots : s.slots = table 24 fun _ => emptySlot) :
    tableSound s := by
  refine tableSound_iff.mpr ⟨?_, ?_, fun d => ?_, ?_⟩
  · rw [palletsUnique, pallets]; exact List.Pairwise.nil
  · rw [pallets]; simp
  · rw [slots, table_get]; exact List.nodup_nil
  · rw [credits, pallets]; rfl

theorem quarantineKept_empty (pallets : s.pallets = []) : quarantineKept s := by rw [quarantineKept, pallets]; simp

theorem tableKept_lostPart (s : Part) (u : Supply) (b1 b2 : Bank) : TableKept s (lostPart u b1 b2) :=
  ⟨fun _ => tableSound_empty rfl rfl rfl, fun _ _ => quarantineKept_empty rfl⟩

theorem tableKept_coldStart (c : Cause) (s u : Part) : TableKept s (coldStart c u) :=
  ⟨fun _ => tableSound_empty rfl rfl rfl, fun _ _ => quarantineKept_empty rfl⟩

theorem tracks_warmRestart (dip : Nat) (s : Part) : Tracks s (warmRestart dip s) := by
  rw [warmRestart_takenUp]
  have kept : SameTable s (resumed dip s) := .of_within (resumed_within dip s) rfl
  exact tracks_updateAll ((Tracks.refl s).beside (kept.trans (.of_only (takenUp_only dip s) rfl)))

theorem tableKept_command {f : Part → Part} (h : ∀ t, TableKept t (f t)) (s : State) :
    ∃ t, command f s = .next t ∧ TableKept (cleared s) t.part := ⟨_, rfl, h _⟩

theorem tableKept_modSupply (f : Supply → Supply) (s : Part) : TableKept s (modSupply f s) :=
  .of_slots rfl rfl rfl

/-- Every supply event keeps the table: a start leaves it empty, a warm restart settles it, and the rest leave it alone. -/
theorem supplyEvent_tableKept (c : Instr) (hc : isSupplyEvent c = true) (s : State) :
    ∃ t, exec c s = .next t ∧ TableKept (cleared s) t.part := by
  cases c with
  | supplyFall ms => exact tableKept_command (fun t => tableKept_modSupply _ t) s
  | supplyRise ms => exact tableKept_command (fun t => tableKept_modSupply _ t) s
  | dipFilterExpiry ms =>
    unfold exec execDipFilterExpiry
    refine tableKept_command (fun t => tableKept_ite ?_) s
    dsimp only; split
    · exact .of_slots rfl rfl rfl
    · exact tableKept_modSupply _ t
  | rideThroughLimit ms => exact tableKept_command (fun t => tableKept_ite (tableKept_lostPart t ..)) s
  | warmRestart ms =>
    unfold exec execWarmRestart
    refine tableKept_command (fun t => tableKept_ite ?_) s
    split
    · exact (tracks_warmRestart _ t).tableKept
    · exact tableKept_modSupply _ t
  | coldStart ms =>
    unfold exec execColdStart
    refine tableKept_command (fun t => ?_) s
    dsimp only
    repeat' split
    · exact .refl t
    · exact tableKept_coldStart ..
    · exact tableKept_coldStart ..
    · exact .refl t
  | resetAssert => exact tableKept_command (fun t => tableKept_lostPart t ..) s
  | resetRelease ms =>
    unfold exec execResetRelease
    refine tableKept_command (fun t => tableKept_ite ?_) s
    dsimp only; split
    · exact tableKept_coldStart ..
    all_goals exact .of_slots rfl rfl rfl
  | deviceTimeTick =>
    unfold exec execDeviceTimeTick
    refine tableKept_command (fun t => ?_) s
    split
    · exact .refl t
    · exact .of_slots rfl rfl rfl
  | _ => cases hc

end Kept

/-! ### Every step -/

theorem step_tableKept {s t : State} (h : step s = .next t) : TableKept s.part t.part := by
  unfold step at h; split at h
  · cases h; exact .refl _
  · next c rest _ =>
    obtain ⟨t', ht', kept⟩ : ∃ t, exec c { s with pending := rest } = .next t ∧ TableKept (cleared s) t.part := by
      by_cases hc : isSupplyEvent c = true
      · exact supplyEvent_tableKept c hc { s with pending := rest }
      · exact exec_tableKept c (by simpa using hc) { s with pending := rest }
    rw [ht'] at h
    cases h
    exact (SameTable.of_slots rfl rfl rfl : SameTable s.part (cleared s)).trans_kept kept

/-- Settles O54: every operation on the table keeps identifiers, marks and credits right, and every command is made of such operations. -/
theorem creditsInUseMatchTheTable : Obligations.CreditsInUseMatchTheTable :=
  fun _ _ sound h => (step_tableKept h).sound sound

/-- Settles O57: every operation on the table keeps quarantined pallets from the doors. -/
theorem quarantinedPalletsNeverMoveToADoor : Obligations.QuarantinedPalletsNeverMoveToADoor :=
  fun _ _ unique kept h => (step_tableKept h).kept unique kept

end Sys2Proof.Machine
end

section
/-! The state after reset (O59), and check 4 of MOVE (O45: R112). -/

namespace Sys2Proof.Machine

open Sys2Proof

/-! ### The state after reset -/

theorem reset_not_heating (e : EvapId) : (State.reset.part.evaps.get e).sub ≠ .heating := by
  rw [reset_evap]
  exact SubState.noConfusion

theorem reset_heatingCount : heatingCount State.reset.part = 0 :=
  List.length_eq_zero_iff.mpr (List.filter_eq_nil_iff.mpr fun e _ => by simp [reset_not_heating e])

/-- Settles O59: the first cold start has empty tables, one notice in each queue, a relay at rest, and no evaporator that heats. -/
theorem resetIsSafe : Obligations.ResetIsSafe where
  queues := ⟨show 1 ≤ queueDepth by decide, show 1 ≤ queueDepth by decide⟩
  alarms := ⟨Nat.zero_le _, List.nodup_nil, List.nodup_nil, fun _ h => absurd h List.not_mem_nil⟩
  relay := rfl
  supply := ⟨fun _ => rfl, fun _ => .inl rfl⟩
  table := tableSound_empty rfl rfl rfl
  quarantine := quarantineKept_empty rfl
  heat := reset_heatingCount.trans_le (Nat.zero_le _)
  members := membersOwn_none rfl

/-! ### Check 4 of MOVE -/

section Route

variable {s : Part} {x : Pallet} {e : Dest}

/-- A record with STORE or QUARANTINE in its snapshot goes to the hall or to the zone the snapshot names. -/
theorem routeAgrees_zone {z : ZoneId} (clear : x.quarantined = false)
    (route : x.route.action = .store z ∨ x.route.action = .quarantine z) : routeAgrees x e = true ↔ e = .hall ∨ e = .zone z := by
  cases e with
  | hall => simp [routeAgrees]
  | door d => obtain h | h := route <;> simp [routeAgrees, clear, h]
  | zone y => obtain h | h := route <;> simp [routeAgrees, clear, h]

theorem routeAgrees_cross (clear : x.quarantined = false) (route : x.route.action = .cross) :
    routeAgrees x e = true ↔ e = .hall ∨ ∃ d, e = .door d := by
  cases e <;> simp [routeAgrees, clear, route]

theorem routeAgrees_held (held : x.quarantined = true) : routeAgrees x e = true ↔ e = .hall ∨ e = .zone x.route.quarantineZone := by
  cases e <;> simp [routeAgrees, held]

/-- A quarantined pallet is refused a move toward a dock door, by check 4 or by one before it. -/
theorem moveRequest_quarantined {id : Nat} {d : DoorId} (found : findPallet s id = some x) (held : x.quarantined = true) :
    (moveRequest id (.door d) s).1 = s := by
  have refused : moveRefusal s x (.door d) ≠ none := fun granted => by
    obtain ⟨-, -, route, -⟩ := moveRefusal_eq_none.mp granted
    exact Bool.false_ne_true ((routeAgrees_quarantined held).symm.trans route)
  unfold moveRequest
  rw [found]
  dsimp only
  repeat' split
  · rfl
  · rfl
  · rfl
  · exact absurd ‹_› refused

/-- A request whose handler leaves the pallets leaves them, whatever becomes of it. -/
theorem serve_pallets {code : Nat} {role : Option Port} {p : Port} {tag : Byte} {h : Part → Reply}
    (kept : (h (renew p s)).1.pallets = s.pallets) : (serve code role p tag h s).pallets = s.pallets := by
  have renewed := sameTable_renew p s
  unfold serve; dsimp only
  repeat' split
  · exact (renewed.trans (sameTable_respond ..)).pallets
  · exact (renewed.trans (sameTable_respond ..)).pallets
  · exact (sameTable_answer ..).pallets.trans kept
  · rfl

end Route

/-- Settles O45: check 4 by the snapshot's action and the quarantined mark, and the request of a quarantined pallet toward a door. -/
theorem routeCheckFollowsTheSnapshot : Obligations.RouteCheckFollowsTheSnapshot := by
  refine fun x => ⟨fun clear z e route => routeAgrees_zone clear (.inl route), fun clear e route => routeAgrees_cross clear route,
    fun clear z e route => routeAgrees_zone clear (.inr route), fun held e => routeAgrees_held held, ?_⟩
  intro s tag body id d t read found held h
  cases h
  refine serve_pallets ?_
  have found' : findPallet (renew .warehouse (cleared s)) id = some x := by rw [findPallet, renew_pallets]; exact found
  rw [read]
  exact (congrArg Part.pallets (moveRequest_quarantined found' held)).trans (renew_pallets ..)

end Sys2Proof.Machine
end

section
/-! MOVE (O43: R111, R114, R120): its checks in order, its grant, and what the OK says of the path. -/

namespace Sys2Proof.Machine

open Sys2Proof

section Move

variable {s r : Part} {x : Pallet} {e : Dest} {id : Nat} {st : Status}

/-! ### The checks in order (R111) -/

theorem firstSome_failing (b : Bool) (st : Status) (l : List (Option Status)) :
    firstSome (failing b st :: l) = if b then some st else firstSome l := by cases b <;> rfl

theorem moveRefusal_eq (s : Part) (x : Pallet) (e : Dest) : moveRefusal s x e
    = if ¬ (x.status = .waiting ∨ x.status = .standing) then some .busyState
      else if destOf e = x.loc then some .badRequest
      else if routeAgrees x e = false then some .routeMismatch
      else if ¬ ∀ z ∈ pathZones x.loc e, zoneTakesMoves s z = true then some .zoneClosed
      else (doorTakes s e).or (if creditFree s x.loc = false then some .noCredit else none) := by
  have door (l : List (Option Status)) : firstSome (doorTakes s e :: l) = (doorTakes s e).or (firstSome l) := by
    cases doorTakes s e <;> rfl
  simp [moveRefusal, firstSome_failing, door, firstSome]

/-- Check 7 by the location of the pallet (R120). -/
theorem creditFree_iff {o : Loc} : creditFree r o = true
    ↔ (∀ d, o = .trailer d → r.credits < min r.cfg.staging.inboundLimit (effectiveCapacity r))
      ∧ ∀ z, o = .zone z → r.credits < effectiveCapacity r := by
  cases o with
  | hall => simp [creditFree, creditLimit]
  | trailer d => simp [creditFree, creditLimit, trailerLimit]
  | zone z => simp [creditFree, creditLimit]

theorem moveRequest_zero : moveRequest 0 e r = refuse .badRequest r := rfl

theorem moveRequest_outOfService (hid : id ≠ 0) (out : locInService r (destOf e) = false) : moveRequest id e r = refuse .unknownId r := by
  rw [moveRequest, if_neg hid, if_pos out]

theorem moveRequest_absent (hid : id ≠ 0) (ins : locInService r (destOf e) = true) (absent : ∀ x ∈ r.pallets, x.id ≠ id) :
    moveRequest id e r = refuse .unknownId r := by
  have none_ : findPallet r id = none := List.find?_eq_none.mpr fun x hx => by simpa using absent x hx
  unfold moveRequest
  rw [if_neg hid, if_neg (by simp [ins]), none_]

theorem moveRequest_refused (hid : id ≠ 0) (ins : locInService r (destOf e) = true) (found : findPallet r id = some x)
    (refused : moveRefusal r x e = some st) : moveRequest id e r = refuse st r := by
  unfold moveRequest
  rw [if_neg hid, if_neg (by simp [ins]), found]
  dsimp only
  rw [refused]

theorem moveRequest_granted (hid : id ≠ 0) (ins : locInService r (destOf e) = true) (found : findPallet r id = some x)
    (granted : moveRefusal r x e = none) : moveRequest id e r = moveReply (newMove r x e) (grantMove x e r) := by
  unfold moveRequest
  rw [if_neg hid, if_neg (by simp [ins]), found]
  dsimp only
  rw [granted]

/-! ### The grant (R110, R114) -/

theorem grantMove_only (x : Pallet) (e : Dest) (s : Part) : Only [.pallets, .credits] s (grantMove x e s) :=
  ⟨fun g h => by cases g <;> simp_all [Group.same, grantMove, modPallet], rfl, rfl, rfl⟩

theorem reaches_move {tag : Byte} {body : List Byte} {s : State} (ht : takes .warehouse s) (read : readMove body = some (id, e)) :
    Reaches (.move .warehouse tag body) .warehouse 26 tag s (moveRequest id e) :=
  ⟨ht, some .warehouse, _, by decide, rfl, by rw [read]; rfl⟩

/-- The doors of a location in the OK of a MOVE: the dock door of a trailer, the portals of a zone in ascending number (log 4). -/
theorem endDoors_put (s : Part) (l : Loc) : (endDoors s l).map putDoor
    = match l with
      | .trailer d => [putDoor (.dock d)]
      | .hall => []
      | .zone z => ((List.finRange 12).filter (portalOf s z)).map fun q => putDoor (.portal q) := by
  cases l with
  | trailer d => rfl
  | hall => rfl
  | zone z => exact List.map_map

end Move

/-- Settles O43: the checks in order, each refusal without effect; then the grant. -/
theorem moveIsGrantedByItsChecks : Obligations.MoveIsGrantedByItsChecks := by
  intro s tag body id e ht read r c
  have reaches : Reaches c .warehouse 26 tag s (moveRequest id e) := reaches_move ht read
  refine ⟨fun zero => ?zero, fun hid out => ?out, fun hid ins absent => ?absent, fun x hid ins found => ?found⟩
  case zero => subst zero; exact reaches.reads moveRequest_zero
  case out => exact reaches.reads (moveRequest_outOfService hid out)
  case absent => exact reaches.reads (moveRequest_absent hid ins absent)
  case found =>
    intro free openPath credit
    have refused {st : Status} (h : moveRefusal r x e = some st) : readsOut c .warehouse 26 tag st [] s :=
      reaches.reads (moveRequest_refused hid ins found h)
    refine ⟨fun busy => refused ?_, fun ok here => refused ?_, fun ok away route => refused ?_, fun ok away route closed => refused ?_,
      fun st ok away route open_ door => refused ?_, fun ok away route open_ door full => refused ?_,
      fun ok away route open_ door free_ => ?granted⟩
    · rw [moveRefusal_eq, if_pos busy]
    · rw [moveRefusal_eq, if_neg (not_not.mpr ok), if_pos here]
    · rw [moveRefusal_eq, if_neg (not_not.mpr ok), if_neg away, if_pos route]
    · rw [moveRefusal_eq, if_neg (not_not.mpr ok), if_neg away, if_neg (by simp [route]), if_pos closed]
    · rw [moveRefusal_eq, if_neg (not_not.mpr ok), if_neg away, if_neg (by simp [route]), if_neg (not_not.mpr open_), door]
      rfl
    · have none_ : creditFree r x.loc = false := by
        rw [← Bool.not_eq_true, creditFree_iff]; exact full
      rw [moveRefusal_eq, if_neg (not_not.mpr ok), if_neg away, if_neg (by simp [route]), if_neg (not_not.mpr open_), door, if_pos none_]
      rfl
    case granted =>
      intro m portals doors zones
      have granted : moveRefusal r x e = none :=
        moveRefusal_eq_none.mpr ⟨ok, away, route, open_, door, creditFree_iff.mpr free_⟩
      have created : newMove r x e = m := by rw [newMove, renewed_time]
      have put : (pathDoors (grantMove x e r) x.loc e).map putDoor = doors := by
        rw [pathDoors, List.map_append, endDoors_put, endDoors_put]
        exact congrArg₂ (· ++ ·) (by cases x.loc <;> rfl) (by cases e <;> rfl)
      have answer : moveRequest id e r = reply .ok (putU32 m.expiry ++ putMark m.reserved ++ putU8 doors.length ++ doors.flatten
          ++ putU8 zones.length ++ zones.flatten) (grantMove x e r) := by
        rw [moveRequest_granted hid ins found granted, moveReply, created, ← put, List.length_map]
        simp only [zones, List.length_map]
        rfl
      obtain ⟨t, step, kept, ans, same⟩ := reaches.answers answer (grantMove_only x e r) rfl
      obtain ⟨-, rfl⟩ := findPallet_id found
      refine ⟨t, step, kept, ans, (same .pallets (by simp)).trans ?_, (same .credits (by simp)).trans ?_,
        (grantMove_only x e r).within.trans (same.mono (by simp))⟩
      · rw [← created]; rfl
      · rw [grantMove_credits]; split <;> rfl

end Sys2Proof.Machine
end

section
/-! CANCEL MOVE, the expiry of a move, and REMOVE PALLET (O44: R115 to R117, R129). -/

namespace Sys2Proof.Machine

open Sys2Proof

/-! ### One record replaced, or taken out -/

section Records

variable {r t : Part} {x q : Pallet} {m : Move} {id : Nat} {l : List Pallet}

/-- The table with one record replaced, as a change of the record of the identifier. -/
theorem Carries.replaced {f : Pallet → Pallet} (c : Carries r.pallets id (f x) t) (unique : palletsUnique r)
    (found : findPallet r id = some x) : t.pallets = r.pallets.map fun y => if y.id = id then f y else y := by
  obtain ⟨mem, hid⟩ := findPallet_id found
  refine c.table.trans (List.map_congr_left fun y hy => ?_)
  by_cases h : y.id = id
  · rw [if_pos h, if_pos h, unique.eq_of_id hy mem (h.trans hid.symm)]
  · rw [if_neg h, if_neg h]

theorem Carries.keeps (c : Carries l id q t) {w : Pallet} (hw : w ∈ l) (other : w.id ≠ id) : w ∈ t.pallets := by
  rw [c.table]
  exact List.mem_map.mpr ⟨w, hw, if_neg other⟩

/-- The end of a move in the table and the credits (R115). -/
theorem endMove_ends (unique : palletsUnique r) (found : findPallet r id = some x) (moves : x.move = some m)
    (note : Option (MoveEnd → NoticeBody)) :
    (endMove id note r).pallets
        = r.pallets.map (fun y => if y.id = id then { y with move := none, status := restingStatus r x.loc } else y)
      ∧ (endMove id note r).credits = (if m.reserved then r.credits - 1 else r.credits) := by
  obtain ⟨carried, credits⟩ := endMove_carries (carries_found unique found) moves note
  refine ⟨Carries.replaced (f := fun y => { y with move := none, status := restingStatus r x.loc }) carried unique found, ?_⟩
  rw [credits]; split <;> rfl

/-- REMOVE PALLET of a record that neither moves nor is loaded (R129): what it answers, and the part without the record. -/
theorem removeRecord_rests (unique : palletsUnique r) (found : findPallet r x.id = some x)
    (rests : x.status = .waiting ∨ x.status = .standing) :
    ∃ rest t, removeRecord x r = reply .ok (putLoc x.loc ++ rest) t ∧ Only [.zones, .portals, .pallets, .credits, .alarms, .ports] r t
      ∧ t.pallets.map (·.id) = (r.pallets.map (·.id)).filter (· ≠ x.id) ∧ (∀ y ∈ r.pallets, y.id ≠ x.id → y ∈ t.pallets)
      ∧ (x.move = none → t.credits = (if x.loc = .hall then r.credits - 1 else r.credits)) := by
  have free : ¬ (x.status = .moving ∨ x.status = .loaded) := by obtain h | h := rests <;> simp [h]
  obtain ⟨q, carried, settled⟩ := settlesAt_updatePallet x.id r _ x (carries_found unique found)
  obtain ⟨q', own, removes⟩ := removeRecord_removes free r
  obtain rfl : q' = q := by
    rw [carried.find] at own
    obtain same | ⟨gone, -⟩ := own
    · exact (Option.some_inj.mp same).symm
    · cases gone
  rw [settled.place] at removes
  have left := vacated_only x r
  have pallets : (vacated x r).pallets = (updatePallet x.id r).pallets := left.within .pallets (by decide)
  refine ⟨_, _, removes.trans (by rw [List.append_assoc]),
    ((updatePallet_only x.id r).mono rfl).trans ((left.mono rfl).trans ((dropPallet_only x.id _).mono rfl)), ?_, fun y hy other => ?_,
    fun idle => ?_⟩
  · rw [dropPallet_ids, pallets, carried.ids]
    exact List.filter_congr fun i _ => by rw [decide_not]; rfl
  · rw [dropPallet_pallets, pallets]
    exact List.mem_filter.mpr ⟨carried.keeps hy other, bne_iff_ne.mpr other⟩
  · obtain ⟨-, credits⟩ := settled.idle idle
    show (vacated x r).credits = _
    rw [vacated_credits, credits]
    split <;> rfl

end Records

/-! ### Requests that name a pallet -/

section Requests

variable {r : Part} {x : Pallet} {m : Move} {id : Nat} {body : List Byte} {h : Pallet → Part → Reply}

theorem palletRequest_zero (read : readPalletId body = some 0) : palletRequest body h r = refuse .badRequest r := by
  rw [palletRequest, read]; rfl

theorem palletRequest_absent (read : readPalletId body = some id) (hid : id ≠ 0) (absent : findPallet r id = none) :
    palletRequest body h r = refuse .unknownId r := by
  rw [palletRequest, read, withBody, if_neg hid, absent]

theorem palletRequest_of (read : readPalletId body = some id) (hid : id ≠ 0) (found : findPallet r id = some x) :
    palletRequest body h r = h x r := by
  rw [palletRequest, read, withBody, if_neg hid, found]

theorem cancelMove_idle (found : findPallet r x.id = some x) (idle : x.move = none) :
    cancelMove x r = reply .ok (putLoc x.loc ++ putU8 (PalletStatus.code x.status)) r := by
  unfold cancelMove
  rw [endMove_idle found idle]; dsimp only
  rw [found]

theorem cancelMove_ends (unique : palletsUnique r) (found : findPallet r x.id = some x) (moves : x.move = some m) : cancelMove x r
    = reply .ok (putLoc x.loc ++ putU8 (PalletStatus.code (restingStatus r x.loc)))
        (endMove x.id (some (NoticeBody.moveCancelled · .request)) r) := by
  have ended := (endMove_carries (carries_found unique found) moves (some (NoticeBody.moveCancelled · .request))).1
  unfold cancelMove; dsimp only
  rw [ended.find]
  rfl

end Requests

theorem exec_moveExpiry {s : State} {x : Pallet} {m : Move} {id : Nat} (running : s.part.running = true)
    (found : findPallet s.part id = some x) (moves : x.move = some m) (due : m.expiry ≤ s.part.time) :
    exec (.moveExpiry id) s = .next { s with part := endMove id (some .moveExpired) (cleared s) } := by
  have expiry : moveExpiry (cleared s) id = some m.expiry := by
    have found' : findPallet (cleared s) id = some x := found
    rw [moveExpiry, found']; dsimp only
    rw [moves]; rfl
  refine (exec_running rfl running).trans (congrArg (fun x => Host.Outcome.next { s with part := x }) (if_pos ?_))
  rw [expiry]
  exact decide_eq_true due

/-- Settles O44: the end of a move by request and by expiry, and the removal of a record that rests. -/
theorem movesEndAndPalletsLeave : Obligations.MovesEndAndPalletsLeave := by
  intro s tag body id unique ended
  refine ⟨fun ht read => ?requests, fun x running found m moves due => ?expiry⟩
  case expiry =>
    obtain ⟨table, credits⟩ := endMove_ends (r := cleared s) unique found moves (some .moveExpired)
    have only := endMove_only id (some .moveExpired) (cleared s)
    have told := told_endMove (carries_found (s := cleared s) unique found) moves .moveExpired
    refine ⟨_, exec_moveExpiry running found moves due, rfl, only.out, ⟨table, credits⟩, fun free => ?_⟩
    obtain ⟨n, mem, own, time⟩ := told free
    exact ⟨n, mem, own, time.trans (only.within .time (by decide))⟩
  case requests =>
    intro r cancel remove
    have unique' : palletsUnique r := (sameTable_renew .warehouse (cleared s)).tallies.unique unique
    have cancels : Reaches cancel .warehouse 27 tag s (palletRequest body cancelMove) :=
      ⟨ht, some .warehouse, _, by decide, rfl, rfl⟩
    have removes : Reaches remove .warehouse 28 tag s (palletRequest body removeRecord) :=
      ⟨ht, some .warehouse, _, by decide, rfl, rfl⟩
    refine ⟨fun zero => ?zero, fun hid absent => ?absent, fun x hid found idle => ?idle, fun x hid found m moves => ?cancelled,
      fun x hid found busy => ?busy, fun x hid found rests => ?removed⟩
    case zero =>
      subst zero
      exact ⟨cancels.reads (palletRequest_zero read), removes.reads (palletRequest_zero read)⟩
    case absent =>
      exact ⟨cancels.reads (palletRequest_absent read hid absent), removes.reads (palletRequest_absent read hid absent)⟩
    case idle =>
      have answer := palletRequest_of (h := cancelMove) read hid found
      obtain ⟨-, rfl⟩ := findPallet_id found
      exact cancels.reads (answer.trans (cancelMove_idle found idle))
    case cancelled =>
      have answer := palletRequest_of (h := cancelMove) read hid found
      obtain ⟨-, rfl⟩ := findPallet_id found
      have only := endMove_only x.id (some (NoticeBody.moveCancelled · .request)) r
      have told := told_endMove (carries_found unique' found) moves (NoticeBody.moveCancelled · .request)
      obtain ⟨table, credits⟩ := endMove_ends unique' found moves (some (NoticeBody.moveCancelled · .request))
      obtain ⟨t, step, kept, ans, same⟩ := cancels.answers (answer.trans (cancelMove_ends unique' found moves)) only rfl
      have warehouse := (same .ports (by simp)).2
      refine ⟨t, step, kept, ans, ⟨(same .pallets (by simp)).trans table, (same .credits (by simp)).trans credits⟩, fun free => ?_⟩
      obtain ⟨n, mem, own, time⟩ := told (warehouse ▸ free)
      refine ⟨n, ?_, own, (time.trans (only.within .time (by decide))).trans (renewed_time _ s)⟩
      show n ∈ t.part.portWarehouse.queue
      rw [warehouse]; exact mem
    case busy => exact removes.reads ((palletRequest_of read hid found).trans (removeRecord_busy busy r))
    case removed =>
      have answer := palletRequest_of (h := removeRecord) read hid found
      obtain ⟨-, rfl⟩ := findPallet_id found
      obtain ⟨rest, u, removed, only, ids, others, credits⟩ := removeRecord_rests unique' found rests
      obtain ⟨t, step, kept, ans, same⟩ := removes.answers (answer.trans removed) only rfl
      have pallets : t.part.pallets = u.pallets := same .pallets (by simp)
      refine ⟨t, step, kept, ⟨rest, ans⟩, ?_, fun y hy other => ?_, fun idle => (same .credits (by simp)).trans (credits idle)⟩
      · rw [pallets]; exact ids
      · rw [pallets]; exact others y hy other

end Sys2Proof.Machine
end
